-- ==== Sys2Proof/Word.lean ====
section
/-!
DEFINITION. The machine's word types and the fixed-size table type every register family and
memory of the QH-2404 model is built from.
-/

namespace Sys2Proof

/-- One byte. -/
abbrev Byte := BitVec 8
/-- A 16-bit halfword. -/
abbrev Half := BitVec 16
/-- A 32-bit register word, little-endian (R304). -/
abbrev Word := BitVec 32
/-- A 64-bit packet memory word or timebase value. -/
abbrev DWord := BitVec 64

/-- A fixed number of like things, indexed by `Fin n`. -/
abbrev Tbl (n : Nat) (α : Type) := Vector α n

/-- A table with every entry equal. -/
def Tbl.fill (n : Nat) {α : Type} (a : α) : Tbl n α := Vector.replicate n a

/-- The entry at `i`. -/
def Tbl.get {n : Nat} {α : Type} (t : Tbl n α) (i : Fin n) : α := t[i.val]'i.isLt

/-- The table with entry `i` replaced. -/
def Tbl.put {n : Nat} {α : Type} (t : Tbl n α) (i : Fin n) (a : α) : Tbl n α := t.set i.val a i.isLt

/-- The table with entry `i` changed by `f`. -/
def Tbl.upd {n : Nat} {α : Type} (t : Tbl n α) (i : Fin n) (f : α → α) : Tbl n α :=
  Tbl.put t i (f (Tbl.get t i))

/-- Every index of a table, in ascending order. -/
def allFin (n : Nat) : List (Fin n) :=
  (List.range n).filterMap fun i => if h : i < n then some ⟨i, h⟩ else none

/-- Do `f` for every index in ascending order. -/
def eachFin {σ : Type} (n : Nat) (f : Fin n → σ → σ) (s : σ) : σ :=
  (allFin n).foldl (fun t i => f i t) s

end Sys2Proof
end

