-- ==== Sys2Proof/Syntax.lean ====
section
/-!
DEFINITION. The commands of the block, one constructor per row of the operation table, with their
operands. A command is a happening at the block's edge (a host request, a register access, a frame, a
pin, a timer that runs out) or one instruction of a port engine.
-/

namespace Sys2Proof

/-- Who makes an access: the master ID of R305, and for master 4 the node it acts for (0 otherwise). -/
structure Who where
  m : Fin 16
  node : BitVec 12
deriving DecidableEq, Repr

/-- What the SECDED check finds at a word (R158). -/
inductive Ecc where
  | none | single | double
deriving DecidableEq, Repr

/-- The engine that executes an instruction, and the ECC outcome of its fetch and of its data access. -/
structure At where
  pe : Fin 8
  fetch : Ecc
  data : Ecc
deriving DecidableEq, Repr

/-- How a queue command comes: a write to QM_Qn_CMD, or an engine's primitive (R130 to R132). -/
inductive QBy where
  | reg (w : Who) (q : Fin 64)
  | prim (a : At) (rd ra rb : Fin 16) (obj : Byte)
deriving DecidableEq, Repr

/-- A USB function of an upstream: one half of a logical hub, or the management function. -/
inductive UsbFn where
  | hub (lh : Fin 6) (hs : Bool)
  | mf (u : Fin 3)
deriving DecidableEq, Repr

/-- Target of an LPM transaction (R65). -/
inductive LpmTarget where
  | hub (lh : Fin 6)
  | device (p : Fin 24) (ack : Bool)
deriving DecidableEq, Repr

/-- Where a wake comes from (R67): a device, a port change (0 connect, 1 disconnect, 2 over-current), an MF event. -/
inductive WakeSrc where
  | device (e : Fin 40) (hs : Bool)
  | portChange (e : Fin 40) (hs : Bool) (kind : Fin 3)
  | mfEvent (u : Fin 3)
deriving DecidableEq, Repr

/-- A SuperSpeed link state that makes an upstream lost (R79). -/
inductive LossLink where
  | ssInactive | ssDisabled | rxDetect | polling
deriving DecidableEq, Repr

/-- Kinds of packet at a crosspoint port (R90). -/
inductive PktKind where
  | ssHeader | ssData | usb2 | engine
deriving DecidableEq, Repr

/-- A packet at its ingress port: what routing reads of it, and its bytes. -/
structure Packet where
  kind : PktKind
  /-- device address of its header or token -/
  addr : BitVec 7
  /-- route string of a downstream SuperSpeed packet -/
  route : BitVec 20
  /-- upstream that an MF packet leaves by -/
  up : Fin 3
  /-- crosspoint port that an engine's packet names -/
  dest : Fin 33
  bytes : List Byte
  /-- received with an error (R97) -/
  poison : Bool
deriving DecidableEq, Repr

/-- A link state record's entry for one port (R223). -/
structure LsPort where
  nbrAddr : BitVec 12
  nbrPort : Fin 4
  up : Bool
  cost : Half
  nbrUid : DWord
deriving DecidableEq, Repr

/-- A link-state record (R223). -/
structure Lsr where
  origin : BitVec 12
  seq : Word
  uid : DWord
  static : Bool
  tref : Bool
  cfault : Bool
  ports : Tbl 4 LsPort
deriving DecidableEq, Repr

/-- A hello (R222). -/
structure Hello where
  port : Fin 4
  static : Bool
  tref : Bool
  cfault : Bool
  fwok : Bool
  seen : Bool
  addr : BitVec 12
  lsSeq : Word
  uid : DWord
  notref : Bool
  tprio : Byte
  dist : BitVec 6
  candUid : DWord
deriving DecidableEq, Repr

/-- Timestamps of one reception: T_rx, and the departure of what it makes each port send. -/
structure Stamps where
  rx : DWord
  tx : Tbl 4 DWord
deriving DecidableEq, Repr

/-- A descriptor of a device: type, index, bytes (R248). -/
structure Desc where
  typ : Byte
  index : Byte
  bytes : List Byte
deriving DecidableEq, Repr

/-- Speed of a device, as CTRL and ODX messages carry it. -/
inductive SpeedCode where
  | ls | fs | hs | gen1 | gen2
deriving DecidableEq, Repr

/-- What a bind's answer tells the importer (R251, R252). -/
structure BindInfo where
  speed : SpeedCode
  breason : Fin 16
  cache : List Desc
deriving DecidableEq, Repr

/-- A remote dictionary message (R239). -/
structure OdxMsg where
  write : Bool
  tag : Byte
  index : Half
  sub : Byte
  /-- of a response -/
  status : Nat
  /-- byte offset of this part, total length, last part -/
  off : Nat
  total : Nat
  last : Bool
  data : List Byte
deriving DecidableEq, Repr

/-- Group inputs in 10 mV units. -/
abbrev VinSample := Tbl 4 (BitVec 13)

/-- A USDO request (R296). -/
inductive UsdoReq where
  | upload (idx : Half) (sub : Byte)
  | upSegment
  /-- a write of `total` bytes beginning with these -/
  | download (idx : Half) (sub : Byte) (total : Nat) (data : List Byte)
  | downSegment (last : Bool) (data : List Byte)
  | abort
deriving DecidableEq, Repr

/-- What makes a TPDO due (R297). -/
inductive PdoCause where
  | change | sync | timer
deriving DecidableEq, Repr

/-- What a patrol samples (R343). -/
inductive PatrolSample where
  /-- slot monitor: slot output and group input, 10 mV units -/
  | slot (p : Fin 24) (vout vin : BitVec 13)
  /-- USB link watch of ports 0 to 26: termination or pull-up present, VBUS present -/
  | link (p : Fin 27) (term vbus : Bool)
  /-- fabric link watch: module inserted, signal present -/
  | fabric (f : Fin 4) (inserted signal : Bool)
  /-- VIN24 monitor -/
  | vin (v : VinSample)
deriving DecidableEq, Repr

/-- What the start finds (R376 to R381): the FIRC trim, and whether the RUN point is acknowledged with the PLL
locked before step 8 ends. -/
structure StartIn where
  ftrim : Half
  runPoint : Bool
deriving DecidableEq, Repr

/-- The commands, in the order of the operation table. -/
inductive Instr where
  /-- R14: TB reaches or passes a multiple of 125,000 ns, so the tick number increments and the ordered tick actions begin. -/
  | tickBoundary
  /-- R19: TB is stepped forward once, at a tick boundary, to correct a phase error above 1 µs. -/
  | tbStep
  /-- R236: TIMEREF_OUT rises for 1 ms at each whole second of TB. -/
  | timerefOutPulse
  /-- R317: A write to SYS_APPLY, or to OD 0x2F03 sub 1, applies the named groups in the next cycle. -/
  | apply (w : Who) (mask : BitVec 16)
  /-- R317: A write to SYS_APPLY_TICK.ARM, or to OD 0x2F03 sub 2, ORs groups into the armed set. -/
  | applyTickArm (w : Who) (mask : BitVec 16)
  /-- R317: A write to SYS_APPLY_TICK.DISARM removes groups from the armed set. -/
  | applyTickDisarm (w : Who) (mask : BitVec 16)
  /-- R26: Rp is seen on CC1 or CC2 of UP_S, and the orientation is taken and routed. -/
  | ccAttach (cc2 : Bool) (rp : Fin 4)
  /-- R382: VBUS appears on an upstream port, which then presents its pull-up and termination. -/
  | vbusRise (u : Fin 3)
  /-- R79: VBUS is absent on an upstream port, which makes that upstream lost. -/
  | vbusFall (u : Fin 3)
  /-- R50: A host configures a hub half, whose ports then report PORT_POWER 0 until the host sets it. -/
  | setConfiguration (fn : UsbFn) (on : Bool)
  /-- R49: GET_STATUS to the hub returns HUB_LOCAL_POWER and HUB_OVER_CURRENT. -/
  | getHubStatus (lh : Fin 6) (hs : Bool)
  /-- R49: GET_STATUS to a port returns the port status from the port state machine, or the fixed status of the internal port. -/
  | getPortStatus (lh : Fin 6) (hs : Bool) (n : Nat) (ext : Bool)
  /-- R49: CLEAR_FEATURE to the hub clears C_HUB_LOCAL_POWER or C_HUB_OVER_CURRENT. -/
  | clearHubFeature (lh : Fin 6) (hs : Bool) (ovc : Bool)
  /-- R50: SetPortFeature(PORT_POWER) powers the port logically and may release FORCE.HOST. -/
  | setPortPower (lh : Fin 6) (hs : Bool) (n : Nat)
  /-- R50: ClearPortFeature(PORT_POWER) unpowers a half, and with HOSTPWR forces the slot off when neither half stays powered. -/
  | clearPortPower (lh : Fin 6) (hs : Bool) (n : Nat)
  /-- R52: The host sets PORT_RESET, and the port runs a USB 2.0 reset or a SuperSpeed hot reset. -/
  | setPortReset (lh : Fin 6) (hs : Bool) (n : Nat)
  /-- R52: The host sets BH_PORT_RESET, and the port starts a warm reset. -/
  | setBhPortReset (lh : Fin 6) (n : Nat)
  /-- R65: The host sets PORT_LINK_STATE, which selectively suspends the port (U3) or runs Rx.Detect. -/
  | setPortLinkState (lh : Fin 6) (n : Nat) (ls : Fin 16)
  /-- R65: The host sets the U1 inactivity timeout of a slot link. -/
  | setPortU1Timeout (lh : Fin 6) (n : Nat) (t : Byte)
  /-- R65: The host sets the U2 inactivity timeout of a slot link. -/
  | setPortU2Timeout (lh : Fin 6) (n : Nat) (t : Byte)
  /-- R67: The host sets which connect, disconnect and over-current changes wake a suspended SuperSpeed tree. -/
  | setPortRemoteWakeMask (lh : Fin 6) (n : Nat) (mask : Byte)
  /-- R49: The host sets FORCE_LINKPM_ACCEPT on a SuperSpeed port. -/
  | setForceLinkpmAccept (lh : Fin 6) (n : Nat) (on : Bool)
  /-- R65: The host selectively suspends a USB 2.0 port. -/
  | setPortSuspend (lh : Fin 6) (n : Nat)
  /-- R49: The host puts a USB 2.0 port into a test mode. -/
  | setPortTest (lh : Fin 6) (n : Nat) (mode : Fin 5)
  /-- R52: The host clears PORT_ENABLE of a USB 2.0 port, which stops forwarding and enters DISABLED. -/
  | clearPortEnable (lh : Fin 6) (n : Nat)
  /-- R69: The host clears PORT_SUSPEND, and the port resumes. -/
  | clearPortSuspend (lh : Fin 6) (n : Nat)
  /-- R49: The host clears one change bit of a port on its half. -/
  | clearPortChange (lh : Fin 6) (hs : Bool) (n : Nat) (bit : Fin 8)
  /-- R65: U1_ENABLE or U2_ENABLE is set on a hub: the tier-1 hub then accepts LGO, and a tier-2 hub only records it. -/
  | setU1U2Enable (lh : Fin 6) (u2 : Bool) (on : Bool)
  /-- R46: The hub returns its SuperSpeed or USB 2.0 hub class descriptor. -/
  | getHubDescriptor (lh : Fin 6) (hs : Bool)
  /-- R43: The host sets the depth that selects the hub's route-string nibble; a value above 4 gets a Request Error. -/
  | setHubDepth (lh : Fin 6) (depth : BitVec 16)
  /-- R49: The hub returns the link error count of a port since its last reset. -/
  | getPortErrCount (lh : Fin 6) (n : Nat)
  /-- R55: The named buffer of the port's TT is freed before the status stage. -/
  | clearTtBuffer (lh : Fin 6) (n : Nat) (buf : Fin 4)
  /-- R55: All buffered transactions of the named port's TT are discarded. -/
  | resetTt (lh : Fin 6) (n : Nat)
  /-- R49: GET_TT_STATE is answered with a Request Error. -/
  | getTtState (lh : Fin 6) (n : Nat)
  /-- R49: STOP_TT is answered with a Request Error. -/
  | stopTt (lh : Fin 6) (n : Nat)
  /-- R49: SET_DESCRIPTOR to a hub half is answered with a Request Error. -/
  | setDescriptor (lh : Fin 6) (hs : Bool)
  /-- R56: A host poll of a status-change endpoint returns the change bitmap, or NAK or NRDY when no bit is set. -/
  | statusChangePoll (lh : Fin 6) (hs : Bool)
  /-- R58: The MF returns its 32-byte information block. -/
  | getInfo (u : Fin 3)
  /-- R58: The MF returns this master's last status code and clears it. -/
  | getStatusCode (u : Fin 3)
  /-- R58: The MF reads a dictionary entry value. -/
  | odRead (u : Fin 3) (idx : BitVec 16) (sub : Byte) (len : Nat)
  /-- R58: The MF writes a dictionary entry, validated and taking effect as the entry states. -/
  | odWrite (u : Fin 3) (idx : BitVec 16) (sub : Byte) (data : List Byte)
  /-- R58: The MF returns consecutive 32-bit register words. -/
  | regRead (u : Fin 3) (addr : Word) (len : Nat)
  /-- R58: The MF performs one 32-bit register write under the lease and key rules. -/
  | regWrite (u : Fin 3) (addr : Word) (val : Word)
  /-- R286: A master acquires the free lease (MF LEASE 1, OD 0x2F01 sub 1, or SYS_LEASE), which starts a 10 s timer. -/
  | leaseAcquire (w : Who)
  /-- R286: The lease owner renews the lease timer to 10 s. -/
  | leaseRenew (w : Who)
  /-- R286: The owner releases the lease, which discards its pending shadows and ends the commissioning level. -/
  | leaseRelease (w : Who)
  /-- R286: The lease timer expires, which acts as a release and counts EV8. -/
  | leaseExpired
  /-- R327: A write to EV_SEENn (MF EVENT_ACK, OD 0x5801) acknowledges occurrences if the value lies in range. -/
  | eventAck (w : Who) (n : Fin 64) (count : Half)
  /-- R58: IMAGE_CTL begin starts loading the inactive image slot; a begin that names the running image is refused. -/
  | imageBegin (m : Fin 16) (slot : Fin 2)
  /-- R58: One 4,096-byte block of image data is written at its offset. -/
  | imageData (m : Fin 16) (block : Half) (data : List Byte)
  /-- R184: IMAGE_CTL end-and-verify checks the image, which becomes VALID, or TRIAL and started in the boot-ROM wait. -/
  | imageEndVerify (m : Fin 16)
  /-- R58: IMAGE_CTL abort ends the image load in progress. -/
  | imageAbort (m : Fin 16)
  /-- R61: A dictionary message with OPCODE read is taken from bulk OUT and answered in order. -/
  | dictMsgRead (u : Fin 3) (tag : Byte) (idx : Half) (sub : Byte)
  /-- R61: A dictionary message with OPCODE write is taken from bulk OUT and answered in order. -/
  | dictMsgWrite (u : Fin 3) (tag : Byte) (idx : Half) (sub : Byte) (data : List Byte)
  /-- R52: Far-end SuperSpeed termination is detected on a POWERED port, which starts Polling. -/
  | ssTerminationDetected (p : Fin 24)
  /-- R52: Polling reaches U0, and the port sets its connection bits and enters ENABLED. -/
  | pollingU0 (p : Fin 24) (gen2 : Bool)
  /-- R52: A Polling attempt fails after 360 ms; after 8 consecutive failures the SuperSpeed half is held in SS.Disabled. -/
  | pollingFail (p : Fin 24)
  /-- R54: A USB 2.0 connect is accepted for 2.5 µs, and the port sets its connection bits and enters DISABLED. -/
  | usb2Connect (p : Fin 24) (low : Bool)
  /-- R52: SE0 for 2.5 µs is a disconnect, which clears the connection bits and returns the port to POWERED. -/
  | usb2Disconnect (p : Fin 24)
  /-- R52: The 15 ms USB 2.0 reset drive ends: the port enables, or records a detach if the line reads SE0. -/
  | usb2ResetComplete (p : Fin 24) (se0 : Bool) (chirp : Bool)
  /-- R52: A SuperSpeed hot reset completes, which sets C_PORT_RESET and ENABLED. -/
  | hotResetComplete (p : Fin 24)
  /-- R52: A hot reset is not complete at 16 ms, so the port starts a warm reset. -/
  | hotResetTimeout (p : Fin 24)
  /-- R52: A warm reset reaches U0, which sets C_PORT_RESET and C_BH_PORT_RESET. -/
  | warmResetComplete (p : Fin 24) (gen2 : Bool)
  /-- R52: A warm reset is not in U0 at 200 ms, so the port enters ERROR with SS.Inactive. -/
  | warmResetTimeout (p : Fin 24)
  /-- R52: Far-end termination is lost during a reset or in ERROR, which clears the connection. -/
  | ssTerminationLost (p : Fin 24)
  /-- R52: A slot link enters U3 or USB 2.0 suspend, and the port enters SUSPENDED. -/
  | portSuspendEntered (e : Fin 40)
  /-- R52: A slot link enters SS.Inactive, which sets C_PORT_LINK_STATE and enters ERROR. -/
  | ssInactive (p : Fin 24)
  /-- R52: A suspended port completes its resume and returns to ENABLED. -/
  | portResumeComplete (e : Fin 40)
  /-- R65: LGO_U1 or LGO_U2 on the tier-1 upstream is accepted or rejected by the enables. -/
  | lgoU1U2 (u : Fin 3) (u2 : Bool)
  /-- R72: LGO_U3 is received, which opens the U3 entry window. -/
  | lgoU3 (u : Fin 3)
  /-- R65: The tier-1 SuperSpeed upstream enters U3, so every active SuperSpeed port of the tree is taken to U3. -/
  | upstreamU3Entry (u : Fin 3)
  /-- R65: The tier-1 USB 2.0 upstream has been idle for 3 ms, so the USB 2.0 ports stop and are marked tree-suspended. -/
  | upstreamL2Idle (u : Fin 3)
  /-- R65: An LPM transaction is ACKed, NYETed or forwarded, depending on its target. -/
  | lpmTransaction (target : LpmTarget)
  /-- R67: A wake from a device or a port change in a suspended tree is propagated upstream if enabled. -/
  | deviceWake (wake : WakeSrc)
  /-- R69: The host resumes the tier-1 upstream, and the device resumes the tree. -/
  | hostResume (u : Fin 3) (hs : Bool)
  /-- R72: A wake latched in an entry window is replayed after the window closes, and EV27 counts. -/
  | wakeReplay (u : Fin 3) (hs : Bool)
  /-- R73: A USB 2.0 reset returns the tree's USB 2.0 halves and the MF to default and ends that master's sessions. It ends at high
  speed where the host answers the chirp (`hi`); `mid`: a vendor request's data stage had not completed. -/
  | upstreamUsb2Reset (u : Fin 3) (hi : Bool) (mid : Bool)
  /-- R73: A SuperSpeed hot reset returns the tree's SuperSpeed halves to default. -/
  | upstreamHotReset (u : Fin 3)
  /-- R73: A SuperSpeed warm reset returns the tree's SuperSpeed halves to default. -/
  | upstreamWarmReset (u : Fin 3)
  /-- R79: An upstream becomes lost, so its tree and MF act as on a link loss and its failover set may enter WATCH. `l` is
  the state its SuperSpeed link stands in; `mid`: a vendor request's data stage had not completed. -/
  | upstreamLinkLoss (u : Fin 3) (l : LossLink) (mid : Bool)
  /-- R81: A lost upstream becomes present, so a WATCH or PENDING set returns to NORMAL. `ss`: through its SuperSpeed
  link in U0; otherwise by USB 2.0-only operation (R79). -/
  | upstreamPresent (u : Fin 3) (ss : Bool)
  /-- R75: A device still transmits at EOF2, so the port is cut off and disabled. -/
  | babble (p : Fin 24)
  /-- R76: An overlong payload or too many Recovery entries in a tick cut off the SuperSpeed half. -/
  | overrun (p : Fin 24)
  /-- R78: OD 0x3231 or USBP_Pn_CUTACK clears BABBLER and the recent list. -/
  | babblerAck (w : Who) (p : Fin 24)
  /-- R81: FAIL_HOLD expires in WATCH, so the set fails over to Y or goes to PENDING. -/
  | failHoldExpired (x : Fin 2)
  /-- R81: Y becomes present while the set is PENDING, so the set fails over. -/
  | alternatePresent (x : Fin 2)
  /-- R80: X's tier-1 hub is not configured within START_WAIT, so the machine acts as if FAIL_HOLD had expired. -/
  | startWaitExpired (x : Fin 2)
  /-- R81: A handover command (OD 0x3240 sub 6 codes 1 and 2, or USBP_FO_CMD) is taken at the next tick. -/
  | handover (x : Fin 2)
  /-- R86: A failback command (codes 3 and 4) returns an ACTIVE set to X, or is refused. -/
  | failback (x : Fin 2)
  /-- R83: At the tick after a detach, the standby hub connects on Y's tier-1 port P+1. -/
  | reattach (x : Fin 2)
  /-- R83: A HELD link leaves Recovery other than in U0, so HELD and bridging end. -/
  | heldRelease (p : Fin 24)
  /-- R84: Bridging ends 10 s after it began. -/
  | bridgeTimeout (p : Fin 24)
  /-- R92: A packet header becomes valid at an ingress port and is routed or discarded in one cycle. -/
  | packetIngress (x : Fin 33) (pkt : Packet)
  /-- R101: The two core copies disagree, so both halt, traffic in flight is stomped and ingress is held off. -/
  | lockstepMismatch (g : Fin 35)
  /-- R102: All egress ports have ended their packets, so the copies reset and the test pattern runs. -/
  | haltDrainComplete (ok : Bool)
  /-- R102: The queue state and map are reloaded, so the core returns to RUN and ingress is released. -/
  | rebuildComplete
  /-- R102: XBAR_LS_INJ.GO inverts copy B in one group for one cycle, which causes a real mismatch. -/
  | lsInject (w : Who) (g : Fin 64)
  /-- R106: An egress port sends no beat for STALL_LIM, so its queue is flushed and EV22 counts. -/
  | egressStall (x : Fin 33)
  /-- R128: An engine enqueues a whole item (SOP and EOP) under admission. -/
  | enq (a : At) (rd : Fin 16) (ra : Fin 16) (rb : Fin 16) (obj : Byte)
  /-- R426: An engine enqueues the first part of an item (SOP only). -/
  | enqf (a : At) (rd : Fin 16) (ra : Fin 16) (rb : Fin 16) (obj : Byte)
  /-- R426: An engine enqueues a middle part of its item in progress. -/
  | enqm (a : At) (rd : Fin 16) (ra : Fin 16) (rb : Fin 16) (obj : Byte)
  /-- R426: An engine enqueues the last part of its item (EOP only), which commits it. -/
  | enql (a : At) (rd : Fin 16) (ra : Fin 16) (rb : Fin 16) (obj : Byte)
  /-- R176: An engine dequeues the next item or part of an item into its memory. -/
  | deq (a : At) (rd : Fin 16) (ra : Fin 16) (rb : Fin 16) (obj : Byte)
  /-- R176: An engine reads the next item header without consuming it. -/
  | peek (a : At) (rd : Fin 16) (ra : Fin 16) (rb : Fin 16) (obj : Byte)
  /-- R176: An engine reads QM_Qn_STAT. -/
  | qstat (a : At) (rd : Fin 16) (ra : Fin 16) (rb : Fin 16) (obj : Byte)
  /-- R130: QM_Qn_CMD.FLUSH or the FLUSH primitive empties both banks of an enabled queue. -/
  | flush (by_ : QBy)
  /-- R131: MARK sets the queue's mark at the consumer's read position. -/
  | mark (by_ : QBy)
  /-- R131: UNMARK clears the mark and releases any HELD bank. -/
  | unmark (by_ : QBy)
  /-- R132: REWIND (RWND) moves the read position back to the mark. -/
  | rewind (by_ : QBy)
  /-- R119: The QM exchanges PING and PONG once the consumer bank is drained and the producer bank holds an item. -/
  | bankSwap (q : Fin 64)
  /-- R124: An egress port waits more than four cycles for a cut-through word and ends the packet as an abort. -/
  | cutThroughWaitExpired (x : Fin 33)
  /-- R112: The background agent reads one 32-byte block of a bank to check parity. -/
  | scrubRead (b : Fin 16) (upset : BitVec 4)
  /-- R111: A 32-bit read of the packet memory window returns data, with an error response if parity is bad. -/
  | windowRead (w : Who) (addr : Word)
  /-- R111: A read-merge-write of a window word, refused in enabled queue banks or while WINRO is set. -/
  | windowWrite (w : Who) (addr : Word) (val : Word)
  /-- R137: A write to WM_CROSS subtracts the written value, stopping at 0. -/
  | wmCrossWrite (w : Who) (q : Fin 64) (n : Half)
  /-- R144: A free arbitration point makes an age or priority grant among waiting requesters. -/
  | pointDecision (pt : Fin 49) (raised : List (Fin 48)) (dc : Nat)
  /-- R153: A request's wait reaches WARN, so EV45 counts and WARNCNT increments. -/
  | arbWaitWarn (pt : Fin 49) (r : Fin 48)
  /-- R154: A write to ARB_Bk_STAT or ARB_Ek_STAT sets MAXWAIT to 0. -/
  | maxwaitReset (w : Who) (pt : Fin 49)
  /-- R149: An engine gates its clock on its outstanding Keystone request. -/
  | waitg (a : At) (rd : Fin 16) (ra : Fin 16) (rb : Fin 16) (obj : Byte)
  /-- R149: EST cycles pass since WAITG, and the engine resumes with its request kept. -/
  | waitgWake (pe : Fin 8)
  /-- R176: An engine reads its grant forecast ARB_PEn_FC. -/
  | fcrd (a : At) (rd : Fin 16) (ra : Fin 16) (rb : Fin 16) (obj : Byte)
  /-- R160: An IDLE engine starts its tick program or the handler of the lowest pending source. -/
  | engineRunStart (pe : Fin 8)
  /-- R163: The budget window ends without TEND, so EV4 counts; a third consecutive overrun resets the engine. -/
  | tickOverrun (pe : Fin 8)
  /-- R166: The engine watchdog reaches 0, so the engine is reset with cause WATCHDOG. -/
  | watchdogExpiry (pe : Fin 8)
  /-- R168: The IRAM signature check ends: the engine starts INIT, or a reload is requested. -/
  | iramCheckComplete (pe : Fin 8)
  /-- R168: The reload from the running image completes, and the engine enters CHECK again. -/
  | engineReloadComplete (pe : Fin 8)
  /-- R169: 100 ms pass without the engine's return, so its slot ports go to DISCONNECTED. -/
  | portHoldExpired (pe : Fin 8)
  /-- R178: A timer expires, which makes its handler source pending and stops or reloads the timer. -/
  | timerExpiry (t : Fin 16)
  /-- R162: Writing 1 to SYS_PEn_CTL.HOLD resets or holds the engine in RESET. -/
  | holdSet (w : Who) (pe : Fin 8)
  /-- R162: Writing 0 to HOLD lets a RESET engine start its IRAM check. -/
  | holdClear (w : Who) (pe : Fin 8)
  /-- R162: SYS_PEn_CTL.RST or OD 0x5845 resets the engine once with cause COMMAND. -/
  | engineRst (w : Who) (pe : Fin 8) (od : Bool)
  /-- R173: rd gets ra plus rb. -/
  | add (a : At) (rd : Fin 16) (ra : Fin 16) (rb : Fin 16)
  /-- R173: rd gets ra minus rb. -/
  | sub (a : At) (rd : Fin 16) (ra : Fin 16) (rb : Fin 16)
  /-- R173: rd gets ra AND rb. -/
  | and_ (a : At) (rd : Fin 16) (ra : Fin 16) (rb : Fin 16)
  /-- R173: rd gets ra OR rb. -/
  | or_ (a : At) (rd : Fin 16) (ra : Fin 16) (rb : Fin 16)
  /-- R173: rd gets ra XOR rb. -/
  | xor_ (a : At) (rd : Fin 16) (ra : Fin 16) (rb : Fin 16)
  /-- R173: Shift left logical by rb[4:0]. -/
  | sll (a : At) (rd : Fin 16) (ra : Fin 16) (rb : Fin 16)
  /-- R173: Shift right logical by rb[4:0]. -/
  | srl (a : At) (rd : Fin 16) (ra : Fin 16) (rb : Fin 16)
  /-- R173: Shift right arithmetic by rb[4:0]. -/
  | sra (a : At) (rd : Fin 16) (ra : Fin 16) (rb : Fin 16)
  /-- R173: rd gets 1 if ra is less than rb, signed. -/
  | slt (a : At) (rd : Fin 16) (ra : Fin 16) (rb : Fin 16)
  /-- R173: rd gets 1 if ra is less than rb, unsigned. -/
  | sltu (a : At) (rd : Fin 16) (ra : Fin 16) (rb : Fin 16)
  /-- R173: rd gets the low 32 bits of the product. -/
  | mul (a : At) (rd : Fin 16) (ra : Fin 16) (rb : Fin 16)
  /-- R173: rd gets the high 32 bits of the unsigned product. -/
  | mulhu (a : At) (rd : Fin 16) (ra : Fin 16) (rb : Fin 16)
  /-- R173: rd gets ra plus the sign-extended immediate. -/
  | addi (a : At) (rd : Fin 16) (ra : Fin 16) (imm : BitVec 18)
  /-- R173: rd gets ra AND the zero-extended immediate. -/
  | andi (a : At) (rd : Fin 16) (ra : Fin 16) (imm : BitVec 18)
  /-- R173: rd gets ra OR the zero-extended immediate. -/
  | ori (a : At) (rd : Fin 16) (ra : Fin 16) (imm : BitVec 18)
  /-- R173: rd gets ra XOR the zero-extended immediate. -/
  | xori (a : At) (rd : Fin 16) (ra : Fin 16) (imm : BitVec 18)
  /-- R173: Shift left logical by the immediate. -/
  | slli (a : At) (rd : Fin 16) (ra : Fin 16) (imm : BitVec 18)
  /-- R173: Shift right logical by the immediate. -/
  | srli (a : At) (rd : Fin 16) (ra : Fin 16) (imm : BitVec 18)
  /-- R173: Shift right arithmetic by the immediate. -/
  | srai (a : At) (rd : Fin 16) (ra : Fin 16) (imm : BitVec 18)
  /-- R173: rd gets 1 if ra is less than the immediate, signed. -/
  | slti (a : At) (rd : Fin 16) (ra : Fin 16) (imm : BitVec 18)
  /-- R173: rd gets imm18 shifted left by 14, ORed with ra[13:0]. -/
  | himm (a : At) (rd : Fin 16) (ra : Fin 16) (imm : BitVec 18)
  /-- R173: Load a word from ra plus the immediate. -/
  | lw (a : At) (rd : Fin 16) (ra : Fin 16) (imm : BitVec 18)
  /-- R173: Load a signed halfword. -/
  | lh (a : At) (rd : Fin 16) (ra : Fin 16) (imm : BitVec 18)
  /-- R173: Load an unsigned halfword. -/
  | lhu (a : At) (rd : Fin 16) (ra : Fin 16) (imm : BitVec 18)
  /-- R173: Load a signed byte. -/
  | lb (a : At) (rd : Fin 16) (ra : Fin 16) (imm : BitVec 18)
  /-- R173: Load an unsigned byte. -/
  | lbu (a : At) (rd : Fin 16) (ra : Fin 16) (imm : BitVec 18)
  /-- R173: Store a word; a global store is posted. -/
  | sw (a : At) (rd : Fin 16) (ra : Fin 16) (imm : BitVec 18)
  /-- R173: Store a halfword by read, merge and rewrite. -/
  | sh (a : At) (rd : Fin 16) (ra : Fin 16) (imm : BitVec 18)
  /-- R173: Store a byte by read, merge and rewrite. -/
  | sb (a : At) (rd : Fin 16) (ra : Fin 16) (imm : BitVec 18)
  /-- R159: Atomically exchange an ECM word with rb. -/
  | swap (a : At) (rd : Fin 16) (ra : Fin 16) (rb : Fin 16)
  /-- R159: Atomically add rb to an ECM word and return its old value. -/
  | fadd (a : At) (rd : Fin 16) (ra : Fin 16) (rb : Fin 16)
  /-- R173: Branch if ra equals rb. -/
  | beq (a : At) (ra : Fin 16) (rb : Fin 16) (off : BitVec 18)
  /-- R173: Branch if ra differs from rb. -/
  | bne (a : At) (ra : Fin 16) (rb : Fin 16) (off : BitVec 18)
  /-- R173: Branch if ra is less than rb, signed. -/
  | blt (a : At) (ra : Fin 16) (rb : Fin 16) (off : BitVec 18)
  /-- R173: Branch if ra is greater than or equal to rb, signed. -/
  | bge (a : At) (ra : Fin 16) (rb : Fin 16) (off : BitVec 18)
  /-- R173: Branch if ra is less than rb, unsigned. -/
  | bltu (a : At) (ra : Fin 16) (rb : Fin 16) (off : BitVec 18)
  /-- R173: Branch if ra is greater than or equal to rb, unsigned. -/
  | bgeu (a : At) (ra : Fin 16) (rb : Fin 16) (off : BitVec 18)
  /-- R173: Jump by a word offset. -/
  | j (a : At) (off : BitVec 26)
  /-- R173: Jump and write PC plus 4 to g15. -/
  | jal (a : At) (off : BitVec 26)
  /-- R173: Jump to ra plus the immediate and link in rd. -/
  | jalr (a : At) (rd : Fin 16) (ra : Fin 16) (imm : BitVec 18)
  /-- R162: End the tick program or the restart code. -/
  | tend (a : At) (rd : Fin 16) (ra : Fin 16) (rb : Fin 16)
  /-- R162: End the handler and return the engine to IDLE. -/
  | reth (a : At) (rd : Fin 16) (ra : Fin 16) (rb : Fin 16)
  /-- R166: Reload the watchdog with WD_TICKS. -/
  | wdog (a : At) (rd : Fin 16) (ra : Fin 16) (rb : Fin 16)
  /-- R173: Read LATE, OVRSEQ, SKIPPED and the tick number of this run. -/
  | tstat (a : At) (rd : Fin 16) (ra : Fin 16) (rb : Fin 16)
  /-- R173: Read the pending tick entry, handler sources, mailbox and timers. -/
  | evtst (a : At) (rd : Fin 16) (ra : Fin 16) (rb : Fin 16)
  /-- R399: Debug breakpoint; it halts the engine while a session is granted, and is otherwise a no-operation. -/
  | brk (a : At) (rd : Fin 16) (ra : Fin 16) (rb : Fin 16)
  /-- R173: Wait until all posted global stores have completed. -/
  | fence (a : At) (rd : Fin 16) (ra : Fin 16) (rb : Fin 16)
  /-- R176: Read USBP_Pp_STATE of a port. -/
  | lstat (a : At) (rd : Fin 16) (ra : Fin 16) (rb : Fin 16) (obj : Byte)
  /-- R176: Request a link state on a served port. -/
  | lset (a : At) (rd : Fin 16) (ra : Fin 16) (rb : Fin 16) (obj : Byte)
  /-- R176: Set port status and change bits on one half of a served port. -/
  | pfset (a : At) (rd : Fin 16) (ra : Fin 16) (rb : Fin 16) (obj : Byte)
  /-- R176: Clear port status and change bits on one half of a served port. -/
  | pfclr (a : At) (rd : Fin 16) (ra : Fin 16) (rb : Fin 16) (obj : Byte)
  /-- R176: Start a USB 2.0, hot or warm reset on a served port. -/
  | prst (a : At) (rd : Fin 16) (ra : Fin 16) (rb : Fin 16) (obj : Byte)
  /-- R176: Start wake or resume signalling, or end a resume, on a served port. -/
  | psig (a : At) (rd : Fin 16) (ra : Fin 16) (rb : Fin 16) (obj : Byte)
  /-- R178: Start an owned timer as a one-shot. -/
  | tset (a : At) (rd : Fin 16) (ra : Fin 16) (rb : Fin 16) (obj : Byte)
  /-- R178: Start an owned timer as a periodic timer. -/
  | tsetp (a : At) (rd : Fin 16) (ra : Fin 16) (rb : Fin 16) (obj : Byte)
  /-- R178: Stop an owned timer. -/
  | tstop (a : At) (rd : Fin 16) (ra : Fin 16) (rb : Fin 16) (obj : Byte)
  /-- R176: Read the remaining µs of a timer. -/
  | trd (a : At) (rd : Fin 16) (ra : Fin 16) (rb : Fin 16) (obj : Byte)
  /-- R176: Increment a firmware-postable event counter; a hardware-sourced event is REFUSED. -/
  | evpost (a : At) (rd : Fin 16) (ra : Fin 16) (rb : Fin 16) (obj : Byte)
  /-- R176: Read EV_CNTn and EV_SEENn. -/
  | evrd (a : At) (rd : Fin 16) (ra : Fin 16) (rb : Fin 16) (obj : Byte)
  /-- R176: Read a dictionary value through the ECM directory, or return PENDING. -/
  | odrd (a : At) (rd : Fin 16) (ra : Fin 16) (rb : Fin 16) (obj : Byte)
  /-- R176: Write a dictionary value through the ECM directory, or return PENDING. -/
  | odwr (a : At) (rd : Fin 16) (ra : Fin 16) (rb : Fin 16) (obj : Byte)
  /-- R176: Advance a CRC-32C register by one byte. -/
  | crcb (a : At) (rd : Fin 16) (ra : Fin 16) (rb : Fin 16) (obj : Byte)
  /-- R176: Advance a CRC-32C register by one word. -/
  | crcw (a : At) (rd : Fin 16) (ra : Fin 16) (rb : Fin 16) (obj : Byte)
  /-- R176: Advance a CRC-32C register over rb bytes from memory. -/
  | crcm (a : At) (rd : Fin 16) (ra : Fin 16) (rb : Fin 16) (obj : Byte)
  /-- R176: Read TB[31:0] and latch TB[63:32]. -/
  | tbrd (a : At) (rd : Fin 16) (ra : Fin 16) (rb : Fin 16) (obj : Byte)
  /-- R176: Read the latched TB[63:32]. -/
  | tbrh (a : At) (rd : Fin 16) (ra : Fin 16) (rb : Fin 16) (obj : Byte)
  /-- R176: Gate the engine clock until TB reaches a target. -/
  | twait (a : At) (rd : Fin 16) (ra : Fin 16) (rb : Fin 16) (obj : Byte)
  /-- R176: TB reaches the TWAIT target, and the engine resumes. -/
  | twaitWake (pe : Fin 8)
  /-- R176: Read the tick number. -/
  | tknum (a : At) (rd : Fin 16) (ra : Fin 16) (rb : Fin 16) (obj : Byte)
  /-- R217: An engine sends a fabric frame of a given class and traffic class. -/
  | fsend (a : At) (rd : Fin 16) (ra : Fin 16) (rb : Fin 16) (obj : Byte)
  /-- R229: Read the active route entry of a node. -/
  | froute (a : At) (rd : Fin 16) (ra : Fin 16) (rb : Fin 16) (obj : Byte)
  /-- R190: Command the ramp of a slot. -/
  | spon (a : At) (rd : Fin 16) (ra : Fin 16) (rb : Fin 16) (obj : Byte)
  /-- R176: Command a slot off. -/
  | spoff (a : At) (rd : Fin 16) (ra : Fin 16) (rb : Fin 16) (obj : Byte)
  /-- R202: Set FORCE.FIRMWARE of a slot. -/
  | spfrc (a : At) (rd : Fin 16) (ra : Fin 16) (rb : Fin 16) (obj : Byte)
  /-- R202: Clear FORCE.FIRMWARE of a slot. -/
  | sprel (a : At) (rd : Fin 16) (ra : Fin 16) (rb : Fin 16) (obj : Byte)
  /-- R203: Set a slot's current limit; a raise is subject to the budget. -/
  | splim (a : At) (rd : Fin 16) (ra : Fin 16) (rb : Fin 16) (obj : Byte)
  /-- R176: Read SPW_Sn_STAT. -/
  | spst (a : At) (rd : Fin 16) (ra : Fin 16) (rb : Fin 16) (obj : Byte)
  /-- R199: Close or open a group FET. -/
  | spgrp (a : At) (rd : Fin 16) (ra : Fin 16) (rb : Fin 16) (obj : Byte)
  /-- R176: Place an engine packet in the egress queue of a crosspoint port. -/
  | psend (a : At) (rd : Fin 16) (ra : Fin 16) (rb : Fin 16) (obj : Byte)
  /-- R184: ACTIVATE makes the other slot TRIAL, retires the running slot and resets the module. -/
  | imageActivate (w : Who)
  /-- R184: CONFIRM makes the running TRIAL slot GOOD. -/
  | imageConfirm (w : Who)
  /-- R184: RESTORE makes the RETIRED other slot GOOD and resets the module. -/
  | imageRestore (w : Who)
  /-- R184: A TRIAL slot is not confirmed within CONFIRM_WAIT and becomes RETIRED. -/
  | trialExpired
  /-- R188: A seating pin reads seated on an OFF slot, which enters SEATING. -/
  | pinSeated (p : Fin 24) (pinB : Bool)
  /-- R189: A pin reads unseated in two samples, so a powered slot turns off with REASON REMOVED. -/
  | seatingLost (p : Fin 24) (lostA : Bool) (lostB : Bool)
  /-- R201: Both pins read unseated in ten samples, which clears trip state and sends the slot to OFF. -/
  | withdrawal (p : Fin 24)
  /-- R188: Exactly one pin stays seated for 1 s, which sets SKEW and counts EV60. -/
  | skewTimeout (p : Fin 24)
  /-- R190: At a tick, PE1 starts the ramp of the first slot that meets all start conditions. -/
  | slotRampStart
  /-- R197: The gate has not risen 1 ms into the ramp, so the slot enters FET_FAULT with REASON GATE. -/
  | gateRiseFail (p : Fin 24)
  /-- R195: VOUT is below 2 V at RAMP_TIMEOUT, so the slot trips START_SHORT. -/
  | rampTimeout (p : Fin 24)
  /-- R192: VOUT comes within 0.5 V of the group input, and the slot is ON. -/
  | rampComplete (p : Fin 24)
  /-- R188: 1 s of ramp time elapses, so the slot trips RAMP_LONG. -/
  | rampLong (p : Fin 24)
  /-- R194: The current passes the fast-trip threshold, so the gate discharges and the slot trips. -/
  | fastTrip (p : Fin 24)
  /-- R196: Every 2 µs the thermal model of each slot FET is evaluated. -/
  | modelUpdate (p : Fin 24) (vds : Half) (iout : Half) (vout : BitVec 13) (tsense : BitVec 11)
  /-- R193: The gate driver starts regulating at LIMIT or PCEIL, and the slot enters FOLDBACK. -/
  | foldbackEntry (p : Fin 24)
  /-- R193: Regulation ends before OC_TIME, and the slot returns to ON. -/
  | foldbackExit (p : Fin 24)
  /-- R193: Regulation lasts OC_TIME, so the slot trips OVERCURRENT. -/
  | overcurrent (p : Fin 24)
  /-- R197: A commanded-on gate falls below threshold for 10 µs, a gate fault found in service. -/
  | gateFault (p : Fin 24)
  /-- R197: A group FET gate fails to rise or falls while closed, so GFAULT sets and the group opens. -/
  | groupGateFault (g : Fin 4)
  /-- R188: After 60 s continuously in ON or FOLDBACK, RETRIES is set to 0. -/
  | retriesReset (p : Fin 24)
  /-- R188: PE1 at a tick takes a TRIPPED slot to RETRY_WAIT or LOCKOUT. -/
  | tripHandling (p : Fin 24)
  /-- R200: OFF_REMAIN reaches 0 in RETRY_WAIT, so RETRIES increments and the slot goes to SEATING. -/
  | backoffExpired (p : Fin 24)
  /-- R201: OD 0x3000+s sub 7 or SPW_Sn_CMD.CLRLOCK clears LOCKED and RETRIES. -/
  | lockoutClear (w : Who) (p : Fin 24)
  /-- R199: A commissioning-level clear (OD 0x3100+s sub 13 or FCLR) ends FET_FAULT and recloses the group. -/
  | fetFaultClear (w : Who) (p : Fin 24)
  /-- R202: SPW_Sn_CMD.FRC sets FORCE.FIRMWARE. -/
  | slotCmdFrc (w : Who) (p : Fin 24)
  /-- R202: SPW_Sn_CMD.REL clears FORCE.FIRMWARE. -/
  | slotCmdRel (w : Who) (p : Fin 24)
  /-- R198: A slot FET is found shorted, so the slot enters FET_FAULT SHORTED. -/
  | shortedFet (p : Fin 24)
  /-- R204: The level, slope or spread condition raises the input warning and drives SWARN_N. -/
  | inputWarning (vin : VinSample) (slope : Bool)
  /-- R204: After 10 ms of good input, the warning clears and held ramps continue. -/
  | inputWarningClear (vin : VinSample)
  /-- R205: The lowest group input is below 18.0 V for 50 µs, so every powered slot turns off with REASON INPUT. -/
  | inputUndervoltage (vin : VinSample)
  /-- R197: SPW_Gg_CMD.OPEN or OD 0x2041 subs 5–8 opens a group FET, and its powered slots turn off. -/
  | groupOpen (w : Who) (g : Fin 4)
  /-- R199: A command closes a group FET, with the gate-rise check, or it is reopened for a shorted slot. -/
  | groupClose (g : Fin 4)
  /-- R203: A write of SPW_Sn_LIMIT lowers at once, or raises only if the budget fits. -/
  | limitWrite (w : Who) (p : Fin 24) (limit : BitVec 6)
  /-- R213: A fabric frame is received and checked, then delivered, forwarded or discarded. -/
  | frameReceive (f : Fin 4) (bytes : List Byte) (aborted : Bool) (stamps : Stamps)
  /-- R215: A credit block gives the partner's STOP and RF bits. -/
  | creditBlockReceive (f : Fin 4) (stop : BitVec 4) (rf : Bool)
  /-- R215: A port sends a credit block at least every 1 µs and on any change. -/
  | creditBlockSend (f : Fin 4)
  /-- R220: Block lock held for 1 ms without LOS moves a DOWN port to TRAIN. -/
  | blockLockAcquired (f : Fin 4)
  /-- R220: 16 valid credit blocks and a valid hello move the port to PROBE with a DREQ. -/
  | trainComplete (f : Fin 4) (t1 : DWord)
  /-- R220: TRAIN lasts 100 ms, so the port returns to DOWN. -/
  | trainTimeout (f : Fin 4)
  /-- R220: A partner hello with SEEN 1 and one delay measured bring the port UP. -/
  | probeComplete (f : Fin 4)
  /-- R220: PROBE lasts 50 ms, so the port returns to DOWN. -/
  | probeTimeout (f : Fin 4)
  /-- R220: LOS or loss of block lock for LOS_DB takes an UP port DOWN and flushes its queue. -/
  | lossOfSignal (f : Fin 4) (lock : Bool)
  /-- R220: Two consecutive credit blocks with RF take an UP port DOWN. -/
  | remoteFault (f : Fin 4)
  /-- R220: No valid hello for HELLO_DEAD, or bad hellos, take an UP port DOWN. -/
  | helloDead (f : Fin 4)
  /-- R220: A port in FAULT returns to DOWN after 10 s. -/
  | faultHoldExpired (f : Fin 4)
  /-- R222: Port hardware sends a hello every 1 ms on each port in TRAIN, PROBE or UP. -/
  | helloSend (f : Fin 4)
  /-- R222: A hello is checked and its neighbour fields are kept; a changed hello is copied to Q53. -/
  | helloReceive (f : Fin 4) (hello : Hello)
  /-- R223: PE5 sends a new LSR within one tick of a change of its port states. -/
  | lsrSend
  /-- R223: PE5 re-sends its LSR every LS_REFRESH. -/
  | lsrRefresh
  /-- R224: A flooded record is installed and forwarded, ignored as a duplicate, or answered with a newer copy. -/
  | lsrReceive (f : Fin 4) (src : BitVec 12) (ttl : BitVec 6) (lsr : Lsr)
  /-- R223: A record not refreshed within LS_MAXAGE is removed. -/
  | lsrExpire (uid : DWord)
  /-- R226: An unaddressed node broadcasts an ADDRREQ at first UP and every 1 s. -/
  | addrreqSend
  /-- R226: The steward grants an address with an ADDR. -/
  | addrreqReceive (f : Fin 4) (src : BitVec 12) (ttl : BitVec 6) (uid : DWord) (pref : BitVec 12) (seq : Word)
  /-- R226: The requester takes the granted address at the next tick and stores it as PREF. -/
  | addrReceive (f : Fin 4) (src : BitVec 12) (ttl : BitVec 6) (target : DWord) (addr : BitVec 12) (seq : Word) (stew : DWord)
  /-- R228: After SPF_HOLD, PE5 recomputes primary and alternate routes. -/
  | routeRecompute
  /-- R229: FAB_RT_CTL.SWAP exchanges the active and shadow route banks. -/
  | routeBankSwap (w : Who)
  /-- R233: A port in PROBE or UP sends a DREQ every DREQ_PERIOD ticks. -/
  | dreqSend (f : Fin 4) (t1 : DWord)
  /-- R233: The partner port answers a DREQ with a DRESP within 2 µs. -/
  | dreqReceive (f : Fin 4) (q : Byte) (t1 : DWord) (t2 : DWord) (t3 : DWord)
  /-- R233: T4 is captured and the link delay is computed and averaged. -/
  | drespReceive (f : Fin 4) (q : Byte) (t1 : DWord) (t2 : DWord) (t3 : DWord) (t4 : DWord)
  /-- R234: A SYNC on TUP is accepted, repeated and used to compute the offset and steer time. -/
  | syncReceive (f : Fin 4) (master : BitVec 12) (sseq : Word) (origin : DWord) (corr : DWord) (trx : DWord) (ttx : Tbl 4 DWord)
  /-- R235: No SYNC is accepted for 64 ticks, so time goes to HOLDOVER and EV31 counts. -/
  | syncLoss
  /-- R235: 60 s in HOLDOVER without SYNC return time to FREE at the nominal rate. -/
  | holdoverExpired
  /-- R232: A rising edge on TIMEREF_IN updates its validity and steers a master's TB. -/
  | timerefInEdge
  /-- R237: Command 1 of OD 0x4030 arms a fabric-wide target and floods a SNAPT. -/
  | snapshotSchedule (w : Who)
  /-- R237: A received SNAPT arms the target in the snapshot block. -/
  | snaptReceive (f : Fin 4) (src : BitVec 12) (ttl : BitVec 6) (id : Word) (origin : BitVec 12) (t : DWord)
  /-- R240: A remote dictionary request is performed as master 4 within REMOTE, or answered from the store. -/
  | odxRequestReceive (src : BitVec 12) (req : OdxMsg)
  /-- R242: A gateway receives the ODX response, and its status becomes done. -/
  | odxResponseReceive (src : BitVec 12) (rsp : OdxMsg) (info : BindInfo)
  /-- R242: A master's write to its gateway sub 4 sends an ODX request. -/
  | gatewayCommand (m : Fin 16) (cmd : Fin 3)
  /-- R242: ODX_TIMEOUT passes: the gateway retries, and after three attempts reports timeout. -/
  | gatewayTimeout (m : Fin 16)
  /-- R240: The lease of master 4 is revoked when its node's route has been invalid for 1 s. -/
  | remoteLeaseRevoke
  /-- R247: The VSLOT engine sets PORT_POWER at the tick on a DISCONNECTED EXPORT port. -/
  | exportPortPower (p : Fin 24)
  /-- R248: An export port connects, and PE6 starts proxy enumeration. -/
  | exportEnumStart (p : Fin 24)
  /-- R249: Enumeration ends and the eligibility checks give READY or REFUSED. -/
  | exportEnumComplete (p : Fin 24) (failed : Bool) (descs : List Desc)
  /-- R249: Enumeration has not completed within 1 s, so the record is REFUSED with ENUMFAIL. -/
  | exportEnumTimeout (p : Fin 24)
  /-- R250: The device disconnects, the slot loses power or the entry leaves EXPORT, so the record empties. -/
  | exportDeviceGone (p : Fin 24)
  /-- R251: A bind command to OD 0x4804 binds a READY record to an importer, or is refused. -/
  | bind (w : Who) (p : Fin 24) (importer : BitVec 12) (v : Fin 16)
  /-- R251: An unbind command closes the channels, resets the device and returns the record to ENUM. -/
  | unbind (w : Who) (p : Fin 24)
  /-- R252: An enabled importer sends a bind, and repeats it every 5 s while it is not bound. -/
  | importBindAttempt (v : Fin 16)
  /-- R254: A host control request to a virtual slot is answered locally, stalled or forwarded as a REQ. -/
  | virtualControlRequest (v : Fin 16) (setup : List Byte) (data : List Byte)
  /-- R256: The exporter receives a REQ and runs the request on the device within D(h). -/
  | ctrlReq (p : Fin 24) (src : BitVec 12) (tag : Half) (setup : List Byte) (data : List Byte) (res : Option (Bool × List Byte))
  /-- R259: The importer receives a RSP and offers the answer, or STALLs on a bad STATUS. -/
  | ctrlRsp (peer : BitVec 12) (slot : Nat) (tag : Half) (status : Nat) (data : List Byte)
  /-- R74: An ABORT makes the exporter reset the device or complete and discard the request. -/
  | ctrlAbort (p : Fin 24) (src : BitVec 12) (tag : Half)
  /-- R270: A RESET makes the exporter close the channels and reset the device with the given kind. -/
  | ctrlReset (p : Fin 24) (src : BitVec 12) (tag : Half) (kind : Fin 4)
  /-- R270: The 0xA0 answer lets the virtual port complete its reset. -/
  | ctrlResetAnswer (peer : BitVec 12) (slot : Nat) (tag : Half) (speed : SpeedCode)
  /-- R270: A SUSPEND makes the exporter suspend the device within 1 ms. -/
  | ctrlSuspend (p : Fin 24) (src : BitVec 12) (tag : Half)
  /-- R270: A RESUME makes the exporter resume the device. -/
  | ctrlResume (p : Fin 24) (src : BitVec 12) (tag : Half)
  /-- R270: A WAKE is taken as a wake of the virtual port. -/
  | ctrlWake (peer : BitVec 12) (slot : Nat) (tag : Half)
  /-- R270: A DETACH disconnects the virtual port. -/
  | ctrlDetach (peer : BitVec 12) (slot : Nat) (tag : Half)
  /-- R270: A CHFAIL makes the endpoint answer STALL. -/
  | ctrlChfail (peer : BitVec 12) (slot : Nat) (tag : Half) (ep : Byte)
  /-- R258: A PING is answered with 0xD0. -/
  | ctrlPing (peer : BitVec 12) (slot : Nat) (tag : Half)
  /-- R258: Any other CTRL answer ends the resends of its message. -/
  | ctrlAnswer (peer : BitVec 12) (op : Byte) (slot : Nat) (tag : Half)
  /-- R260: An unanswered CTRL message is resent every CTRL_TO. -/
  | ctrlResend (tag : Half)
  /-- R258: A PING is sent when no CTRL frame has gone to the peer for 100 ms. -/
  | pingSend (peer : BitVec 12) (slot : Nat)
  /-- R257: The device has not completed within D(h), so the exporter answers TIMEOUT. -/
  | deviceAllowanceExpired (p : Fin 24)
  /-- R257: No RSP arrives by LIMIT minus 0.5 ms, so the importer STALLs and sends ABORT. -/
  | importLimitExpired (v : Fin 16)
  /-- R270: No 0xA0 arrives within 300 ms, so the virtual port enters DISABLED. -/
  | virtualResetTimeout (v : Fin 16)
  /-- R263: A sending channel sends its next item in a DATA frame while the window allows. -/
  | channelSend (n : Fin 48)
  /-- R264: A receiving channel enqueues or discards a DATA frame by its SEQ, and may NAK. -/
  | channelDataReceive (n : Fin 48) (seq : Byte) (payload : List Byte) (good : Bool) (poison : Bool)
  /-- R266: An ACK advances the mark, or a NAK starts a replay or fails the channel. -/
  | channelAckReceive (n : Fin 48) (src : BitVec 12) (next : Byte) (nak : Bool) (win : BitVec 6)
  /-- R265: A receiver sends an ACK on LAST, ACK_EVERY, ACK_DELAY, a WIN rise, an open or 100 ms. -/
  | ackSend (n : Fin 48)
  /-- R266: ACK_TO passes without an advancing ACK, so the channel replays or fails. -/
  | ackTimeout (n : Fin 48)
  /-- R266: Setting XPT_Cn_BIND.EN opens a channel at SEQ 0. -/
  | channelOpen (w : Who) (n : Fin 48)
  /-- R266: Clearing EN flushes the channel queue and closes it. -/
  | channelClose (w : Who) (n : Fin 48)
  /-- R268: The exporter polls an interrupt IN endpoint once per service interval and relays the report. -/
  | relayPoll (n : Fin 48) (report : List Byte)
  /-- R268: The importing host's poll receives the oldest held report, or NAK/NRDY. -/
  | relayHostPoll (n : Fin 48)
  /-- R270: No frame or route for PEER_HOLD makes the peer lost, so the import ends and EV38 counts. -/
  | peerLost (peer : BitVec 12)
  /-- R296: An SDO client starts an expedited or segmented write. -/
  | sdoInitiateDownload (frame : List Byte)
  /-- R296: An SDO download segment is received. -/
  | sdoDownloadSegment (frame : List Byte)
  /-- R296: An SDO client starts a read. -/
  | sdoInitiateUpload (frame : List Byte)
  /-- R296: An SDO upload segment is requested and sent. -/
  | sdoUploadSegment (frame : List Byte)
  /-- R296: An SDO block download frame is received. -/
  | sdoBlockDownload (frame : List Byte)
  /-- R296: An SDO block upload frame is requested and sent. -/
  | sdoBlockUpload (frame : List Byte)
  /-- R296: A client abort discards the transfer. -/
  | sdoClientAbort (frame : List Byte)
  /-- R296: No client frame arrives within 1 s, so the server aborts with 0x0504_0000. -/
  | sdoTimeout
  /-- R296: A unicast USDO request is served in expedited or segmented mode. -/
  | usdoRequest (req : UsdoReq)
  /-- R297: An RPDO value is validated and applied as a dictionary write by master 3. -/
  | rpdoReceive (n : Fin 4) (data : List Byte)
  /-- R297: A TPDO is sent on change, on SYNC or at its event timer, within its inhibit time. -/
  | tpdoTransmit (n : Fin 4) (why : PdoCause)
  /-- R295: NMT start enters OPERATIONAL. -/
  | nmtStart
  /-- R295: NMT stop enters STOPPED. -/
  | nmtStop
  /-- R295: NMT enter pre-operational stops the PDOs. -/
  | nmtEnterPreoperational
  /-- R295: Transfers are discarded, the lease of master 3 is revoked, settings reload and the node re-enters INIT. -/
  | nmtResetCommunication
  /-- R295: Acts as reset communication; it does not reset the module. -/
  | nmtResetNode
  /-- R300: A SYNC frame is consumed. -/
  | canSync
  /-- R300: A TIME frame is passed to the calendar as a host time write. -/
  | canTime (ms : BitVec 28) (days : Half)
  /-- R300: The node sends its heartbeat every 0x1017 ms. -/
  | heartbeatProduce
  /-- R300: A consumed heartbeat times out, so EMCY 0x8130 is sent and EV12 counts. -/
  | heartbeatTimeout (k : Fin 4)
  /-- R300: The controller recovers from bus off, sends EMCY 0x8140 and counts EV12. -/
  | busOffRecovery
  /-- R299: The controller becomes error passive, and EMCY 0x8120 is sent. -/
  | errorPassive (tec : Byte) (rec_ : Byte)
  /-- R299: A CAN receive overrun sends EMCY 0x8110. -/
  | receiveOverrun
  /-- R299: An EMCY is sent for a routed event change or CAN error, within the inhibit time. -/
  | emcySend
  /-- R283: Writing "save" to OD 0x1010 sub 1 starts a configuration store. -/
  | store (w : Who)
  /-- R283: The written record verifies, or the write fails and EV13 counts. -/
  | storeComplete (ok : Bool)
  /-- R285: Writing "load" to OD 0x1011 marks NV entries to return to their defaults at the next module reset. -/
  | restoreDefaults (w : Who)
  /-- R290: The lease owner requests a 32-byte commissioning challenge. -/
  | commChallenge (w : Who)
  /-- R290: The signed response grants the commissioning level, or is refused and counts EV7. -/
  | commResponse (w : Who) (sig : List Byte)
  /-- R291: Writing 1 to OD 0x2F10 sub 2 stores and seals the node. -/
  | seal (w : Who)
  /-- R292: Writing 2 to OD 0x2F10 sub 2 reopens the seal at the next tick. -/
  | reopen (w : Who)
  /-- R288: Reading OD 0x5F00 sub 2 reads the register at sub 1. -/
  | rawRead (w : Who)
  /-- R288: Writing OD 0x5F00 sub 2 writes the register at sub 1 as the requesting master. -/
  | rawWrite (w : Who) (val : Word)
  /-- R298: Writing OD 0x2061 sub 1 writes every slot's EN as one basic write. -/
  | slotEnableAll (w : Who) (val : Word)
  /-- R309: A write to a register without a row of its own, checked for width, lease, key and W1, and shadowed if RS. -/
  | registerWrite (w : Who) (addr : Word) (val : Word)
  /-- R310: A write to SYS_KEY unlocks the master for one write, or counts as a wrong key. -/
  | keyWrite (w : Who) (val : Word)
  /-- R310: An unused unlock lapses after 1,024 cycles. -/
  | keyUnlockLapse (m : Fin 16)
  /-- R311: A key write held by a carrying interface lapses after 1 s without a write. -/
  | heldKeyLapse (m : Fin 6)
  /-- R312: The 1 s key lock ends, and FAILS returns to 0. -/
  | keyLockEnd
  /-- R322: A checksum pass ends and is compared with REF, and EV1 counts at the second miss. -/
  | crcPassComplete
  /-- R321: No pass has completed for 100 ms, so STALE sets. -/
  | crcStale
  /-- R323: Writing 1 to CFG_CRC_CTL.ADOPT under the key adopts the next qualifying pass as REF. -/
  | adopt (w : Who)
  /-- R323: Writing 0 to ADOPT under the key cancels a pending adopt. -/
  | adoptCancel (w : Who)
  /-- R324: Non-zero RV bits of a live test register take effect and set TESTMOD. -/
  | testControlWrite (w : Who) (addr : Word) (val : Word)
  /-- R325: A write to an RP field sets AO_BUSY, or is dropped while AO_BUSY is set. -/
  | aoPostedWrite (w : Who) (addr : Word) (val : Word)
  /-- R325: AO takes the posted value, and AO_BUSY clears. -/
  | aoWriteTaken
  /-- R335: An ON command returns a domain to ON. -/
  | domainOn (w : Who) (d : Fin 31)
  /-- R337: A RETENTION command, if not refused, starts a domain's entry with a signature. -/
  | domainRetention (w : Who) (d : Fin 31)
  /-- R337: An OFF command, if not refused, starts a domain's entry to OFF. -/
  | domainOff (w : Who) (d : Fin 31)
  /-- R337: A domain's entry completes in RETENTION or OFF. -/
  | domainEntryComplete (d : Fin 31)
  /-- R335: An enabled wake source brings a domain back to ON. -/
  | domainWake (d : Fin 31) (src : Fin 9)
  /-- R339: A domain's exit check or zeroing completes and the clamps release. -/
  | domainExitComplete (d : Fin 31)
  /-- R342: A lamplighter unit wakes at its period, samples and compares its inputs. -/
  | patrol (unit : PatrolSample)
  /-- R345: A write to AO_PMB_CTL.VOUT (or OD 0x5030 sub 3) sends VOUT_COMMAND. -/
  | voltageRequest (w : Who) (mv : BitVec 10)
  /-- R345: Every 250 µs READ_VOUT and VCORE_PG are checked, and the request is acknowledged when they are in range. -/
  | voutPoll (code : Half) (pg : Bool)
  /-- R345: No acknowledgement within 5 ms, so EV55 counts and the previous point is restored. -/
  | voltageRequestTimeout (statusWord : Half)
  /-- R346: VCORE_PG low for 10 µs outside a request takes CORE OFF and restarts the core. -/
  | vcoreLoss
  /-- R406: V1P8 below 1.62 V for 10 µs is handled as a VCORE loss. -/
  | v1p8Loss
  /-- R353: V3P3 below its threshold moves AO to VBAT. -/
  | v3p3Loss (vbat : Bool)
  /-- R354: Once per second AO measures VBAT and sets VBATLOW below 2.2 V. -/
  | vbatCheck (mv : Half)
  /-- R348: A write of AO_CLK.SEL is refused or takes effect at the next boundary. -/
  | clockSelect (w : Who) (pll : Bool)
  /-- R348: The PLL reports lock. -/
  | pllLock
  /-- R348: The selected PLL loses lock, so the core moves to FIRC and SEL reads 0. -/
  | pllLockLoss
  /-- R350: A CORE wake raises VCORE_EN and restarts the core from retained PE0 and ECM. -/
  | standbyWake (src : Fin 9)
  /-- R352: The RUN profile commands every domain ON and restarts the slots. -/
  | profileRun (w : Who)
  /-- R352: The NIGHT profile forces slots off and takes the named domains to RETENTION or OFF. -/
  | profileNight (w : Who)
  /-- R352: The STANDBY profile runs the night-closure steps and ends with CORE OFF. -/
  | profileStandby (w : Who)
  /-- R353: AO_CAL_SEC increments, and TB is latched into TIME_CALTB. -/
  | calendarSecond
  /-- R355: AGE reaches CAL_HOLD, so the quality falls to HOLDOVER and EV56 counts. -/
  | calHoldExpired
  /-- R356: A write to OD 0x5400 sub 1 sets the calendar if permitted. -/
  | hostTimeWrite (w : Who) (sec : Word)
  /-- R356: A LOCKED node reads the master's calendar on entry and every 64 s, and corrects its own. -/
  | fabricTimeRead (caltb : DWord) (sec : Word) (qual : Fin 3)
  /-- R357: AO_CAL_SEC reaches AO_CAL_ALARM, which raises wake source 7 once. -/
  | calendarAlarm
  /-- R362: PE7 dequeues an item from Q57 and writes it as the next journal record. -/
  | journalWrite (verify : Bool)
  /-- R367: Reading OD 0x5411 sub 2 returns the record at the cursor and advances it. -/
  | journalRead (w : Who) (replica : Bool)
  /-- R367: Reading OD 0x5411 sub 3 returns up to 64 records and advances the cursor. -/
  | journalReadBlock (w : Who) (replica : Bool)
  /-- R368: A replicated record in a KIND 4 DATA frame is kept in the newest-256 ring. -/
  | journalReplicaReceive (record : List Byte)
  /-- R366: PE7 writes a lifetime counter block every 10 minutes and at standby entry. -/
  | counterBlockWrite
  /-- R369: SNAP_CTL.TRIG or OD 0x5850 sub 1 triggers a snapshot. -/
  | softwareSnapshot (w : Who) (od : Bool)
  /-- R369: A SNAP_N falling edge of at least 20 ns triggers a snapshot while PINEN is set. -/
  | snapNEdge
  /-- R373: On EV63, PE7 copies the buffer to ECM, journals it and releases it. -/
  | snapshotCopy
  /-- R373: SNAP_CTL.REL0 releases buffer B0. -/
  | snapshotReleaseB0 (w : Who)
  /-- R373: SNAP_CTL.REL1 releases buffer B1. -/
  | snapshotReleaseB1 (w : Who)
  /-- R376: V3P3 rises and AO leaves power-on reset, which samples the straps and raises VCORE_EN. -/
  | powerOnReset (aoLost : Bool) (strap : BitVec 4)
  /-- R376: VCORE_PG rises at the regulator's boot voltage. -/
  | vcorePgRise
  /-- R377: VCORE_PG has not risen 100 ms after VCORE_EN, so AO cycles VCORE_EN. -/
  | vcoreEnRetry
  /-- R376: The core is released on FIRC and runs the start sequence. -/
  | coreRelease (go : StartIn)
  /-- R380: A timed-out RUN point request is repeated every 1 s while the core stays on FIRC. -/
  | runPointRetry
  /-- R384: Command 1 of OD 0x2002 sub 1 or SYS_RESET schedules a module reset at the next boundary. -/
  | moduleResetCommand (w : Who)
  /-- R384: Command 2 of OD 0x2002 sub 1 or SYS_RESET schedules a core reset at the next boundary. -/
  | coreResetCommand (w : Who)
  /-- R384: RESET_N low for 1 µs, a commanded reset or an image command resets everything except AO. -/
  | moduleReset (strap : BitVec 4)
  /-- R384: A commanded core reset resets everything except AO, without sampling the straps. -/
  | coreReset
  /-- R390: TRST_N low or Test-Logic-Reset resets the TAP and ends the debug session. -/
  | tapReset
  /-- R392: Loading EXTEST drives pins from boundary scan and holds the hub die in module reset. -/
  | extest
  /-- R391: Loading IDCODE selects the identification register. -/
  | idcode
  /-- R390: Loading SAMPLE/PRELOAD selects the boundary-scan register for sampling. -/
  | samplePreload
  /-- R392: Loading CLAMP holds the boundary pins and the hub die in module reset. -/
  | clamp
  /-- R392: Loading HIGHZ releases the pins to high impedance and holds the hub die in module reset. -/
  | highz
  /-- R390: Loading BYPASS or any unassigned code selects the 1-bit bypass. -/
  | bypass (code : Byte)
  /-- R393: DBG_AUTH command 1 draws a new challenge, or grants at once with no key and the seal open. -/
  | dbgChallenge
  /-- R394: DBG_AUTH command 2 submits a signature for verification. -/
  | dbgResponse (sig : List Byte)
  /-- R394: Verification ends within 5 ms: granted, or refused and counting EV7. -/
  | dbgVerifyComplete
  /-- R395: DBG_AUTH command 3 ends the session, revokes master 5's lease and resumes halted engines. -/
  | dbgEndSession
  /-- R396: A DBG_ACC poll returns the result of the previous operation. -/
  | dbgPoll
  /-- R396: A DBG_ACC read of the global space as master 5. -/
  | dbgRead (addr : Word)
  /-- R396: A DBG_ACC write of the global space as master 5. -/
  | dbgWrite (addr : Word) (val : Word)
  /-- R398: A DBG_MBOX shift carries one dictionary message word in and one response word out. -/
  | dbgMboxTransfer (word : DWord) (valid : Bool)
  /-- R399: DBG_PEn_CTL.HALT halts an engine at an instruction boundary. -/
  | haltRequest (w : Who) (pe : Fin 8)
  /-- R400: DBG_PEn_CTL.RESUME returns a halted engine to the state in which it halted. -/
  | resume (w : Who) (pe : Fin 8)
  /-- R399: DBG_PEn_CTL.STEP executes exactly one instruction and halts again. -/
  | step (w : Who) (a : At)
  /-- R26: Rp disappears from CC1 and CC2 of UP_S, so USBP_UPS_CC.ATTACHED clears and the orientation is no longer valid. -/
  | ccDetach
  /-- R232: Two expected TIMEREF_IN edges are missing, so TIMEREF_IN becomes invalid, NOTREF becomes 1 and the master election changes. -/
  | timerefInLoss
  /-- R92: A host SET_ADDRESS gives a hub half or the MF its device address, which route resolution compares for packets addressed to that hub half. -/
  | setAddress (fn : UsbFn) (addr : BitVec 7)
  /-- R55: A host selects alternate setting 0 or 1 of the USB 2.0 hub interface, single-TT or multi-TT scheduling, which the per-slot translators serve. -/
  | setInterface (lh : Fin 6) (alt : Bool)
  /-- R67: SET_FEATURE or CLEAR_FEATURE of DEVICE_REMOTE_WAKEUP on a hub half or the MF sets the enable that governs wake propagation. -/
  | deviceRemoteWakeup (fn : UsbFn) (on : Bool)
  /-- R300: A heartbeat from a producer named in 0x1016 is consumed and restarts that consumer's timeout. -/
  | heartbeatReceive (node : BitVec 7)
  /-- R300: The CAN controller enters bus off, so CAN_STAT.BUS reads 2 and CAN_CNT.BUSOFF increments. -/
  | busOff
  /-- R299: The error counters fall back and the controller returns from error passive to error active, so no CAN error remains for 0x1001 and EMCY 0x0000. -/
  | canErrorActive
  /-- R394: The 60 s debug lock after three invalid responses ends, and AUTHST leaves 4 and commands are accepted again. -/
  | dbgAuthLockEnd
  /-- R123: The last data word of a stored payload or frame arrives, its CRC is checked, and the QM commits the item so that it becomes readable. -/
  | payloadComplete (x : Fin 33) (q : Fin 64) (rest : List Byte) (poison : Bool) (crcBad : Bool) (abort : Bool)
  /-- R145: The egress link layer accepts the last beat of a packet or frame, so the egress hold ends and the item is consumed from its queue. -/
  | packetTransmitted (x : Fin 33)
  /-- R65: A slot link's U1 or U2 inactivity timer, counted from its last packet, runs out, and the link is taken to U1 or U2. -/
  | portInactivityTimeout (p : Fin 24) (u2 : Bool)
  /-- R82: A device on a slot link requests entry to U1 or U2; the request is accepted, or refused with LXU while the link is HELD. -/
  | deviceLgoU1U2 (p : Fin 24) (u2 : Bool)
  /-- R77: A cut-off in a slot's recent list becomes older than WINDOW seconds and leaves the list, so RECENT decrements. -/
  | cutoffRecentExpiry (p : Fin 24)
  /-- R102: A lockstep mismatch becomes older than 60 s and leaves the count, so XBAR_LS_STAT.RECENT decrements. -/
  | lockstepRecentExpiry
  /-- R61: The host reads a dictionary response from the MF bulk IN endpoint, which frees a place for a further outstanding request. -/
  | dictResponseRead (u : Fin 3)
  /-- R62: The host polls the MF interrupt IN endpoint 0x82 and receives the oldest queued event report, or NAK. -/
  | eventReportPoll (u : Fin 3)
deriving DecidableEq, Repr

end Sys2Proof
end

