-- ==== Sys2Proof/Decode.lean ====
section
/-!
DEFINITION. The command a word of the operation table spells, and the instruction words of the port engines: their
decoder and their encoder (R172, R173, R176).
-/

namespace Sys2Proof

/-- No row of the operation table gives its command any bits, so no word spells one. -/
def decodeTableWord (_nbits _w : Nat) : Option Instr := none

/-! ## Fields of an instruction word (R172) -/

/-- Bits [lo + len - 1 : lo] of a word. -/
def wordField (w : Word) (lo len : Nat) : Nat := w.toNat / 2 ^ lo % 2 ^ len
/-- A register number in bits [lo + 3 : lo]. -/
def wordReg (w : Word) (lo : Nat) : Fin 16 := ⟨w.toNat / 2 ^ lo % 16, Nat.mod_lt _ (by decide)⟩
/-- Immediates and the object field. -/
def wordImm18 (w : Word) : BitVec 18 := BitVec.ofNat 18 w.toNat
def wordImm26 (w : Word) : BitVec 26 := BitVec.ofNat 26 w.toNat
def wordObj (w : Word) : Byte := BitVec.ofNat 8 w.toNat

/-! ## Decoder -/

/-- Opcode 0x00, by fn. -/
def decodeAlu (a : At) (w : Word) (k : Nat) : Option Instr :=
  let rd := wordReg w 22; let ra := wordReg w 18; let rb := wordReg w 14
  match k with
  | 0 => some (.add a rd ra rb)
  | 1 => some (.sub a rd ra rb)
  | 2 => some (.and_ a rd ra rb)
  | 3 => some (.or_ a rd ra rb)
  | 4 => some (.xor_ a rd ra rb)
  | 5 => some (.sll a rd ra rb)
  | 6 => some (.srl a rd ra rb)
  | 7 => some (.sra a rd ra rb)
  | 8 => some (.slt a rd ra rb)
  | 9 => some (.sltu a rd ra rb)
  | 10 => some (.mul a rd ra rb)
  | 11 => some (.mulhu a rd ra rb)
  | _ => none
/-- Opcode 0x1C, by fn. -/
def decodeAtomic (a : At) (w : Word) (k : Nat) : Option Instr :=
  let rd := wordReg w 22; let ra := wordReg w 18; let rb := wordReg w 14
  match k with
  | 0 => some (.swap a rd ra rb)
  | 1 => some (.fadd a rd ra rb)
  | _ => none
/-- Opcode 0x2C, by fn. -/
def decodeControl (a : At) (w : Word) (k : Nat) : Option Instr :=
  let rd := wordReg w 22; let ra := wordReg w 18; let rb := wordReg w 14
  match k with
  | 0 => some (.tend a rd ra rb)
  | 1 => some (.reth a rd ra rb)
  | 2 => some (.wdog a rd ra rb)
  | 3 => some (.tstat a rd ra rb)
  | 4 => some (.evtst a rd ra rb)
  | 5 => some (.brk a rd ra rb)
  | 6 => some (.fence a rd ra rb)
  | _ => none
/-- Format I, by opcode. -/
def decodeImm (a : At) (w : Word) (k : Nat) : Option Instr :=
  let rd := wordReg w 22; let ra := wordReg w 18; let imm := wordImm18 w
  match k with
  | 0x1 => some (.addi a rd ra imm)
  | 0x2 => some (.andi a rd ra imm)
  | 0x3 => some (.ori a rd ra imm)
  | 0x4 => some (.xori a rd ra imm)
  | 0x5 => some (.slli a rd ra imm)
  | 0x6 => some (.srli a rd ra imm)
  | 0x7 => some (.srai a rd ra imm)
  | 0x8 => some (.slti a rd ra imm)
  | 0x9 => some (.himm a rd ra imm)
  | 0x10 => some (.lw a rd ra imm)
  | 0x11 => some (.lh a rd ra imm)
  | 0x12 => some (.lhu a rd ra imm)
  | 0x13 => some (.lb a rd ra imm)
  | 0x14 => some (.lbu a rd ra imm)
  | 0x18 => some (.sw a rd ra imm)
  | 0x19 => some (.sh a rd ra imm)
  | 0x1a => some (.sb a rd ra imm)
  | 0x2a => some (.jalr a rd ra imm)
  | _ => none
/-- Format B, by opcode. -/
def decodeBranch (a : At) (w : Word) (k : Nat) : Option Instr :=
  let ra := wordReg w 22; let rb := wordReg w 18; let off := wordImm18 w
  match k with
  | 0x20 => some (.beq a ra rb off)
  | 0x21 => some (.bne a ra rb off)
  | 0x22 => some (.blt a ra rb off)
  | 0x23 => some (.bge a ra rb off)
  | 0x24 => some (.bltu a ra rb off)
  | 0x25 => some (.bgeu a ra rb off)
  | _ => none
/-- Class 0x30, by sub. -/
def decodePort (a : At) (w : Word) (k : Nat) : Option Instr :=
  let rd := wordReg w 22; let ra := wordReg w 18; let rb := wordReg w 14
  let obj := wordObj w
  match k with
  | 0 => some (.lstat a rd ra rb obj)
  | 1 => some (.lset a rd ra rb obj)
  | 2 => some (.pfset a rd ra rb obj)
  | 3 => some (.pfclr a rd ra rb obj)
  | 4 => some (.prst a rd ra rb obj)
  | 5 => some (.psig a rd ra rb obj)
  | _ => none
/-- Class 0x31, by sub. -/
def decodeQueue (a : At) (w : Word) (k : Nat) : Option Instr :=
  let rd := wordReg w 22; let ra := wordReg w 18; let rb := wordReg w 14
  let obj := wordObj w
  match k with
  | 0 => some (.enq a rd ra rb obj)
  | 1 => some (.enqf a rd ra rb obj)
  | 2 => some (.enqm a rd ra rb obj)
  | 3 => some (.enql a rd ra rb obj)
  | 4 => some (.deq a rd ra rb obj)
  | 5 => some (.peek a rd ra rb obj)
  | 6 => some (.mark (.prim a rd ra rb obj))
  | 7 => some (.unmark (.prim a rd ra rb obj))
  | 8 => some (.rewind (.prim a rd ra rb obj))
  | 9 => some (.flush (.prim a rd ra rb obj))
  | 10 => some (.qstat a rd ra rb obj)
  | _ => none
/-- Class 0x32, by sub. -/
def decodeTimer (a : At) (w : Word) (k : Nat) : Option Instr :=
  let rd := wordReg w 22; let ra := wordReg w 18; let rb := wordReg w 14
  let obj := wordObj w
  match k with
  | 0 => some (.tset a rd ra rb obj)
  | 1 => some (.tsetp a rd ra rb obj)
  | 2 => some (.tstop a rd ra rb obj)
  | 3 => some (.trd a rd ra rb obj)
  | _ => none
/-- Class 0x33, by sub. -/
def decodeEvent (a : At) (w : Word) (k : Nat) : Option Instr :=
  let rd := wordReg w 22; let ra := wordReg w 18; let rb := wordReg w 14
  let obj := wordObj w
  match k with
  | 0 => some (.evpost a rd ra rb obj)
  | 1 => some (.evrd a rd ra rb obj)
  | _ => none
/-- Class 0x34, by sub. -/
def decodeArb (a : At) (w : Word) (k : Nat) : Option Instr :=
  let rd := wordReg w 22; let ra := wordReg w 18; let rb := wordReg w 14
  let obj := wordObj w
  match k with
  | 0 => some (.waitg a rd ra rb obj)
  | 1 => some (.fcrd a rd ra rb obj)
  | _ => none
/-- Class 0x35, by sub. -/
def decodeOda (a : At) (w : Word) (k : Nat) : Option Instr :=
  let rd := wordReg w 22; let ra := wordReg w 18; let rb := wordReg w 14
  let obj := wordObj w
  match k with
  | 0 => some (.odrd a rd ra rb obj)
  | 1 => some (.odwr a rd ra rb obj)
  | _ => none
/-- Class 0x36, by sub. -/
def decodeCrc (a : At) (w : Word) (k : Nat) : Option Instr :=
  let rd := wordReg w 22; let ra := wordReg w 18; let rb := wordReg w 14
  let obj := wordObj w
  match k with
  | 0 => some (.crcb a rd ra rb obj)
  | 1 => some (.crcw a rd ra rb obj)
  | 2 => some (.crcm a rd ra rb obj)
  | _ => none
/-- Class 0x37, by sub. -/
def decodeTime (a : At) (w : Word) (k : Nat) : Option Instr :=
  let rd := wordReg w 22; let ra := wordReg w 18; let rb := wordReg w 14
  let obj := wordObj w
  match k with
  | 0 => some (.tbrd a rd ra rb obj)
  | 1 => some (.tbrh a rd ra rb obj)
  | 2 => some (.twait a rd ra rb obj)
  | 3 => some (.tknum a rd ra rb obj)
  | _ => none
/-- Class 0x38, by sub. -/
def decodeFab (a : At) (w : Word) (k : Nat) : Option Instr :=
  let rd := wordReg w 22; let ra := wordReg w 18; let rb := wordReg w 14
  let obj := wordObj w
  match k with
  | 0 => some (.fsend a rd ra rb obj)
  | 1 => some (.froute a rd ra rb obj)
  | _ => none
/-- Class 0x39, by sub. -/
def decodeSpw (a : At) (w : Word) (k : Nat) : Option Instr :=
  let rd := wordReg w 22; let ra := wordReg w 18; let rb := wordReg w 14
  let obj := wordObj w
  match k with
  | 0 => some (.spon a rd ra rb obj)
  | 1 => some (.spoff a rd ra rb obj)
  | 2 => some (.spfrc a rd ra rb obj)
  | 3 => some (.sprel a rd ra rb obj)
  | 4 => some (.splim a rd ra rb obj)
  | 5 => some (.spst a rd ra rb obj)
  | 6 => some (.spgrp a rd ra rb obj)
  | _ => none
/-- Class 0x3a, by sub. -/
def decodePkt (a : At) (w : Word) (k : Nat) : Option Instr :=
  let rd := wordReg w 22; let ra := wordReg w 18; let rb := wordReg w 14
  let obj := wordObj w
  match k with
  | 0 => some (.psend a rd ra rb obj)
  | _ => none
/-- The instruction an engine reads from a word, none where the word is illegal (R173, R176). -/
def engineWord (a : At) (w : Word) : Option Instr :=
  let fn := wordField w 0 6; let sub := wordField w 8 6; let op := wordField w 26 6
  match op with
  | 0x00 => decodeAlu a w fn
  | 0x1C => decodeAtomic a w fn
  | 0x2C => decodeControl a w fn
  | 0x28 => some (.j a (wordImm26 w))
  | 0x29 => some (.jal a (wordImm26 w))
  | 0x30 => decodePort a w sub
  | 0x31 => decodeQueue a w sub
  | 0x32 => decodeTimer a w sub
  | 0x33 => decodeEvent a w sub
  | 0x34 => decodeArb a w sub
  | 0x35 => decodeOda a w sub
  | 0x36 => decodeCrc a w sub
  | 0x37 => decodeTime a w sub
  | 0x38 => decodeFab a w sub
  | 0x39 => decodeSpw a w sub
  | 0x3a => decodePkt a w sub
  | _ => if 0x20 ≤ op ∧ op ≤ 0x25 then decodeBranch a w op else decodeImm a w op

/-! ## Encoder -/

/-- Formats R and B: opcode, three registers and the low bits. -/
def wordR (op : Nat) (x y z : Fin 16) (low : Nat) : Word := BitVec.ofNat 32 (op * 2 ^ 26 + x.val * 2 ^ 22 + y.val * 2 ^ 18 + z.val * 2 ^ 14 + low)
/-- Format I and B: opcode, two registers, 18 bits. -/
def wordI (op : Nat) (x y : Fin 16) (i : BitVec 18) : Word := BitVec.ofNat 32 (op * 2 ^ 26 + x.val * 2 ^ 22 + y.val * 2 ^ 18 + i.toNat)
/-- Format P: opcode, sub, three registers, object. -/
def wordP (op sub : Nat) (x y z : Fin 16) (obj : Byte) : Word := wordR op x y z (sub * 256 + obj.toNat)

/-- The word of an engine instruction, and the engine that executes it; none for another command. -/
def engineEncode : Instr → Option (At × Word)
  | .add a x y z => some (a, wordR 0x00 x y z 0)
  | .sub a x y z => some (a, wordR 0x00 x y z 1)
  | .and_ a x y z => some (a, wordR 0x00 x y z 2)
  | .or_ a x y z => some (a, wordR 0x00 x y z 3)
  | .xor_ a x y z => some (a, wordR 0x00 x y z 4)
  | .sll a x y z => some (a, wordR 0x00 x y z 5)
  | .srl a x y z => some (a, wordR 0x00 x y z 6)
  | .sra a x y z => some (a, wordR 0x00 x y z 7)
  | .slt a x y z => some (a, wordR 0x00 x y z 8)
  | .sltu a x y z => some (a, wordR 0x00 x y z 9)
  | .mul a x y z => some (a, wordR 0x00 x y z 10)
  | .mulhu a x y z => some (a, wordR 0x00 x y z 11)
  | .swap a x y z => some (a, wordR 0x1C x y z 0)
  | .fadd a x y z => some (a, wordR 0x1C x y z 1)
  | .tend a x y z => some (a, wordR 0x2C x y z 0)
  | .reth a x y z => some (a, wordR 0x2C x y z 1)
  | .wdog a x y z => some (a, wordR 0x2C x y z 2)
  | .tstat a x y z => some (a, wordR 0x2C x y z 3)
  | .evtst a x y z => some (a, wordR 0x2C x y z 4)
  | .brk a x y z => some (a, wordR 0x2C x y z 5)
  | .fence a x y z => some (a, wordR 0x2C x y z 6)
  | .addi a x y i => some (a, wordI 0x1 x y i)
  | .andi a x y i => some (a, wordI 0x2 x y i)
  | .ori a x y i => some (a, wordI 0x3 x y i)
  | .xori a x y i => some (a, wordI 0x4 x y i)
  | .slli a x y i => some (a, wordI 0x5 x y i)
  | .srli a x y i => some (a, wordI 0x6 x y i)
  | .srai a x y i => some (a, wordI 0x7 x y i)
  | .slti a x y i => some (a, wordI 0x8 x y i)
  | .himm a x y i => some (a, wordI 0x9 x y i)
  | .lw a x y i => some (a, wordI 0x10 x y i)
  | .lh a x y i => some (a, wordI 0x11 x y i)
  | .lhu a x y i => some (a, wordI 0x12 x y i)
  | .lb a x y i => some (a, wordI 0x13 x y i)
  | .lbu a x y i => some (a, wordI 0x14 x y i)
  | .sw a x y i => some (a, wordI 0x18 x y i)
  | .sh a x y i => some (a, wordI 0x19 x y i)
  | .sb a x y i => some (a, wordI 0x1a x y i)
  | .jalr a x y i => some (a, wordI 0x2a x y i)
  | .beq a x y i => some (a, wordI 0x20 x y i)
  | .bne a x y i => some (a, wordI 0x21 x y i)
  | .blt a x y i => some (a, wordI 0x22 x y i)
  | .bge a x y i => some (a, wordI 0x23 x y i)
  | .bltu a x y i => some (a, wordI 0x24 x y i)
  | .bgeu a x y i => some (a, wordI 0x25 x y i)
  | .j a i => some (a, BitVec.ofNat 32 (0x28 * 2 ^ 26 + i.toNat))
  | .jal a i => some (a, BitVec.ofNat 32 (0x29 * 2 ^ 26 + i.toNat))
  | .lstat a x y z o => some (a, wordP 0x30 0 x y z o)
  | .lset a x y z o => some (a, wordP 0x30 1 x y z o)
  | .pfset a x y z o => some (a, wordP 0x30 2 x y z o)
  | .pfclr a x y z o => some (a, wordP 0x30 3 x y z o)
  | .prst a x y z o => some (a, wordP 0x30 4 x y z o)
  | .psig a x y z o => some (a, wordP 0x30 5 x y z o)
  | .enq a x y z o => some (a, wordP 0x31 0 x y z o)
  | .enqf a x y z o => some (a, wordP 0x31 1 x y z o)
  | .enqm a x y z o => some (a, wordP 0x31 2 x y z o)
  | .enql a x y z o => some (a, wordP 0x31 3 x y z o)
  | .deq a x y z o => some (a, wordP 0x31 4 x y z o)
  | .peek a x y z o => some (a, wordP 0x31 5 x y z o)
  | .mark (.prim a x y z o) => some (a, wordP 0x31 6 x y z o)
  | .unmark (.prim a x y z o) => some (a, wordP 0x31 7 x y z o)
  | .rewind (.prim a x y z o) => some (a, wordP 0x31 8 x y z o)
  | .flush (.prim a x y z o) => some (a, wordP 0x31 9 x y z o)
  | .qstat a x y z o => some (a, wordP 0x31 10 x y z o)
  | .tset a x y z o => some (a, wordP 0x32 0 x y z o)
  | .tsetp a x y z o => some (a, wordP 0x32 1 x y z o)
  | .tstop a x y z o => some (a, wordP 0x32 2 x y z o)
  | .trd a x y z o => some (a, wordP 0x32 3 x y z o)
  | .evpost a x y z o => some (a, wordP 0x33 0 x y z o)
  | .evrd a x y z o => some (a, wordP 0x33 1 x y z o)
  | .waitg a x y z o => some (a, wordP 0x34 0 x y z o)
  | .fcrd a x y z o => some (a, wordP 0x34 1 x y z o)
  | .odrd a x y z o => some (a, wordP 0x35 0 x y z o)
  | .odwr a x y z o => some (a, wordP 0x35 1 x y z o)
  | .crcb a x y z o => some (a, wordP 0x36 0 x y z o)
  | .crcw a x y z o => some (a, wordP 0x36 1 x y z o)
  | .crcm a x y z o => some (a, wordP 0x36 2 x y z o)
  | .tbrd a x y z o => some (a, wordP 0x37 0 x y z o)
  | .tbrh a x y z o => some (a, wordP 0x37 1 x y z o)
  | .twait a x y z o => some (a, wordP 0x37 2 x y z o)
  | .tknum a x y z o => some (a, wordP 0x37 3 x y z o)
  | .fsend a x y z o => some (a, wordP 0x38 0 x y z o)
  | .froute a x y z o => some (a, wordP 0x38 1 x y z o)
  | .spon a x y z o => some (a, wordP 0x39 0 x y z o)
  | .spoff a x y z o => some (a, wordP 0x39 1 x y z o)
  | .spfrc a x y z o => some (a, wordP 0x39 2 x y z o)
  | .sprel a x y z o => some (a, wordP 0x39 3 x y z o)
  | .splim a x y z o => some (a, wordP 0x39 4 x y z o)
  | .spst a x y z o => some (a, wordP 0x39 5 x y z o)
  | .spgrp a x y z o => some (a, wordP 0x39 6 x y z o)
  | .psend a x y z o => some (a, wordP 0x3a 0 x y z o)
  | _ => none

end Sys2Proof
end

