-- ==== Sys2Proof/Config.lean ====
section
/-!
DEFINITION. What the part fixes and the spec leaves open: identity values fixed in the factory, sizes
only the part knows, and the free values the spec states no value for. None has a value here.
-/

namespace Sys2Proof.Config

open Sys2Proof

/-! ## Identity of the part (log entry 2) -/

/-- The 64-bit unique ID (R280). -/
opaque uniqueId : DWord
/-- Silicon stepping, SYS_ID.STEP (R280). -/
opaque stepping : BitVec 4
/-- Release of the boot ROM (OD 0x2000 sub 6). -/
opaque bootRelease : Half
/-- Lamward's CiA vendor ID (OD 0x1018 sub 1). -/
opaque ciaVendor : Word
/-- Lamward's JEDEC identity code (R391). -/
opaque jedec : BitVec 11
/-- The default idVendor, LAMWARD_VID, and the default product IDs in the order of OD 0x2010 subs 2 to 6 (R57). -/
opaque usbId : Fin 6 → Half
/-- AO_AVS.VTARGET in mV (R344): the factory's fuse; out of its range 760 to 840 the model uses the nearer limit. -/
opaque vtargetFuse : BitVec 10
/-- The boot voltage of the integrator's regulator in mV (R376). -/
opaque bootVoltage : BitVec 10
/-- Boot ROM bytes (R155). -/
opaque bootRom : BitVec 15 → Byte
/-- Public key of Lamward in the boot ROM (R183). -/
opaque lamwardKey : List Byte

/-- Text of a firmware release (OD 0x100A), whose form the spec does not give. -/
opaque releaseText : Half → List Byte
/-- Release shown for an image slot that holds no image (OD 0x2031 subs 6 and 7). -/
opaque noRelease : Fin 2 → Half

/-! ## Free values (log entry 3) -/

/-- TB increment on FIRC, 8.24 fixed point ns per core cycle: 10.0 ns × 100 MHz / the measured frequency (R347). -/
opaque fircInc : Word
/-- A steering step whose size the spec bounds and does not state (R19, R235). -/
opaque steer : Nat → Word
/-- A random 32-byte challenge (R290, R393). -/
opaque challenge : Nat → List Byte
/-- Whether an Ed25519 signature verifies: key, message, signature (R5). -/
opaque edVerify : List Byte → List Byte → List Byte → Bool
/-- A 32-bit value the spec leaves open. -/
opaque word : Nat → Word

end Sys2Proof.Config
end

