-- ==== Sys2Proof/Machine/State.lean ====
section
/-!
DEFINITION. The state of the block: every register, queue, buffer, counter, mode and pin level the spec
gives it, as plain data, the queue of waiting commands, and its reset.
-/

namespace Sys2Proof.Machine

open Sys2Proof

/-! ## What the machine answers and drives -/

/-- What the last command was answered with (R49, R58, R307). -/
inductive Reply where
  /-- nothing is answered: the command is no request -/
  | none
  /-- the request completes, with these data bytes -/
  | done (data : List Byte)
  /-- the access is refused or fails with a status code of R59 -/
  | status (code : Nat)
  /-- USB Request Error (STALL) -/
  | requestError
  /-- USB 2.0 hold-off -/
  | nak
  /-- SuperSpeed hold-off -/
  | nrdy
  /-- LPM handshake -/
  | nyet
  /-- link power request accepted -/
  | lau
  /-- link power request refused -/
  | lxu
  /-- an SDO abort with its CANopen abort code -/
  | sdoAbort (code : Word)
deriving DecidableEq, Repr

/-- One byte string the machine put on a line, or a line it drove, in the order of the command. -/
inductive Out where
  /-- U3 wake-up LFPS (SuperSpeed) or K (USB 2.0) on upstream `u` (R67) -/
  | upWake (u : Fin 3) (hs : Bool)
  /-- the forwarded Function Wake of a waking port (R71) -/
  | functionWake (u : Fin 3) (p : Fin 40)
  /-- resume signalling on a port (R69) -/
  | portResume (p : Fin 40) (hs : Bool)
  /-- a reset signalled on a port -/
  | portReset (p : Fin 40) (kind : Nat)
  /-- ERDY on a hub's status-change endpoint (R56, R83) -/
  | erdy (lh : Fin 6)
  /-- start-of-frame on a bridged port (R84) -/
  | sof (p : Fin 24) (frame : Nat)
  /-- low-speed keep-alive on a bridged port (R84) -/
  | keepAlive (p : Fin 24)
  /-- a packet, or part of one, leaves a crosspoint port; `stomp` when its end is inverted (R98) -/
  | packet (xp : Fin 33) (bytes : List Byte) (stomp : Bool)
  /-- a fabric frame leaves port `f` -/
  | frame (f : Fin 4) (bytes : List Byte)
  /-- a credit block leaves port `f`: its STOP bits and RF -/
  | credit (f : Fin 4) (stop : Nat) (rf : Bool)
  /-- a CAN frame -/
  | can (cob : Nat) (data : List Byte)
  /-- a PMBus word write -/
  | pmbus (address : Nat) (command : Nat) (value : Nat)
  /-- TIMEREF_OUT high for 1 ms (R236) -/
  | timerefOut
  /-- SNAP_OUT_N low for 125 µs -/
  | snapOut
  /-- VCORE_EN driven -/
  | vcoreEn (high : Bool)
  /-- a slot gate commanded -/
  | slotGate (p : Fin 24) (on : Bool)
  /-- a group gate commanded -/
  | groupGate (g : Fin 4) (on : Bool)
  /-- a request the export proxy puts to an exported device, with its setup bytes and data -/
  | device (p : Fin 24) (setup : List Byte) (data : List Byte)
  /-- DBG_MBOX or MF bytes handed to the reader -/
  | bytes (b : List Byte)
deriving DecidableEq, Repr

/-! ## Clock, timebase and the device tick (R14 to R19) -/

/-- TIME block and tick state. -/
structure TimeS where
  /-- TB, 64-bit nanoseconds -/
  tb : DWord
  /-- TB's fraction in the increment accumulator, in units of 2^-24 ns (R358) -/
  frac : Nat
  /-- the TB value at which the next tick boundary falls (R14) -/
  nextBoundary : DWord
  /-- tick number (R14) -/
  tick : Word
  /-- TIME_STAT.TB_EST (R359) -/
  tbEst : Bool
  /-- TIME_STAT uncertainty field (R359) -/
  tbUnc : Nat
  /-- TIME_INC, 8.24 fixed point ns per core cycle -/
  inc : Word
  /-- TB latched at the last calendar second (TIME_CALTB) -/
  calTb : DWord
deriving DecidableEq, Repr

/-- One of TM0 to TM15 (R178). -/
structure TimerS where
  /-- running -/
  run : Bool
  /-- periodic -/
  periodic : Bool
  /-- TB at which it expires -/
  due : DWord
  /-- reload period in µs -/
  period : Nat
  /-- its expiry is pending at its owner's handler source -/
  pend : Bool
  /-- CONFLICT of TIME_TMn_CFG (R331) -/
  conflict : Bool
deriving DecidableEq, Repr

/-! ## Register interface (R304 to R332) -/

/-- A pending shadow of an RS register (R315). -/
structure Shadow where
  /-- register address -/
  addr : Nat
  /-- value to be applied -/
  val : Word
  /-- writer tag -/
  writer : Fin 16
  /-- an apply has refused it (R323) -/
  refused : Bool
deriving DecidableEq, Repr

/-- A held lower word of a multi-register value (R308). -/
structure HeldLow where
  /-- master that wrote it -/
  master : Fin 16
  /-- register address of the lower word -/
  addr : Nat
  /-- its value -/
  val : Word
deriving DecidableEq, Repr

/-- A posted write into AO in flight (R325). -/
structure Posted where
  /-- register address -/
  addr : Nat
  /-- value -/
  val : Word
  /-- writing master -/
  master : Fin 16
deriving DecidableEq, Repr

/-- Registers, shadows, keys, applies and the configuration checksum. -/
structure RegS where
  /-- active values that differ from `regDefault`, by address -/
  active : List (Nat × Word)
  /-- pending shadows -/
  shadows : List Shadow
  /-- armed apply groups (R317) -/
  armed : BitVec 16
  /-- key unlock of each master (R310) -/
  unlock : BitVec 16
  /-- key writes held by the carrying interfaces of masters 0 to 5 (R311): none, right or wrong key -/
  heldKey : Tbl 6 (Option Bool)
  /-- consecutive wrong keys, 0 to 7 (R312) -/
  fails : Nat
  /-- SYS_KEY locked (R312) -/
  locked : Bool
  /-- AO_BUSY and the posted write it stands for (R325) -/
  posted : Option Posted
  /-- SYS_STATUS.TESTMOD (R324) -/
  testmod : Bool
  /-- SYS_WLOCK has taken its first write (R314) -/
  wlockWritten : Bool
  /-- held lower words (R308) -/
  heldLow : List HeldLow
  /-- SYS_SHADDR -/
  shaddr : Word
  /-- CFG_CRC_CUR -/
  crcCur : Word
  /-- CFG_CRC_STAT.MISS -/
  miss : Nat
  /-- CFG_CRC_STAT.MATCH -/
  matched : Bool
  /-- CFG_CRC_STAT.STALE -/
  stale : Bool
  /-- CFG_CRC_STAT.PASSES -/
  passes : Nat
  /-- ADOPT set, and the master that set it (R323) -/
  adopt : Option (Fin 16)
  /-- the running pass started while the adopt conditions held (R323) -/
  passAdopts : Bool
deriving DecidableEq, Repr

/-- Event counters (R326, R327). -/
structure EvS where
  /-- EV_CNTn -/
  cnt : Tbl 64 Half
  /-- EV_SEENn -/
  seen : Tbl 64 Half
  /-- EV_OVF -/
  ovf : DWord
deriving DecidableEq, Repr

/-- Pin sharing (R33 to R37) and straps (R29). -/
structure PinS where
  /-- SYS_PINCONF.CONFLICT -/
  conflict : BitVec 5
  /-- levels sampled at the GPIO balls -/
  gpioIn : BitVec 16
  /-- sampled straps -/
  strap : BitVec 4
deriving DecidableEq, Repr

/-- The lease (R286) and commissioning session (R289, R290). -/
structure LeaseS where
  /-- owner master, none when free -/
  owner : Option (Fin 16)
  /-- owner node when the owner is master 4 -/
  node : BitVec 12
  /-- TB at which the lease timer expires -/
  due : DWord
  /-- commissioning level granted to the owner (R289) -/
  comm : Bool
  /-- outstanding commissioning challenge -/
  challenge : Option (List Byte)
  /-- failed responses to the outstanding challenge or session -/
  commFails : Nat
deriving DecidableEq, Repr

/-! ## USB ports, logical hubs and failover (R39 to R89) -/

/-- State of a downstream port (R52). -/
inductive PortSt where
  | disconnected | seating | powered | disabled | reset | enabled | suspended | error
deriving DecidableEq, Repr

/-- Link speed of a port, coded as USBP_Pn_STATE.SPEED. -/
inductive Speed where
  | none | ls | fs | hs | gen1 | gen2
deriving DecidableEq, Repr

/-- SuperSpeed link state, in the order of the hub class PORT_LINK_STATE codes. -/
inductive LinkSt where
  | u0 | u1 | u2 | u3 | ssDisabled | rxDetect | ssInactive | polling | recovery | hotReset | compliance | loopback
deriving DecidableEq, Repr

/-- A link event of a port that its block latches while the port's engine is lost (R169). -/
inductive LinkEv where
  | ssTerm
  | u0 (gen2 : Bool)
  | pollFail
  | hsConn (low : Bool)
  | hsDisc
  | ssLost
  | inactive
  | wake (hs : Bool)
deriving DecidableEq, Repr

/-- A port feature request that the hub server passes to the engine of the port (R169). -/
inductive PortReq where
  /-- PORT_POWER of a half, set or cleared -/
  | power (hs on : Bool)
  /-- PORT_RESET of a half -/
  | reset (hs : Bool)
  /-- BH_PORT_RESET -/
  | bhReset
  /-- PORT_LINK_STATE -/
  | linkState (n : Nat)
  /-- PORT_U1_TIMEOUT or PORT_U2_TIMEOUT -/
  | timeout (u2 : Bool) (t : Byte)
  /-- PORT_REMOTE_WAKE_MASK -/
  | wakeMask (m : Byte)
  /-- FORCE_LINKPM_ACCEPT -/
  | forceLpm (on : Bool)
  /-- PORT_SUSPEND, set or cleared -/
  | suspend (on : Bool)
  /-- PORT_TEST -/
  | test (mode : Nat)
  /-- PORT_ENABLE cleared -/
  | disable
deriving DecidableEq, Repr

/-- One half of a port as the hub class reports it: wPortStatus (less link state and speed) and wPortChange. -/
structure HalfS where
  /-- wPortStatus bits the half keeps -/
  st : BitVec 16
  /-- wPortChange bits -/
  chg : BitVec 16
deriving DecidableEq, Repr

/-- One downstream port: slots 0 to 23, virtual slots 24 to 39. -/
structure PortS where
  /-- machine state (R52) -/
  st : PortSt
  /-- SuperSpeed half -/
  ss : HalfS
  /-- USB 2.0 half -/
  hs : HalfS
  /-- halves of the port left at the owner while the entry is attached to its alternate (R82) -/
  awaySS : HalfS
  /-- as `awaySS`, USB 2.0 half -/
  awayHS : HalfS
  /-- SPEED -/
  speed : Speed
  /-- LINKST -/
  link : LinkSt
  /-- far-end SuperSpeed termination detected -/
  farTerm : Bool
  /-- SSDIS -/
  ssdis : Bool
  /-- SS.Disabled was entered by an overrun cut-off (R76) -/
  ovrOff : Bool
  /-- CUTRSN -/
  cutrsn : Nat
  /-- the port is cut off (R75, R76) -/
  cutOff : Bool
  /-- consecutive failed Polling attempts (R52) -/
  pollFails : Nat
  /-- the reset that is running: 0 USB 2.0, 1 hot, 2 warm -/
  resetKind : Option (Fin 3)
  /-- PORT_U1_TIMEOUT -/
  u1to : Byte
  /-- PORT_U2_TIMEOUT -/
  u2to : Byte
  /-- PORT_REMOTE_WAKE_MASK -/
  rwMask : Byte
  /-- FORCE_LINKPM_ACCEPT -/
  forceLpm : Bool
  /-- PORT_TEST mode, 0 none -/
  test : Nat
  /-- link error count (R49) -/
  errCount : Half
  /-- tree-suspended mark, SuperSpeed -/
  treeSS : Bool
  /-- tree-suspended mark, USB 2.0 -/
  treeHS : Bool
  /-- selectively suspended -/
  selSus : Bool
  /-- in L1 -/
  l1 : Bool
  /-- its wake opened the wake window or is in progress (R69, R71) -/
  waking : Bool
  /-- resume signalling runs on the port -/
  resuming : Bool
  /-- a wake latched in an entry window (R72) -/
  latched : Bool
  /-- BABBLE_CNT -/
  babbleCnt : Nat
  /-- OVR_CNT -/
  ovrCnt : Nat
  /-- recent cut-off times, oldest first (R77) -/
  recent : List DWord
  /-- BABBLER -/
  babbler : Bool
  /-- HELD -/
  held : Bool
  /-- BRIDGE -/
  bridge : Bool
  /-- while HELD: the device's USB 2.0 half is enabled (R83) -/
  heldHS : Bool
  /-- while HELD: speed of the held device -/
  heldSpeed : Speed
  /-- frame number last seen on the port -/
  frameNo : Nat
  /-- TT non-periodic buffers in use (R55) -/
  tt : Tbl 4 Bool
  /-- the engine serving the port is lost and the port holds state (R169) -/
  holding : Bool
  /-- link events latched for the engine, in order (R169) -/
  linkEv : List LinkEv
  /-- port feature requests waiting for the engine, in order (R169) -/
  reqs : List PortReq
deriving DecidableEq, Repr

/-- One logical hub LH0 to LH5. -/
structure HubS where
  /-- SuperSpeed half configured -/
  cfgSS : Bool
  /-- USB 2.0 half configured -/
  cfgHS : Bool
  /-- device address, SuperSpeed half -/
  addrSS : BitVec 7
  /-- device address, USB 2.0 half -/
  addrHS : BitVec 7
  /-- SET_HUB_DEPTH value, none until set (R43) -/
  depth : Option (Fin 5)
  /-- alternate setting of the USB 2.0 hub interface -/
  alt : Bool
  /-- U1_ENABLE -/
  u1en : Bool
  /-- U2_ENABLE -/
  u2en : Bool
  /-- DEVICE_REMOTE_WAKEUP, SuperSpeed half -/
  rwSS : Bool
  /-- DEVICE_REMOTE_WAKEUP, USB 2.0 half -/
  rwHS : Bool
  /-- a poll was answered NRDY and waits for ERDY (R56) -/
  nrdy : Bool
  /-- standby tier-2 hub not yet connected (R83) -/
  standby : Bool
  /-- C_HUB_LOCAL_POWER, SuperSpeed and USB 2.0 half -/
  cLocalSS : Bool
  cLocalHS : Bool
  /-- C_HUB_OVER_CURRENT, SuperSpeed and USB 2.0 half -/
  cOverSS : Bool
  cOverHS : Bool
deriving DecidableEq, Repr

/-- One upstream port and its tree. -/
structure TreeS where
  /-- VBUS present -/
  vbus : Bool
  /-- enabled by PE0 in start step 10 (R382) -/
  enabled : Bool
  /-- presents pull-up and SuperSpeed termination -/
  presents : Bool
  /-- SuperSpeed link state of the upstream link -/
  link : LinkSt
  /-- the USB 2.0 half runs at high speed -/
  hiSpeed : Bool
  /-- lost (R79) -/
  lost : Bool
  /-- tier-1 hub configured once since module reset (R80) -/
  everCfg : Bool
  /-- the tier-1 port carrying the tier-2 hub, SuperSpeed half -/
  t2ss : HalfS
  /-- the same port, USB 2.0 half -/
  t2hs : HalfS
  /-- SuperSpeed half of the tree suspended (U3) -/
  susSS : Bool
  /-- USB 2.0 half of the tree suspended (L2) -/
  susHS : Bool
  /-- wake propagation window open, SuperSpeed and USB 2.0 -/
  winSS : Bool
  winHS : Bool
  /-- U3 entry window and L2 entry window open (R72) -/
  entSS : Bool
  entHS : Bool
  /-- an MF event change latched as a wake in the L2 entry window -/
  mfLatched : Bool
  /-- MF device address -/
  mfAddr : BitVec 7
  /-- MF configured -/
  mfCfg : Bool
  /-- MF DEVICE_REMOTE_WAKEUP -/
  mfRw : Bool
deriving DecidableEq, Repr

/-- State of a failover machine (R81), coded as USBP_FO_STAT.ST. -/
inductive FoSt where
  | empty | normal | watch | pending | active
deriving DecidableEq, Repr

/-- The failover machine of UP_A's or UP_B's set. -/
structure FoS where
  /-- state -/
  st : FoSt
  /-- FAIL_HOLD with which the running hold started, ms (R40) -/
  holdMs : Nat
  /-- START_WAIT runs since step 10 (R80) -/
  startWait : Bool
  /-- a detach or failback has happened and the re-attach is due at the next tick (R83, R86) -/
  reattach : Bool
  /-- command waiting for the next tick: handover (true) or failback (false) -/
  cmd : Option Bool
  /-- master of that command (R363) -/
  cmdBy : Fin 16
deriving DecidableEq, Repr

/-- A dictionary message response waiting on bulk IN (R61). -/
structure DictResp where
  /-- OPCODE of the request -/
  opcode : Byte
  /-- TAG -/
  tag : Byte
  /-- Index -/
  index : Half
  /-- Subindex -/
  sub : Byte
  /-- status code (R59) -/
  status : Nat
  /-- data -/
  data : List Byte
deriving DecidableEq, Repr

/-- An event report waiting on interrupt IN (R62). -/
structure Report where
  /-- event number -/
  ev : Fin 64
  /-- EV_CNTn at the time of the report -/
  cnt : Half
  /-- TB[31:0] at the change -/
  tb : Word
  /-- calendar seconds -/
  sec : Word
deriving DecidableEq, Repr

/-- A management function instance (R57 to R62). -/
structure MfS where
  /-- last status code of this master -/
  status : Nat
  /-- unread responses, oldest first, at most four -/
  resp : List DictResp
  /-- events changed since the last tick and the TB at their first change -/
  changed : List (Fin 64 × DWord)
  /-- queued reports, oldest first, at most 64 -/
  reports : List Report
  /-- a report was discarded since the last one sent -/
  lostRep : Bool
deriving DecidableEq, Repr

/-- Hub, port, MF and failover state. -/
structure UsbS where
  /-- a topology has been accepted since reset: its layout is presented (R381) -/
  topoValid : Bool
  /-- USBP_TOPO_STAT.VALID, ERR, ERRENT of the last validated apply -/
  topoOk : Bool
  topoErr : Nat
  topoEnt : Nat
  hubs : Tbl 6 HubS
  ports : Tbl 40 PortS
  trees : Tbl 3 TreeS
  mf : Tbl 3 MfS
  fo : Tbl 2 FoS
  /-- USBP_FO_STAT.REFUSE -/
  foRefuse : Nat
  /-- USBP_FO_STAT.FO_CNT -/
  foCnt : Nat
  /-- UP_S Type-C status (R26): attached, orientation (true CC2), Rp level -/
  ccAttached : Bool
  ccOrient : Bool
  ccRp : Nat
deriving DecidableEq, Repr

/-! ## Forwarding core (R90 to R107) -/

/-- Lockstep state (R102), coded as XBAR_STAT.STATE. -/
inductive XbSt where
  | run | halt | rebuild | fault
deriving DecidableEq, Repr

/-- Counters of one crosspoint port. -/
structure XpCnt where
  unroute : Nat
  stomp : Nat
  crcErr : Nat
  stall : Nat
deriving DecidableEq, Repr

/-- A packet an egress port is transmitting (R145). -/
inductive Tx where
  /-- nothing -/
  | idle
  /-- a header packet, or an engine's packet, with the bytes that leave -/
  | bytes (b : List Byte)
  /-- the item at the read position of the port's egress queue -/
  | item
deriving DecidableEq, Repr

/-- A header packet waiting for its egress point (R95). -/
structure HdrWait where
  /-- ingress crosspoint port -/
  src : Fin 33
  /-- egress crosspoint port -/
  dst : Fin 33
  /-- the packet -/
  bytes : List Byte
deriving DecidableEq, Repr

/-- Forwarding core. -/
structure XbS where
  st : XbSt
  /-- comparison group of the last mismatch, 63 none -/
  group : Nat
  /-- times of the mismatches of the last 60 s, oldest first -/
  recent : List DWord
  /-- XBAR_LS_STAT.TOTAL -/
  total : Nat
  /-- XBAR_LS_TIME -/
  lsTime : Word
  /-- TB at the halt, for the rebuilt record -/
  haltTb : DWord
  /-- the mismatch was injected -/
  injected : Bool
  cnt : Tbl 33 XpCnt
  /-- ports with a stomp journalled in this device tick (R98) -/
  stompTick : BitVec 33
  tx : Tbl 33 Tx
  hdrs : List HdrWait
  /-- an XBAR OFF command waits for RUN (R103): the commanding master -/
  offWait : Option (Fin 16)
deriving DecidableEq, Repr

/-! ## Packet memory and queues (R108 to R139) -/

/-- A storage word: 64 data bits, and whether its parity bit is inverted (R108, R109). -/
structure PWord where
  data : DWord
  bad : Bool
deriving DecidableEq, Repr

/-- One bank of a queue. -/
structure BankS where
  /-- end of the bytes written, an item in progress included -/
  fill : Nat
  /-- end of the committed contents -/
  done : Nat
  /-- DATA and ABORT items committed -/
  items : Nat
  /-- closed by a GAP marker -/
  closed : Bool
  /-- items dropped into the bank since it closed -/
  gapDrops : Nat
deriving DecidableEq, Repr

/-- The item in progress of a queue (R426). -/
structure ItemCur where
  /-- producer: crosspoint port 0 to 32, engine 33 to 40, export channel 48 to 63, device hardware 64 -/
  prod : Nat
  bank : Fin 2
  /-- offset of the header word in the bank -/
  off : Nat
  /-- data bytes written -/
  len : Nat
  sop : Bool
  chseq : BitVec 16
  ts : BitVec 24
  poison : Bool
deriving DecidableEq, Repr

/-- One hardware queue. -/
structure QueueS where
  banks : Tbl 2 BankS
  /-- the producer's bank, none while a bank is HELD and the other is the consumer's -/
  prod : Option (Fin 2)
  cons : Fin 2
  /-- read position in the consumer's bank -/
  rpos : Nat
  /-- consumer in mid-item: data bytes of the item already delivered -/
  mid : Option Nat
  /-- a flush or an overtaken mark ended the item the consumer was reading: its next DEQ gets the ABORT end (R130, R425) -/
  endAbort : Bool
  cur : Option ItemCur
  /-- a producer the rest of whose item is discarded (R124, R130) -/
  skip : Option Nat
  /-- mark: bank and offset -/
  mark : Option (Fin 2 × Nat)
  markLost : Bool
  /-- HELD bank (R133) -/
  held : Option (Fin 2)
  /-- after a rewind into the HELD bank: the other bank is read next from its first item -/
  after : Bool
  /-- reading old items in the producer's bank (R425): position and end -/
  old : Option (Nat × Nat)
  /-- end of the contents of the bank last returned to the producer -/
  leftEnd : Nat
  /-- DATA items read since the mark (R134) -/
  win : Nat
  wm : Bool
  wmCross : Nat
  drops : Nat
  poisonRd : Nat
  hdrErr : Nat
  aborts : Nat
  rwstat : Nat
deriving DecidableEq, Repr

/-- QM block. -/
structure QmS where
  /-- storage words that differ from zero with good parity, by word number -/
  mem : List (Nat × PWord)
  q : Tbl 64 QueueS
  carveOk : Bool
  carveErr : Nat
  carveRow : Nat
  carveEpb : Bool
  parErr : Tbl 16 Nat
  rlost : BitVec 16
  parAddr : Nat
  /-- next block of the background agent, by bank -/
  scrubPos : Tbl 16 Nat
deriving DecidableEq, Repr

/-! ## Keystone (R142 to R154) -/

/-- One arbitration point: banks 0 to 15, egress points 16 to 48. -/
structure PointS where
  /-- grant counter -/
  ctr : Nat
  /-- requester that holds the point -/
  holder : Option (Fin 48)
  maxWait : Nat
  warnCnt : Nat
deriving DecidableEq, Repr

/-- A waiting request. -/
structure ReqS where
  point : Fin 49
  req : Fin 48
  /-- arbiter cycle at which it was raised -/
  raised : Nat
  /-- EV45 has counted for it -/
  warned : Bool
deriving DecidableEq, Repr

/-- Keystone. -/
structure ArbS where
  points : Tbl 49 PointS
  waits : List ReqS
  /-- core cycles told by the point decisions so far -/
  cyc : Nat
deriving DecidableEq, Repr

/-! ## Port engines (R155 to R181) -/

/-- State of an engine (R162), coded as SYS_PEn_STAT.STATE. -/
inductive EngSt where
  | reset | check | init | idle | tick | handler | halted
deriving DecidableEq, Repr

/-- What an engine sleeps on (R149, R176). -/
inductive Sleep where
  /-- awake -/
  | awake
  /-- WAITG, on its outstanding Keystone request -/
  | waitg
  /-- TWAIT, until TB[31:0] reaches the target -/
  | twait (target : Word)
deriving DecidableEq, Repr

/-- One port engine. -/
structure EngS where
  /-- state (R162) -/
  st : EngSt
  /-- state at the halt, while HALTED (R162) -/
  haltSt : EngSt
  /-- g0 to g15 (R155) -/
  regs : Tbl 16 Word
  /-- program counter: engine address of the next instruction -/
  pc : Word
  sleep : Sleep
  /-- a tick entry is pending (R164) -/
  entry : Bool
  /-- the pending entry was raised during a tick run: its run is late -/
  entryLate : Bool
  /-- entries skipped while this one was pending -/
  entrySkip : Nat
  /-- tick number of the pending entry -/
  entryNo : Half
  /-- LATE, SKIPPED and tick number of the current or last run -/
  late : Bool
  skipped : Nat
  tickNo : Half
  /-- the budget window of the run has ended (R163) -/
  overrun : Bool
  ovrSeq : Nat
  /-- watchdog counter; it does not run while WD_TICKS is 0 -/
  wd : Nat
  busErr : Bool
  lastCause : Nat
  /-- CONFLICT of SYS_PEn_STAT (R181) -/
  conflict : Bool
  /-- its mailbox claim lost its queue (R330, R331) -/
  mboxLost : Bool
  cntOvr : Nat
  cntSkip : Nat
  resets : Nat
  ecc1 : Nat
  ecc2 : Nat
  isig : Word
  /-- SYS_PEn_FAULT -/
  fault : Word
  /-- SYS_PEn_FPC -/
  fpc : Word
  /-- event handler sources pending (R160) -/
  evPend : BitVec 64
  /-- TB[63:32] latched by TBRD -/
  tbHigh : Word
  /-- a reload is requested and not complete (R168) -/
  reload : Bool
  /-- consecutive signature mismatches of this reset -/
  sigFails : Nat
  /-- the 100 ms hold of the ports it serves runs (R169) -/
  portHold : Bool
  /-- the ports it serves have been disconnected by the hold's end (R169) -/
  portsLost : Bool
  /-- hub halves it answered with NRDY and owes an ERDY (R169) -/
  owedErdy : BitVec 6
  /-- start of CHECK after a domain exit: g1 is 0 at the restart (R341) -/
  domainWake : Bool
  /-- point at which it waited when it was halted (R153) -/
  reqHeld : Option (Fin 49)
deriving DecidableEq, Repr

/-- Engines and engine memories. -/
structure EngBlk where
  /-- TM0 to TM15 (R178) -/
  tm : Tbl 16 TimerS
  pe : Tbl 8 EngS
  /-- IRAM, DRAM and ECM bytes by global address (R157); an unlisted byte reads 0 -/
  mem : List Host.Cell
deriving DecidableEq, Repr

/-! ## Slot power (R187 to R210) -/

/-- State of a slot (R188), coded as SPW_Sn_STAT.STATE. -/
inductive SlotSt where
  | off | seating | ramp | on | foldback | tripped | retryWait | lockout | fetFault | forcedOff
deriving DecidableEq, Repr

/-- Settings a slot keeps in use when an apply falls in its ramp (R207). -/
structure SlotSet where
  ctl : Word
  ramp : Word
  trip : Word
  model : Word
deriving DecidableEq, Repr

/-- One slot. -/
structure SlotS where
  st : SlotSt
  reason : Nat
  ssub : Nat
  /-- FORCE.HOST and FORCE.FIRMWARE; FORCE.CONFIG is EN = 0 (R202) -/
  forceHost : Bool
  forceFw : Bool
  /-- seating pins in the last AO sample -/
  pinA : Bool
  pinB : Bool
  /-- TB of the first pin seated, and of both seated since -/
  firstPin : DWord
  seatedSince : Option DWord
  /-- time between the two pins, ms -/
  pinSkew : Nat
  skew : Bool
  /-- kept in AO through a module reset (R207) -/
  locked : Bool
  retries : Nat
  /-- TB at which OFF_REMAIN reaches 0 (R200) -/
  offDue : DWord
  /-- the last start pass found WAIT 6 (R190) -/
  wait6 : Bool
  trips : Nat
  seatLoss : Nat
  iout : Nat
  vout : Nat
  /-- highest IOUT since the ramp started -/
  peak : Nat
  /-- thermal model elements, K (R196) -/
  da : Rat
  db : Rat
  /-- model temperature and its peak, 0.25 degC units -/
  tmodel : Int
  tpeak : Int
  kept : Option SlotSet
  /-- FET_FAULT kept in flash: its REASON (R199) -/
  flashFet : Option Nat
deriving DecidableEq, Repr

/-- One slot group. -/
structure GroupS where
  closed : Bool
  /-- commanded to close, gate not yet risen (R197) -/
  closing : Bool
  gfault : Bool
  isol : Bool
  islot : Nat
  /-- TSENSE, 0.25 degC units -/
  tsense : Int
  /-- VIN in 10 mV units -/
  vin : Nat
deriving DecidableEq, Repr

/-- Slot power block. -/
structure PowS where
  slots : Tbl 24 SlotS
  groups : Tbl 4 GroupS
  /-- TB of the last ramp start in the module (R190) -/
  lastStart : Option DWord
  warn : Bool
  level : Bool
  slope : Bool
  spread : Bool
  warnCnt : Nat
  /-- SPW_CFG_STAT -/
  cfgOk : Bool
  cfgErr : Nat
  cfgSlot : Nat
deriving DecidableEq, Repr

/-! ## Asjor fabric (R211 to R245) -/

/-- State of a fabric port (R220), coded as FAB_Fn_STAT.STATE. -/
inductive FabSt where
  | off | down | train | probe | up | fault
deriving DecidableEq, Repr

/-- A time master candidate (R232). -/
structure CandS where
  notref : Bool
  tprio : Byte
  dist : Nat
  uid : DWord
deriving DecidableEq, Repr

/-- A frame that waits in an ingress FIFO (R215). -/
structure HeldFrame where
  tc : Fin 4
  bytes : List Byte
deriving DecidableEq, Repr

/-- One fabric port. -/
structure FPortS where
  st : FabSt
  reason : Nat
  /-- RF in the last credit block, and consecutive blocks with it -/
  rfRun : Nat
  stopRx : BitVec 4
  /-- consecutive valid credit blocks -/
  creditRun : Nat
  /-- a valid hello was received since TRAIN was entered -/
  helloOk : Bool
  /-- the partner's hello carried SEEN 1 since PROBE was entered -/
  partnerSeen : Bool
  /-- consecutive hellos with SEEN 0 while UP -/
  seen0 : Nat
  /-- TB of the last valid hello, none since the port left OFF -/
  helloTb : Option DWord
  /-- body of the last hello, W1 [15:14] cleared (R222) -/
  helloLast : Option (List Byte)
  nbrFwok : Bool
  nbrCf : Bool
  nbrAddr : BitVec 12
  nbrPort : Fin 4
  nbrUid : DWord
  /-- candidate the neighbour advertises -/
  cand : Option CandS
  /-- the last eight delay measurements, oldest first, 1/16 ns -/
  delays : List Int
  /-- SEQ8 and T1 of the outstanding DREQ -/
  dreqSeq : Byte
  dreqT1 : Option DWord
  /-- frames held at the heads of the ingress FIFOs -/
  fifo : List HeldFrame
  /-- STOP bits sent -/
  stopTx : BitVec 4
  /-- TC0 buffer (R217) -/
  tc0 : List (List Byte)
  /-- block times of TC0 started in this frame period (R218) -/
  tc0Used : Nat
  blkErr : Nat
  hcrcErr : Nat
  badHdr : Nat
  unbound : Nat
  ttlDrop : Nat
  noRoute : Nat
  altFwd : Nat
  downs : Nat
deriving DecidableEq, Repr

/-- A link-state record of the database (R223). -/
structure LsRec where
  lsr : Lsr
  /-- TB at which it was installed or refreshed -/
  at_ : DWord
deriving DecidableEq, Repr

/-- Time state (R235), coded as FAB_TIME_STAT.TSTATE. -/
inductive TimeSt where
  | free | acquire | locked | holdover | master
deriving DecidableEq, Repr

/-- A stored response of the last 16 requests (R241). -/
structure OdxStore where
  src : BitVec 12
  tag : Byte
  at_ : DWord
  /-- response: OP, INDEX, SUB, STATUS and data -/
  op : Byte
  index : Half
  sub : Byte
  status : Nat
  data : List Byte
deriving DecidableEq, Repr

/-- Parts received of a segmented write (R241). -/
structure OdxPart where
  src : BitVec 12
  tag : Byte
  at_ : DWord
  data : List Byte
deriving DecidableEq, Repr

/-- A remote dictionary gateway (R242). -/
structure GateS where
  target : Half
  sel : Word
  value : List Byte
  cmd : Byte
  status : Nat
  remote : Nat
  tag : Byte
  attempts : Nat
deriving DecidableEq, Repr

/-- Fabric block and PE5's picture of the network. -/
structure FabS where
  port : Tbl 4 FPortS
  addr : BitVec 12
  asrc : Nat
  /-- dynamic address kept in flash as PREF -/
  pref : BitVec 12
  /-- address granted, taken at the next device tick (R226) -/
  granted : Option (BitVec 12)
  reqSeq : Word
  gSeq : Word
  /-- grants of this steward: address, unique ID, TB -/
  grants : List (BitVec 12 × DWord × DWord)
  /-- link-state database, this node's record included (R223) -/
  db : List LsRec
  /-- this node's link-state SEQ -/
  lsSeq : Word
  /-- its port states have changed since its last LSR -/
  lsDue : Bool
  /-- TB of the first database change not used by a recomputation -/
  dbDirty : Option DWord
  /-- identities of flooded records already seen (R224): kind, identity, number -/
  seen : List (Nat × DWord × Word)
  /-- route banks, entries that differ from the reset entry (R229) -/
  rt0 : List (Nat × Word)
  rt1 : List (Nat × Word)
  rtActive : Bool
  tst : TimeSt
  tup : Option (Fin 4)
  hops : Nat
  /-- unique ID of the elected master, none before the first election -/
  master : Option DWord
  masterAddr : BitVec 12
  trefValid : Bool
  /-- the master has stepped TB at its first edge (R235) -/
  trefStepped : Bool
  /-- consecutive good TIMEREF_IN edges, and TB of the last edge -/
  trefRun : Nat
  trefLast : Option DWord
  /-- FAB_TIME_OFS -/
  ofs : Int
  /-- consecutive SYNCs with an offset of at most 100 ns -/
  goodSync : Nat
  /-- forward step of TB due at the next tick boundary, ns -/
  step : Nat
  /-- TB of PE5's last refresh of the hello template (R222) -/
  fwTb : DWord
  /-- OD 0x4030 subs 1, 2 and 4 -/
  snapTarget : DWord
  snapId : Word
  snapStat : Nat
  /-- OD 0x4020 sub 1 -/
  rtSel : Half
  odxStore : List OdxStore
  odxParts : List OdxPart
  gates : Tbl 16 GateS
  /-- next TAG of a gateway request -/
  gateTag : Byte
deriving DecidableEq, Repr

/-! ## Remote export (R246 to R272) -/

/-- State of an export record (R250), coded as OD 0x4800 [3:0]. -/
inductive ExpSt where
  | empty | enum | refused | ready | bound
deriving DecidableEq, Repr

/-- State of an import, coded as OD 0x4811 [2:0]. -/
inductive ImpSt where
  | off | binding | bound | refused | lost | noSpeed
deriving DecidableEq, Repr

/-- An answer the exporter keeps (R260). -/
structure AnswerS where
  src : BitVec 12
  tag : Half
  op : Byte
  status : Nat
  content : List Byte
deriving DecidableEq, Repr

/-- A forwarded request the exporter runs on the device (R256). -/
structure DevReq where
  src : BitVec 12
  tag : Half
  setup : List Byte
  /-- exporter's channel words (R262) -/
  words : List Byte
deriving DecidableEq, Repr

/-- An export record. -/
structure ExpS where
  st : ExpSt
  refuse : Nat
  speed : Speed
  vid : Half
  pid : Half
  importer : BitVec 12
  vslot : Fin 16
  breason : Nat
  /-- descriptor cache (R248) -/
  cache : List Desc
  req : Option DevReq
  /-- the RESET message whose 0xA0 is owed -/
  resetOf : Option (BitVec 12 × Half)
  answer : Option AnswerS
  suspended : Bool
deriving DecidableEq, Repr

/-- A forwarded request an importer waits for (R255). -/
structure HostReq where
  tag : Half
  setup : List Byte
  data : List Byte
deriving DecidableEq, Repr

/-- An import: a virtual slot. -/
structure ImpS where
  st : ImpSt
  breason : Nat
  speed : Speed
  cache : List Desc
  config : Byte
  /-- interface number and alternate setting -/
  alts : List (Byte × Byte)
  rwEnable : Bool
  halts : List Byte
  req : Option HostReq
  /-- the RESET message that waits for 0xA0, and its kind -/
  resetOf : Option (Half × Fin 3)
  /-- TAG of the bind request under way -/
  bindTag : Option Byte
deriving DecidableEq, Repr

/-- A CTRL message that waits for its answer (R260). -/
structure MsgS where
  peer : BitVec 12
  slot : Nat
  tag : Half
  op : Byte
  /-- bytes after word 1 of each frame -/
  frames : List (List Byte)
deriving DecidableEq, Repr

/-- State of a channel or relay (R266), coded as XPT_Cn_STAT.STATE. -/
inductive ChanSt where
  | closed | open_ | replay | failed
deriving DecidableEq, Repr

/-- A channel (0 to 15) or relay (16 to 47). -/
structure ChanS where
  st : ChanSt
  /-- next SEQ to send, or E -/
  seq : Byte
  /-- SEQ at the mark, or NEXT of the last ACK -/
  markSeq : Byte
  unack : Nat
  /-- PWIN, or WIN last sent -/
  pwin : Nat
  strikes : Nat
  /-- frames sent since LAST was set -/
  burst : Nat
  replays : Nat
  dup : Nat
  ooo : Nat
  discard : Nat
  /-- a NAK has been sent for the present E -/
  nakDone : Bool
  /-- frames admitted since the last ACK -/
  since : Nat
  /-- relay: reports held, oldest first -/
  reports : List (List Byte)
deriving DecidableEq, Repr

/-- Remote export. -/
structure XptS where
  exp : Tbl 24 ExpS
  imp : Tbl 16 ImpS
  chan : Tbl 48 ChanS
  msgs : List MsgS
  /-- TAG of the last CTRL message -/
  tag : Half
deriving DecidableEq, Repr

/-! ## Object dictionary, storing, commissioning (R273 to R293) -/

/-- A dictionary value by its key, index × 256 + subindex. -/
abbrev OdVal := Nat × List Byte

/-- A write to a TICK entry that waits for the next device tick (R276). -/
structure OdPend where
  key : Nat
  bytes : List Byte
  /-- requesting master, and its node when it is master 4 -/
  master : Fin 16
  node : BitVec 12
deriving DecidableEq, Repr

/-- A configuration record in flash (R283). -/
structure CfgRec where
  seq : Word
  /-- values of the NV and SEALED entries that differ from their defaults -/
  vals : List OdVal
  crcRef : Word
  sealed : Bool
  sealCount : Half
  sealCrc : Word
  sealSec : Word
deriving DecidableEq, Repr

/-- A store: waiting for its copy at the next device tick, or being written (R283). -/
structure StoreS where
  /-- it carries a seal (R291) -/
  seals : Bool
  /-- the master that commanded it -/
  master : Fin 16
  /-- the record being written, once copied -/
  copy : Option CfgRec
deriving DecidableEq, Repr

/-- The dictionary server of PE0. -/
structure OdS where
  /-- values accepted that differ from the defaults, by key -/
  vals : List OdVal
  /-- values in force of the entries that take effect at a module reset, as `vals` stood then -/
  run : List OdVal
  /-- TICK writes waiting, oldest first -/
  pend : List OdPend
  /-- the two configuration records in flash -/
  recs : Tbl 2 (Option CfgRec)
  /-- OD 0x2003 sub 1 (R283) -/
  storeSt : Nat
  store : Option StoreS
  /-- a seal command came during a store: its own store follows (R303), and the master -/
  sealNext : Option (Fin 16)
  /-- a "load" mark (R285) -/
  loadMark : Bool
  /-- the seal is closed (R291) -/
  sealed : Bool
  sealCount : Half
  sealCrc : Word
  sealSec : Word
  /-- OD 0x2F02 sub 4 -/
  commSt : Nat
  /-- TB of the failed responses of the last 60 s, oldest first (R290) -/
  commFails : List DWord
  /-- TB until which challenges are refused (R290) -/
  commLock : Option DWord
  /-- TB at which the outstanding challenge lapses -/
  commDue : DWord
  /-- FORCE.FIRMWARE bits that the NIGHT profile set (R352) -/
  nightForced : BitVec 24
  /-- OD 0x5010 sub 2 -/
  profRes : Half
deriving DecidableEq, Repr

/-! ## CANopen (R294 to R301) -/

/-- NMT state, coded as CAN_STAT.NMT. -/
inductive Nmt where
  | init | preOp | oper | stopped
deriving DecidableEq, Repr

/-- An SDO or USDO transfer in progress (R296). -/
structure SdoXfer where
  idx : Half
  sub : Byte
  /-- client writes -/
  down : Bool
  /-- block transfer -/
  block : Bool
  /-- bytes received, or bytes still to be sent -/
  data : List Byte
  /-- length announced by the client, none when not announced -/
  size : Option Nat
  /-- toggle bit expected next -/
  toggle : Bool
  /-- block transfer: last sequence number received in order, or sent -/
  seq : Nat
  /-- block transfer: segments per block -/
  blk : Nat
  /-- block transfer: bytes of the sub-block in flight -/
  flight : List Byte
  /-- block transfer: all segments carried, the end is awaited -/
  ending : Bool
  /-- block upload: the client has started it -/
  started : Bool
deriving DecidableEq, Repr

/-- An EMCY that waits for its inhibit time (R299). -/
structure Emcy where
  code : Half
  /-- byte 3 and the bytes after it -/
  info : List Byte
deriving DecidableEq, Repr

/-- CANopen node. -/
structure CanS where
  nmt : Nmt
  /-- CAN_STAT.BUS -/
  bus : Nat
  tec : Byte
  rec_ : Byte
  busOff : Nat
  rxOvr : Nat
  hbLoss : Nat
  aborts : Nat
  sdo : Option SdoXfer
  usdo : Option SdoXfer
  /-- a CAN error of R299 remains: bit 4 of 0x1001 -/
  canErr : Bool
  /-- 0x1003, newest first -/
  hist : List Word
  /-- EMCY messages waiting -/
  emcy : List Emcy
  /-- an EMCY-routed event has been sent and not yet ended with code 0 -/
  emcyOpen : Bool
  /-- TB of the last EMCY -/
  emcyAt : Option DWord
  /-- consumer k is awaiting a heartbeat that has been heard once (R300) -/
  hbRun : Tbl 4 Bool
  /-- TPDO values last sent, SYNCs since, TB of the last transmission -/
  tpdoLast : Tbl 4 (List Byte)
  tpdoSync : Tbl 4 Nat
  tpdoAt : Tbl 4 (Option DWord)
  /-- RPDO values held for the next SYNC -/
  rpdoHeld : Tbl 4 (Option (List Byte))
  /-- events changed since the last tick that route to EMCY, in ascending order of change -/
  changed : List (Fin 64)
deriving DecidableEq, Repr

/-! ## AO: domains, patrol, core voltage, clocks, calendar (R333 to R359) -/

/-- State of a domain, coded as AO_DOMn_STAT.STATE. -/
inductive DomSt where
  | on | entering | retention | off | exiting
deriving DecidableEq, Repr

/-- One power domain. -/
structure DomS where
  st : DomSt
  /-- entering or exiting: the state it goes to, or comes from, is OFF -/
  toOff : Bool
  /-- a wake or ON command was latched in the entry window (R338) -/
  latched : Bool
  rlost : Bool
  wlat : Bool
  entries : Nat
  /-- AO_DOMn_SIG, none when no signature is valid -/
  sig : Option Word
  /-- TB at which the command was taken, for code 9 of R336 -/
  since : DWord
deriving DecidableEq, Repr

/-- A patrol item held in AO: destination engine and its 16 bytes (R342). -/
structure PatrolItem where
  pe : Fin 8
  bytes : List Byte
deriving DecidableEq, Repr

/-- AO block. -/
structure AoS where
  dom : Tbl 31 DomS
  /-- AO_DOM_RES -/
  resCode : Nat
  resDom : Nat
  /-- AO_CLK.SEL -/
  onPll : Bool
  pllEn : Bool
  pllLock : Bool
  /-- a write of SEL that takes effect at the next boundary (R348) -/
  selPend : Option Bool
  ftrim : Half
  /-- AO_PMB_STAT -/
  pmBusy : Bool
  pmAck : Bool
  pmTimeout : Bool
  pg : Bool
  /-- operating point, mV -/
  vnow : Nat
  statusw : Half
  /-- AO_PMB_CTL.VOUT, the target of the request in progress -/
  vout : Nat
  wakeLast : BitVec 10
  /-- last patrol samples: slots 0 to 23, links 24 to 50, fabric 51 to 54, VIN24 55 -/
  sample : Tbl 56 (BitVec 3)
  items : List PatrolItem
  calSec : Word
  calSub : Nat
  /-- AO_CAL_STAT.QUAL -/
  calQual : Nat
  /-- seconds since the last accepted time source; AO_CAL_STAT.AGE is its whole hours (R355) -/
  ageSec : Nat
  onVbat : Bool
  vbatLow : Bool
  alarm : Word
  tbCopy : DWord
  /-- AO_SLEEP, 48 bits -/
  sleep : Nat
  /-- TB of the last accepted fabric time source (R356) -/
  fabTime : Option DWord
  /-- a seating change of the slot is posted as kind 4: pins at the last item -/
  seatPins : Tbl 24 (BitVec 2)
deriving DecidableEq, Repr

/-! ## Journal and lifetime counters (R360 to R368) -/

/-- A written journal slot. -/
structure JSlot where
  /-- slot number, 0 to 262,143 -/
  slot : Nat
  bytes : List Byte
  /-- its CRC checks -/
  good : Bool
deriving DecidableEq, Repr

/-- A lifetime counter block in flash (R366). -/
structure LifeBlk where
  life : Tbl 12 Nat
  on : Tbl 24 Nat
  trip : Tbl 24 Nat
  cut : Tbl 24 Nat
  /-- SEQ of the newest record it includes -/
  seq : Word
deriving DecidableEq, Repr

/-- Journal. -/
structure JrS where
  /-- slots written and not erased, oldest first -/
  recs : List JSlot
  /-- slot the next record goes to -/
  next : Nat
  /-- SEQ of the next record -/
  seq : Word
  /-- lost items not yet recorded -/
  lost : Nat
  /-- cursors of the sixteen masters, journal and replicas -/
  cursor : Tbl 16 Word
  repCursor : Tbl 16 Word
  /-- the newest replicated records, at most 256, oldest first -/
  replica : List (List Byte)
  /-- seconds with CORE ON towards the next minute of OD 0x5420 sub 3 -/
  onSecs : Nat
  /-- OD 0x5420 to 0x5423 -/
  life : Tbl 12 Nat
  lifeOn : Tbl 24 Nat
  lifeTrip : Tbl 24 Nat
  lifeCut : Tbl 24 Nat
  /-- the newest counter block in flash -/
  block : Option LifeBlk
deriving DecidableEq, Repr

/-! ## Snapshots (R369 to R373) -/

/-- A scheduled target. -/
structure SnapTgt where
  armed : Bool
  target : DWord
  id : Word
deriving DecidableEq, Repr

/-- Snapshot block. -/
structure SnapS where
  /-- buffers B0 and B1: 2,816 bytes, none while free -/
  buf : Tbl 2 (Option (List Byte))
  last : Fin 2
  lost : Nat
  tgt : Tbl 4 SnapTgt
  /-- local SNAP_ID count since module reset -/
  localId : Word
  /-- buffers latched that PE7 has not copied yet, oldest first, with the SOURCE of their records (R363, R373) -/
  todo : List (Fin 2 × Nat)
  /-- copies in ECM, newest first, at most four -/
  copies : List (List Byte)
  /-- a trigger was raised within the running command: its source (R369) -/
  due : Option Nat
  /-- SOURCE of that trigger: the master of a software trigger, else 0x10 (R363) -/
  dueBy : Nat
deriving DecidableEq, Repr

/-! ## Images (R182 to R184) -/

/-- State of an image slot, in the order of OD 0x2031. -/
inductive ImgSt where
  | empty | loading | valid | trial | good | invalid | retired
deriving DecidableEq, Repr

/-- One image slot. -/
structure ImgSlot where
  st : ImgSt
  /-- bytes of the slot, as written -/
  bytes : List Byte
  /-- a TRIAL slot has started since its activation -/
  started : Bool
deriving DecidableEq, Repr

/-- Image load and selection. -/
structure ImgS where
  slot : Tbl 2 ImgSlot
  /-- slot of the running image -/
  running : Fin 2
  /-- the load under way: slot, next block, loading master -/
  load : Option (Fin 2 × Nat × Fin 16)
  /-- TB at which CONFIRM_WAIT of a running TRIAL slot ends -/
  confirmDue : Option DWord
deriving DecidableEq, Repr

/-! ## Start, resets (R376 to R386) -/

/-- How far a start has come. -/
inductive Stage where
  /-- AO runs, VCORE is off (retry gap or standby) -/
  | off
  /-- VCORE_EN is high, VCORE_PG awaited -/
  | vcore
  /-- VCORE_PG is high, the core is about to be released -/
  | ready
  /-- the core has been released -/
  | run
deriving DecidableEq, Repr

/-- A reset command that waits for the next tick boundary (R384). -/
inductive ResetCmd where
  | none
  | core (m : Fin 16)
  | module (m : Fin 16)
  /-- image command or trial expiry -/
  | image (m : Option (Fin 16))
deriving DecidableEq, Repr

/-- Start and reset state. -/
structure StartS where
  stage : Stage
  vcoreEn : Bool
  /-- SYS_RSTINFO fields -/
  kind : Nat
  src : Nat
  image : Bool
  fallback : Bool
  unclean : Bool
  defaults : Bool
  phase : Nat
  rstCmd : ResetCmd
  /-- the boundary scan holds the hub die in module reset (R392) -/
  scanHold : Bool
deriving DecidableEq, Repr

/-! ## Debug port (R390 to R402) -/

/-- Debug port. -/
structure DbgS where
  /-- instruction register -/
  ir : Byte
  /-- AUTHST: 0 none, 1 challenge issued, 2 granted, 3 refused, 4 locked, 5 disabled -/
  authst : Nat
  challenge : List Byte
  /-- a response is being verified -/
  resp : Option (List Byte)
  /-- TB of the invalid responses of the last 60 s -/
  fails : List DWord
  /-- result of the last DBG_ACC operation -/
  accData : Word
  accAddr : Word
  accStatus : Nat
  accCode : Nat
  /-- words of the dictionary message being shifted in -/
  msgIn : List DWord
  /-- response words waiting -/
  msgOut : List DWord
  /-- DBG_PEn_CTL.HALT and PHOLD -/
  halt : BitVec 8
  phold : BitVec 8
  /-- stepping: the engine halts again after one instruction -/
  stepping : BitVec 8
  /-- a breakpoint match is passed once: set by a resume or a step from it -/
  pass : BitVec 8
deriving DecidableEq, Repr

/-! ## The machine -/

/-- Why a command faults. No command of this block does: the spec gives each a completion, an
error response or no effect. Safe: nothing stops where the block goes on. -/
inductive Fault where
deriving DecidableEq, Repr

/-- Why a command is refused. -/
inductive Refusal where
  /-- Raised by `exec` for a command that has no meaning in the model yet. Safe: the run stops. -/
  | notModelled (mnemonic : String)
deriving DecidableEq, Repr

/-- The whole block. -/
structure State where
  /-- commands that wait, first in, first out -/
  pending : List Instr
  time : TimeS
  regs : RegS
  ev : EvS
  pin : PinS
  lease : LeaseS
  usb : UsbS
  xb : XbS
  qm : QmS
  arb : ArbS
  eng : EngBlk
  pow : PowS
  fab : FabS
  xpt : XptS
  od : OdS
  can : CanS
  ao : AoS
  jr : JrS
  snap : SnapS
  img : ImgS
  start : StartS
  dbg : DbgS
  /-- what the last command was answered with -/
  reply : Reply
  /-- what the last command put on lines and pins, in order -/
  out : List Out
  /-- the model's own count of free values drawn (no state of the spec) -/
  free : Nat
deriving DecidableEq, Repr

/-! ## Reset

The machine right after a power-on reset that AO did not survive (R376): AO runs, VCORE_EN is high and VCORE_PG
is awaited. Registers stand at their values without configuration (`RegS.active` lists nothing). Values the
register tables mark X are 0 (DESIGN CHOICE, log entry 1). -/

/-- A timer at reset. -/
def TimerS.reset : TimerS := { run := false, periodic := false, due := 0, period := 0, pend := false, conflict := false }
/-- A port half at reset. -/
def HalfS.reset : HalfS := { st := 0, chg := 0 }
/-- A downstream port at reset. -/
def PortS.reset : PortS :=
  { st := .disconnected, ss := HalfS.reset, hs := HalfS.reset, awaySS := HalfS.reset, awayHS := HalfS.reset,
    speed := .none, link := .u0, farTerm := false, ssdis := false, ovrOff := false, cutrsn := 0, cutOff := false,
    pollFails := 0, resetKind := none, u1to := 0, u2to := 0, rwMask := 0, forceLpm := false, test := 0, errCount := 0,
    treeSS := false, treeHS := false, selSus := false, l1 := false, waking := false, resuming := false, latched := false,
    babbleCnt := 0, ovrCnt := 0, recent := [], babbler := false, held := false, bridge := false, heldHS := false,
    heldSpeed := .none, frameNo := 0, tt := Tbl.fill 4 false, holding := false, linkEv := [], reqs := [] }
/-- A logical hub at reset. -/
def HubS.reset : HubS :=
  { cfgSS := false, cfgHS := false, addrSS := 0, addrHS := 0, depth := none, alt := false, u1en := false, u2en := false,
    rwSS := false, rwHS := false, nrdy := false, standby := false, cLocalSS := false, cLocalHS := false,
    cOverSS := false, cOverHS := false }
/-- An upstream port at reset. -/
def TreeS.reset : TreeS :=
  { vbus := false, enabled := false, presents := false, link := .ssDisabled, hiSpeed := false, lost := false, everCfg := false,
    t2ss := HalfS.reset, t2hs := HalfS.reset, susSS := false, susHS := false, winSS := false, winHS := false, entSS := false,
    entHS := false, mfLatched := false, mfAddr := 0, mfCfg := false, mfRw := false }
/-- USB block at reset. -/
def UsbS.reset : UsbS :=
  { topoValid := false, topoOk := false, topoErr := 0, topoEnt := 0, hubs := Tbl.fill 6 HubS.reset,
    ports := Tbl.fill 40 PortS.reset, trees := Tbl.fill 3 TreeS.reset,
    mf := Tbl.fill 3 { status := 0, resp := [], changed := [], reports := [], lostRep := false },
    fo := Tbl.fill 2 { st := .empty, holdMs := 0, startWait := false, reattach := false, cmd := none, cmdBy := 0 },
    foRefuse := 0, foCnt := 0, ccAttached := false, ccOrient := false, ccRp := 0 }
/-- Forwarding core at reset. -/
def XbS.reset : XbS :=
  { st := .run, group := 0x3F, recent := [], total := 0, lsTime := 0, haltTb := 0, injected := false,
    cnt := Tbl.fill 33 { unroute := 0, stomp := 0, crcErr := 0, stall := 0 }, stompTick := 0, tx := Tbl.fill 33 .idle, hdrs := [],
    offWait := none }
/-- A bank of a queue at reset. -/
def BankS.reset : BankS := { fill := 0, done := 0, items := 0, closed := false, gapDrops := 0 }
/-- A queue at reset. -/
def QueueS.reset : QueueS :=
  { banks := Tbl.fill 2 BankS.reset, prod := some 0, cons := 1, rpos := 0, mid := none, endAbort := false, cur := none, skip := none, mark := none,
    markLost := false, held := none, after := false, old := none, leftEnd := 0, win := 0, wm := false, wmCross := 0, drops := 0,
    poisonRd := 0, hdrErr := 0, aborts := 0, rwstat := 0 }
/-- Packet store at reset. -/
def QmS.reset : QmS :=
  { mem := [], q := Tbl.fill 64 QueueS.reset, carveOk := false, carveErr := 0, carveRow := 0, carveEpb := false,
    parErr := Tbl.fill 16 0, rlost := 0, parAddr := 0, scrubPos := Tbl.fill 16 0 }
/-- Keystone at reset. -/
def ArbS.reset : ArbS :=
  { points := Tbl.fill 49 { ctr := 0, holder := none, maxWait := 0, warnCnt := 0 }, waits := [], cyc := 0 }
/-- An engine at reset. -/
def EngS.reset : EngS :=
  { st := .reset, haltSt := .reset, regs := Tbl.fill 16 0, pc := 0, sleep := .awake, entry := false, entryLate := false, entrySkip := 0,
    entryNo := 0, late := false, skipped := 0, tickNo := 0, overrun := false, ovrSeq := 0, wd := 0, busErr := false,
    lastCause := 6, conflict := false, mboxLost := false, cntOvr := 0, cntSkip := 0, resets := 0, ecc1 := 0, ecc2 := 0, isig := 0, fault := 0,
    fpc := 0, evPend := 0, tbHigh := 0, reload := false, sigFails := 0, portHold := false, portsLost := false, owedErdy := 0,
    domainWake := false, reqHeld := none }
/-- A slot at reset. -/
def SlotS.reset : SlotS :=
  { st := .off, reason := 0, ssub := 0, forceHost := false, forceFw := false, pinA := false, pinB := false, firstPin := 0,
    seatedSince := none, pinSkew := 0, skew := false, locked := false, retries := 0, offDue := 0, wait6 := false, trips := 0,
    seatLoss := 0, iout := 0, vout := 0, peak := 0, da := 0, db := 0, tmodel := 0, tpeak := 0, kept := none, flashFet := none }
/-- Slot power at reset. -/
def PowS.reset : PowS :=
  { slots := Tbl.fill 24 SlotS.reset,
    groups := Tbl.fill 4 { closed := false, closing := false, gfault := false, isol := false, islot := 0, tsense := 0, vin := 0 },
    lastStart := none, warn := false, level := false, slope := false, spread := false, warnCnt := 0, cfgOk := false, cfgErr := 0,
    cfgSlot := 0 }
/-- A fabric port at reset. -/
def FPortS.reset : FPortS :=
  { st := .off, reason := 0, rfRun := 0, stopRx := 0, creditRun := 0, helloOk := false, partnerSeen := false, seen0 := 0,
    helloTb := none, helloLast := none, nbrFwok := false, nbrCf := false, nbrAddr := 0, nbrPort := 0, nbrUid := 0, cand := none,
    delays := [], dreqSeq := 0, dreqT1 := none, fifo := [], stopTx := 0, tc0 := [], tc0Used := 0, blkErr := 0, hcrcErr := 0,
    badHdr := 0, unbound := 0, ttlDrop := 0, noRoute := 0, altFwd := 0, downs := 0 }
/-- Fabric at reset. -/
def FabS.reset : FabS :=
  { port := Tbl.fill 4 FPortS.reset, addr := 0, asrc := 0, pref := 0, granted := none, reqSeq := 0, gSeq := 0, grants := [], db := [],
    lsSeq := 0, lsDue := false, dbDirty := none, seen := [], rt0 := [], rt1 := [], rtActive := false, tst := .free, tup := none,
    hops := 0, master := none, masterAddr := 0, trefValid := false, trefStepped := false, trefRun := 0, trefLast := none,
    ofs := 0, goodSync := 0, step := 0, fwTb := 0, snapTarget := 0, snapId := 0, snapStat := 0, rtSel := 0,
    odxStore := [], odxParts := [],
    gates := Tbl.fill 16 { target := 0, sel := 0, value := [], cmd := 0, status := 0, remote := 0, tag := 0, attempts := 0 },
    gateTag := 0 }
/-- Remote export at reset. -/
def XptS.reset : XptS :=
  { exp := Tbl.fill 24
      { st := .empty, refuse := 0, speed := .none, vid := 0, pid := 0, importer := 0, vslot := 0, breason := 0, cache := [], req := none,
        resetOf := none, answer := none, suspended := false },
    imp := Tbl.fill 16
      { st := .off, breason := 0, speed := .none, cache := [], config := 0, alts := [], rwEnable := false, halts := [], req := none,
        resetOf := none, bindTag := none },
    chan := Tbl.fill 48
      { st := .closed, seq := 0, markSeq := 0, unack := 0, pwin := 0, strikes := 0, burst := 0, replays := 0, dup := 0, ooo := 0,
        discard := 0, nakDone := false, since := 0, reports := [] },
    msgs := [], tag := 0 }
/-- Dictionary server at reset. -/
def OdS.reset : OdS :=
  { vals := [], run := [], pend := [], recs := Tbl.fill 2 none, storeSt := 0, store := none, sealNext := none, loadMark := false,
    sealed := false, sealCount := 0, sealCrc := 0, sealSec := 0, commSt := 0, commFails := [], commLock := none, commDue := 0,
    nightForced := 0, profRes := 0 }
/-- CANopen node at reset. -/
def CanS.reset : CanS :=
  { nmt := .init, bus := 0, tec := 0, rec_ := 0, busOff := 0, rxOvr := 0, hbLoss := 0, aborts := 0, sdo := none, usdo := none,
    canErr := false, hist := [], emcy := [], emcyOpen := false, emcyAt := none, hbRun := Tbl.fill 4 false,
    tpdoLast := Tbl.fill 4 [], tpdoSync := Tbl.fill 4 0, tpdoAt := Tbl.fill 4 none, rpdoHeld := Tbl.fill 4 none, changed := [] }
/-- AO at a power-on reset with AO lost. -/
def AoS.reset : AoS :=
  { dom := Tbl.fill 31
      { st := .on, toOff := false, latched := false, rlost := false, wlat := false, entries := 0, sig := none, since := 0 },
    resCode := 0, resDom := 0, onPll := false, pllEn := false, pllLock := false, selPend := none, ftrim := 0, pmBusy := false,
    pmAck := false, pmTimeout := false, pg := false, vnow := 0, statusw := 0, vout := 0, wakeLast := 0, sample := Tbl.fill 56 0,
    items := [], calSec := 0, calSub := 0, calQual := 2, ageSec := 0, onVbat := false, vbatLow := false, alarm := 0, tbCopy := 0,
    sleep := 0, fabTime := none, seatPins := Tbl.fill 24 0 }
/-- Journal and lifetime counters of an erased flash. -/
def JrS.reset : JrS :=
  { recs := [], next := 0, seq := 0, lost := 0, cursor := Tbl.fill 16 0, repCursor := Tbl.fill 16 0, replica := [],
    onSecs := 0, life := Tbl.fill 12 0, lifeOn := Tbl.fill 24 0, lifeTrip := Tbl.fill 24 0, lifeCut := Tbl.fill 24 0, block := none }
/-- Snapshot block at reset. -/
def SnapS.reset : SnapS :=
  { buf := Tbl.fill 2 none, last := 0, lost := 0, tgt := Tbl.fill 4 { armed := false, target := 0, id := 0 }, localId := 0, todo := [], copies := [],
    due := none, dueBy := 16 }
/-- Image slots of an erased flash. -/
def ImgS.reset : ImgS :=
  { slot := Tbl.fill 2 { st := .empty, bytes := [], started := false }, running := 0, load := none, confirmDue := none }
/-- Start state: KIND 1, VCORE_EN high. -/
def StartS.init : StartS :=
  { stage := .vcore, vcoreEn := true, kind := 1, src := 0x1F, image := false, fallback := false, unclean := false, defaults := false,
    phase := 0, rstCmd := .none, scanHold := false }
/-- Debug port at reset: the TAP selects IDCODE. -/
def DbgS.reset : DbgS :=
  { ir := 0x01, authst := 0, challenge := [], resp := none, fails := [], accData := 0, accAddr := 0, accStatus := 0, accCode := 0,
    msgIn := [], msgOut := [], halt := 0, phold := 0, stepping := 0, pass := 0 }
/-- The register interface at reset. -/
def RegS.reset : RegS :=
  { active := [], shadows := [], armed := 0, unlock := 0, heldKey := Tbl.fill 6 none, fails := 0, locked := false, posted := none,
    testmod := false, wlockWritten := false, heldLow := [], shaddr := 0, crcCur := 0, miss := 0, matched := false, stale := false,
    passes := 0, adopt := none, passAdopts := false }

/-- The machine right after reset. -/
def State.reset : State :=
  { pending := []
    time := { tb := 0, frac := 0, nextBoundary := 125000, tick := 0, tbEst := false, tbUnc := 0, inc := 0, calTb := 0 }
    regs := RegS.reset
    ev := { cnt := Tbl.fill 64 0, seen := Tbl.fill 64 0, ovf := 0 }
    pin := { conflict := 0, gpioIn := 0, strap := 0 }
    lease := { owner := none, node := 0, due := 0, comm := false, challenge := none, commFails := 0 }
    usb := UsbS.reset
    xb := XbS.reset
    qm := QmS.reset
    arb := ArbS.reset
    eng := { tm := Tbl.fill 16 TimerS.reset, pe := Tbl.fill 8 EngS.reset, mem := [] }
    pow := PowS.reset
    fab := FabS.reset
    xpt := XptS.reset
    od := OdS.reset
    can := CanS.reset
    ao := AoS.reset
    jr := JrS.reset
    snap := SnapS.reset
    img := ImgS.reset
    start := StartS.init
    dbg := DbgS.reset
    reply := .none
    out := []
    free := 0 }

end Sys2Proof.Machine
end

