-- ==== Sys2Proof/Machine/Bits.lean ====
section
/-!
DEFINITION. Bit fields, packing, byte orders, and the checksums of R6.
-/

namespace Sys2Proof.Machine

open Sys2Proof

/-- 1 for true. -/
def b2n (b : Bool) : Nat := if b then 1 else 0
/-- Field [hi:lo] of a register word. -/
def fld (w : Word) (hi lo : Nat) : Nat := w.toNat / 2 ^ lo % 2 ^ (hi - lo + 1)
/-- Bit `i` of a register word. -/
def bit (w : Word) (i : Nat) : Bool := w.toNat.testBit i
/-- A word packed from fields, each a value, its lowest bit and its width. -/
def pk (l : List (Nat × Nat × Nat)) : Word :=
  BitVec.ofNat 32 (l.foldl (fun n x => n + x.1 % 2 ^ x.2.2 * 2 ^ x.2.1) 0)
/-- A word with field [hi:lo] replaced. -/
def setFld (w : Word) (hi lo v : Nat) : Word :=
  BitVec.ofNat 32 (w.toNat - fld w hi lo * 2 ^ lo + v % 2 ^ (hi - lo + 1) * 2 ^ lo)
/-- The bits of `v` under a mask, the bits of `old` elsewhere. -/
def merge (old v mask : Word) : Word := (old &&& ~~~mask) ||| (v &&& mask)
/-- A byte of a natural number. -/
def toByte (n : Nat) : Byte := BitVec.ofNat 8 n
/-- A register word of a natural number. -/
def toWord (n : Nat) : Word := BitVec.ofNat 32 n

/-- The low `k` bytes of a value, least significant first. -/
def leBytes (n : Nat) : Nat → List Byte
  | 0 => []
  | k + 1 => BitVec.ofNat 8 n :: leBytes (n / 256) k
/-- Little-endian bytes of a 16-bit value. -/
def le16 (n : Nat) : List Byte := leBytes n 2
/-- Little-endian bytes of a 32-bit value. -/
def le32 (n : Nat) : List Byte := leBytes n 4
/-- A byte list cut or padded with zeros to `n` bytes. -/
def padTo (n : Nat) (l : List Byte) : List Byte := (l ++ List.replicate (n - l.length) 0).take n
/-- The value of little-endian bytes. -/
def ofLe : List Byte → Nat
  | [] => 0
  | b :: l => b.toNat + 256 * ofLe l

/-! ## Checksums (R6) -/

/-- One step of the reflected CRC-32C register. -/
def crc32cBit (r : Nat) : Nat := if r % 2 = 1 then (r / 2) ^^^ 0x82F63B78 else r / 2
/-- Eight steps. -/
def crc32cShift (r : Nat) : Nat :=
  crc32cBit (crc32cBit (crc32cBit (crc32cBit (crc32cBit (crc32cBit (crc32cBit (crc32cBit r)))))))
/-- The CRC-32C register advanced by one byte, with no initial value and no final inversion. -/
def crc32cByte (r : Nat) (b : Byte) : Nat := crc32cShift (r ^^^ b.toNat)
/-- The CRC-32C register advanced over bytes. -/
def crc32cRun (r : Nat) (bs : List Byte) : Nat := bs.foldl crc32cByte r
/-- CRC-32C of a byte string. -/
def crc32c (bs : List Byte) : Word := BitVec.ofNat 32 (crc32cRun 0xFFFFFFFF bs ^^^ 0xFFFFFFFF)
/-- One step of the CRC-16 register of frame headers. -/
def crc16Bit (r : Nat) : Nat := if 32768 ≤ r then (r * 2 % 65536) ^^^ 0x1021 else r * 2
/-- The CRC-16 register advanced by one byte. -/
def crc16Byte (r : Nat) (b : Byte) : Nat :=
  crc16Bit (crc16Bit (crc16Bit (crc16Bit (crc16Bit (crc16Bit (crc16Bit (crc16Bit (r ^^^ (b.toNat * 256)))))))))
/-- CRC-16 of a frame header (R212). -/
def crc16 (bs : List Byte) : Half := BitVec.ofNat 16 (bs.foldl crc16Byte 0xFFFF)

/-! ## Sparse tables -/

/-- The value at a key: the entry where there is one, else what an unlisted key reads as. -/
def Sparse.get {α : Type} (dflt : Nat → α) : List (Nat × α) → Nat → α
  | [], k => dflt k
  | (j, a) :: l, k => if j = k then a else Sparse.get dflt l k

/-- Remove a key. -/
def Sparse.drop {α : Type} : List (Nat × α) → Nat → List (Nat × α)
  | [], _ => []
  | (j, a) :: l, k => if j = k then l else (j, a) :: Sparse.drop l k

/-- Insert or replace a key, the keys strictly rising. -/
def Sparse.insert {α : Type} (k : Nat) (v : α) : List (Nat × α) → List (Nat × α)
  | [] => [(k, v)]
  | (j, a) :: l => if k < j then (k, v) :: (j, a) :: l else if k = j then (k, v) :: l else (j, a) :: Sparse.insert k v l

/-- Write a key: a value equal to what an unlisted key reads as removes the entry. -/
def Sparse.put {α : Type} [DecidableEq α] (dflt : Nat → α) (l : List (Nat × α)) (k : Nat) (v : α) : List (Nat × α) :=
  if v = dflt k then Sparse.drop l k else Sparse.insert k v l

/-- The canonical form: keys strictly rising, no entry equal to what an unlisted key reads as. -/
def Sparse.wf {α : Type} [DecidableEq α] (dflt : Nat → α) : List (Nat × α) → Bool
  | [] => true
  | [(k, v)] => decide (v ≠ dflt k)
  | (k, v) :: (j, a) :: l => decide (v ≠ dflt k) && decide (k < j) && Sparse.wf dflt ((j, a) :: l)

/-- The value of an optional byte list kept by key. -/
def Sparse.find {α : Type} (l : List (Nat × α)) (k : Nat) : Option α := (l.find? fun x => x.1 = k).map fun x => x.2

end Sys2Proof.Machine
end

