-- ==== Sys2Proof/Machine/RegTable.lean ====
section
/-!
DEFINITION. The registers of the block, as the register tables of the spec give them: for each family its
addresses and, per access class, the mask of its fields; and the value every stored register has without
configuration.
-/

namespace Sys2Proof.Machine

open Sys2Proof

/-- A register family: `count` registers from `base`, `stride` bytes apart. Masks: `rs` shadowed fields, `rw`
directly written fields, `rv` reserved bits, `crc` fields in the checksum, `wo` write-only bits. -/
structure RegRow where
  base : Nat
  count : Nat
  stride : Nat
  rs : Nat
  rw : Nat
  rv : Nat
  wo : Nat
  crc : Nat
  /-- holds an RK field (R313) -/
  key : Bool
  /-- holds an RP field (R325) -/
  posted : Bool
  /-- address of the selector that names its apply group, 0 without shadowed fields -/
  sel : Nat
  /-- value at reset, or without configuration -/
  init : Nat
deriving DecidableEq, Repr

/-- Register families of block SYS. -/
def regsSys : List RegRow := [
  -- SYS_ID
  { base := 0x0, count := 1, stride := 0x4, rs := 0x0, rw := 0x0, rv := 0xfff00000, wo := 0x0, crc := 0x0, key := false, posted := false, sel := 0, init := 0x2404 },
  -- SYS_KEY
  { base := 0x10, count := 1, stride := 0x4, rs := 0x0, rw := 0x0, rv := 0x0, wo := 0xffffffff, crc := 0x0, key := false, posted := false, sel := 0, init := 0x0 },
  -- SYS_KEYSTAT
  { base := 0x14, count := 1, stride := 0x4, rs := 0x0, rw := 0x0, rv := 0xffe0, wo := 0x0, crc := 0x0, key := false, posted := false, sel := 0, init := 0x0 },
  -- SYS_APPLY
  { base := 0x20, count := 1, stride := 0x4, rs := 0x0, rw := 0x0, rv := 0xffff0000, wo := 0xffff, crc := 0x0, key := false, posted := false, sel := 0, init := 0x0 },
  -- SYS_APPLY_TICK
  { base := 0x24, count := 1, stride := 0x4, rs := 0x0, rw := 0xffff, rv := 0x0, wo := 0xffff0000, crc := 0x0, key := false, posted := false, sel := 0, init := 0x0 },
  -- SYS_STATUS
  { base := 0x30, count := 1, stride := 0x4, rs := 0x0, rw := 0x0, rv := 0xfffffff8, wo := 0x0, crc := 0x0, key := false, posted := false, sel := 0, init := 0x0 },
  -- SYS_WLOCK
  { base := 0x34, count := 1, stride := 0x4, rs := 0x0, rw := 0x3, rv := 0xfffffffc, wo := 0x0, crc := 0x3, key := true, posted := false, sel := 0, init := 0x0 },
  -- SYS_LEASE
  { base := 0x40, count := 1, stride := 0x4, rs := 0x0, rw := 0x0, rv := 0xf00000fc, wo := 0x3, crc := 0x0, key := false, posted := false, sel := 0, init := 0xff00 },
  -- SYS_LEASE_TIME
  { base := 0x44, count := 1, stride := 0x4, rs := 0x0, rw := 0x0, rv := 0xffffc000, wo := 0x0, crc := 0x0, key := false, posted := false, sel := 0, init := 0x0 },
  -- SYS_SHADDR
  { base := 0x50, count := 1, stride := 0x4, rs := 0x0, rw := 0xffffffff, rv := 0x0, wo := 0x0, crc := 0x0, key := false, posted := false, sel := 0, init := 0x0 },
  -- SYS_SHDATA
  { base := 0x54, count := 1, stride := 0x4, rs := 0x0, rw := 0x0, rv := 0x0, wo := 0x0, crc := 0x0, key := false, posted := false, sel := 0, init := 0x0 },
  -- SYS_SHSTAT
  { base := 0x58, count := 1, stride := 0x4, rs := 0x0, rw := 0x0, rv := 0xffff00c0, wo := 0x0, crc := 0x0, key := false, posted := false, sel := 0, init := 0xff00 },
  -- SYS_RESET
  { base := 0x60, count := 1, stride := 0x4, rs := 0x0, rw := 0x0, rv := 0xfffffffc, wo := 0x3, crc := 0x0, key := true, posted := false, sel := 0, init := 0x0 },
  -- SYS_RSTINFO
  { base := 0x64, count := 1, stride := 0x4, rs := 0x0, rw := 0xf0f00, rv := 0xfff0f000, wo := 0x0, crc := 0x0, key := false, posted := false, sel := 0, init := 0x0 },
  -- CFG_CRC_REF
  { base := 0x100, count := 1, stride := 0x4, rs := 0x0, rw := 0xffffffff, rv := 0x0, wo := 0x0, crc := 0x0, key := true, posted := false, sel := 0, init := 0x0 },
  -- CFG_CRC_CUR
  { base := 0x104, count := 1, stride := 0x4, rs := 0x0, rw := 0x0, rv := 0x0, wo := 0x0, crc := 0x0, key := false, posted := false, sel := 0, init := 0x0 },
  -- CFG_CRC_CTL
  { base := 0x108, count := 1, stride := 0x4, rs := 0x0, rw := 0x1, rv := 0xfffffffe, wo := 0x0, crc := 0x0, key := true, posted := false, sel := 0, init := 0x0 },
  -- CFG_CRC_STAT
  { base := 0x10c, count := 1, stride := 0x4, rs := 0x0, rw := 0x0, rv := 0xfc00, wo := 0x0, crc := 0x0, key := false, posted := false, sel := 0, init := 0x0 },
  -- SYS_PINFN
  { base := 0x400, count := 1, stride := 0x4, rs := 0x3ff, rw := 0x0, rv := 0xfffffc00, wo := 0x0, crc := 0x3ff, key := false, posted := false, sel := 0x404, init := 0x0 },
  -- SYS_PINFN_SEL
  { base := 0x404, count := 1, stride := 0x4, rs := 0x0, rw := 0xf, rv := 0xfffffff0, wo := 0x0, crc := 0xf, key := false, posted := false, sel := 0, init := 0x0 },
  -- SYS_PINCONF
  { base := 0x408, count := 1, stride := 0x4, rs := 0x0, rw := 0x0, rv := 0xffe0, wo := 0x0, crc := 0x0, key := false, posted := false, sel := 0, init := 0x0 },
  -- SYS_GPIO_DIR
  { base := 0x410, count := 1, stride := 0x4, rs := 0x0, rw := 0xffff, rv := 0xffff0000, wo := 0x0, crc := 0xffff, key := false, posted := false, sel := 0, init := 0x0 },
  -- SYS_GPIO_OUT
  { base := 0x414, count := 1, stride := 0x4, rs := 0x0, rw := 0xffff, rv := 0xffff0000, wo := 0x0, crc := 0x0, key := false, posted := false, sel := 0, init := 0x0 },
  -- SYS_GPIO_IN
  { base := 0x418, count := 1, stride := 0x4, rs := 0x0, rw := 0x0, rv := 0xffff0000, wo := 0x0, crc := 0x0, key := false, posted := false, sel := 0, init := 0x0 },
  -- SYS_STRAP
  { base := 0x41c, count := 1, stride := 0x4, rs := 0x0, rw := 0x0, rv := 0xfffffff0, wo := 0x0, crc := 0x0, key := false, posted := false, sel := 0, init := 0x0 },
  -- SYS_PEn_CTL
  { base := 0x800, count := 8, stride := 0x20, rs := 0x0, rw := 0x3, rv := 0xfffffffc, wo := 0x0, crc := 0x0, key := true, posted := false, sel := 0, init := 0x0 },
  -- SYS_PEn_CFG
  { base := 0x804, count := 8, stride := 0x20, rs := 0x3fffffff, rw := 0x0, rv := 0xc0000000, wo := 0x0, crc := 0x3fffffff, key := false, posted := false, sel := 0x900, init := 0x30084e20 },
  -- SYS_PEn_STAT
  { base := 0x808, count := 8, stride := 0x20, rs := 0x0, rw := 0x80, rv := 0xe000, wo := 0x0, crc := 0x0, key := false, posted := false, sel := 0, init := 0x600 },
  -- SYS_PEn_CNT
  { base := 0x80c, count := 8, stride := 0x20, rs := 0x0, rw := 0x0, rv := 0x0, wo := 0x0, crc := 0x0, key := false, posted := false, sel := 0, init := 0x0 },
  -- SYS_PEn_ERR
  { base := 0x810, count := 8, stride := 0x20, rs := 0x0, rw := 0x0, rv := 0x0, wo := 0x0, crc := 0x0, key := false, posted := false, sel := 0, init := 0x0 },
  -- SYS_PEn_ISIG
  { base := 0x814, count := 8, stride := 0x20, rs := 0x0, rw := 0xffffffff, rv := 0x0, wo := 0x0, crc := 0x0, key := false, posted := false, sel := 0, init := 0x0 },
  -- SYS_PEn_FAULT
  { base := 0x818, count := 8, stride := 0x20, rs := 0x0, rw := 0x0, rv := 0xffc0, wo := 0x0, crc := 0x0, key := false, posted := false, sel := 0, init := 0x0 },
  -- SYS_PEn_FPC
  { base := 0x81c, count := 8, stride := 0x20, rs := 0x0, rw := 0x0, rv := 0x0, wo := 0x0, crc := 0x0, key := false, posted := false, sel := 0, init := 0x0 },
  -- SYS_PE_SEL
  { base := 0x900, count := 1, stride := 0x4, rs := 0x0, rw := 0xf, rv := 0xfffffff0, wo := 0x0, crc := 0xf, key := false, posted := false, sel := 0, init := 0x5 },
  -- SYS_PEn_PORTS
  { base := 0x920, count := 8, stride := 0x4, rs := 0x3fffffff, rw := 0x0, rv := 0xc0000000, wo := 0x0, crc := 0x3fffffff, key := false, posted := false, sel := 0x900, init := 0x0 },
  -- EV_CNTn
  { base := 0x1000, count := 64, stride := 0x4, rs := 0x0, rw := 0x0, rv := 0xffff0000, wo := 0x0, crc := 0x0, key := false, posted := false, sel := 0, init := 0x0 },
  -- EV_SEENn
  { base := 0x1100, count := 64, stride := 0x4, rs := 0x0, rw := 0xffff, rv := 0xffff0000, wo := 0x0, crc := 0x0, key := false, posted := false, sel := 0, init := 0x0 },
  -- EV_STATUS_LO
  { base := 0x1200, count := 1, stride := 0x4, rs := 0x0, rw := 0x0, rv := 0x0, wo := 0x0, crc := 0x0, key := false, posted := false, sel := 0, init := 0x0 },
  -- EV_STATUS_HI
  { base := 0x1204, count := 1, stride := 0x4, rs := 0x0, rw := 0x0, rv := 0x0, wo := 0x0, crc := 0x0, key := false, posted := false, sel := 0, init := 0x0 },
  -- EV_OVF_LO
  { base := 0x1208, count := 1, stride := 0x4, rs := 0x0, rw := 0x0, rv := 0x0, wo := 0x0, crc := 0x0, key := false, posted := false, sel := 0, init := 0x0 },
  -- EV_OVF_HI
  { base := 0x120c, count := 1, stride := 0x4, rs := 0x0, rw := 0x0, rv := 0x0, wo := 0x0, crc := 0x0, key := false, posted := false, sel := 0, init := 0x0 },
  -- EV_RTm_LO
  { base := 0x1300, count := 14, stride := 0x8, rs := 0x0, rw := 0xffffffff, rv := 0x0, wo := 0x0, crc := 0xffffffff, key := false, posted := false, sel := 0, init := 0x0 },
  -- EV_RTm_HI
  { base := 0x1304, count := 14, stride := 0x8, rs := 0x0, rw := 0xffffffff, rv := 0x0, wo := 0x0, crc := 0xffffffff, key := false, posted := false, sel := 0, init := 0x0 }]

/-- Register families of block AO. -/
def regsAo : List RegRow := [
  -- AO_DOM_CMD
  { base := 0x10000, count := 1, stride := 0x4, rs := 0x0, rw := 0x7f, rv := 0xffffff80, wo := 0x0, crc := 0x0, key := false, posted := true, sel := 0, init := 0x0 },
  -- AO_DOM_RES
  { base := 0x10004, count := 1, stride := 0x4, rs := 0x0, rw := 0x0, rv := 0xfffffe00, wo := 0x0, crc := 0x0, key := false, posted := false, sel := 0, init := 0x0 },
  -- AO_CLK
  { base := 0x10010, count := 1, stride := 0x4, rs := 0x0, rw := 0xffff0003, rv := 0xfff8, wo := 0x0, crc := 0x0, key := false, posted := true, sel := 0, init := 0x0 },
  -- AO_AVS
  { base := 0x10014, count := 1, stride := 0x4, rs := 0x0, rw := 0x0, rv := 0xfffffc00, wo := 0x0, crc := 0x0, key := false, posted := false, sel := 0, init := 0x0 },
  -- AO_PMB_CTL
  { base := 0x10020, count := 1, stride := 0x4, rs := 0x0, rw := 0x3ff, rv := 0xfffffc00, wo := 0x0, crc := 0x0, key := false, posted := true, sel := 0, init := 0x0 },
  -- AO_PMB_STAT
  { base := 0x10024, count := 1, stride := 0x4, rs := 0x0, rw := 0x0, rv := 0xc000, wo := 0x0, crc := 0x0, key := false, posted := false, sel := 0, init := 0x0 },
  -- AO_WAKE_LAST
  { base := 0x10030, count := 1, stride := 0x4, rs := 0x0, rw := 0x0, rv := 0xfffffc00, wo := 0x0, crc := 0x0, key := false, posted := false, sel := 0, init := 0x0 },
  -- AO_LLk_CFG
  { base := 0x10040, count := 4, stride := 0x4, rs := 0x0, rw := 0x1fff, rv := 0xffffe000, wo := 0x0, crc := 0x1fff, key := false, posted := true, sel := 0, init := 0x0 },
  -- AO_CAL_SUB
  { base := 0x10050, count := 1, stride := 0x4, rs := 0x0, rw := 0x7fff, rv := 0xffff8000, wo := 0x0, crc := 0x0, key := false, posted := true, sel := 0, init := 0x0 },
  -- AO_CAL_SEC
  { base := 0x10054, count := 1, stride := 0x4, rs := 0x0, rw := 0xffffffff, rv := 0x0, wo := 0x0, crc := 0x0, key := false, posted := true, sel := 0, init := 0x0 },
  -- AO_CAL_STAT
  { base := 0x10058, count := 1, stride := 0x4, rs := 0x0, rw := 0x3, rv := 0xc000fff0, wo := 0x0, crc := 0x0, key := false, posted := true, sel := 0, init := 0x2 },
  -- AO_CAL_ALARM
  { base := 0x1005c, count := 1, stride := 0x4, rs := 0x0, rw := 0xffffffff, rv := 0x0, wo := 0x0, crc := 0x0, key := false, posted := true, sel := 0, init := 0x0 },
  -- AO_TB_COPY_LO
  { base := 0x10060, count := 1, stride := 0x4, rs := 0x0, rw := 0x0, rv := 0x0, wo := 0x0, crc := 0x0, key := false, posted := false, sel := 0, init := 0x0 },
  -- AO_TB_COPY_HI
  { base := 0x10064, count := 1, stride := 0x4, rs := 0x0, rw := 0x0, rv := 0x0, wo := 0x0, crc := 0x0, key := false, posted := false, sel := 0, init := 0x0 },
  -- AO_SLEEP_LO
  { base := 0x10068, count := 1, stride := 0x4, rs := 0x0, rw := 0x0, rv := 0x0, wo := 0x0, crc := 0x0, key := false, posted := false, sel := 0, init := 0x0 },
  -- AO_SLEEP_HI
  { base := 0x1006c, count := 1, stride := 0x4, rs := 0x0, rw := 0x0, rv := 0x0, wo := 0x0, crc := 0x0, key := false, posted := false, sel := 0, init := 0x0 },
  -- AO_CAL_CFG
  { base := 0x10070, count := 1, stride := 0x4, rs := 0x0, rw := 0x3fff, rv := 0xffffc000, wo := 0x0, crc := 0x3fff, key := false, posted := true, sel := 0, init := 0x18 },
  -- AO_DOMn_STAT
  { base := 0x10100, count := 31, stride := 0x10, rs := 0x0, rw := 0x0, rv := 0xffe0, wo := 0x0, crc := 0x0, key := false, posted := false, sel := 0, init := 0x0 },
  -- AO_DOMn_WAKE
  { base := 0x10104, count := 31, stride := 0x10, rs := 0x0, rw := 0x3ff, rv := 0xfffffc00, wo := 0x0, crc := 0x3ff, key := false, posted := true, sel := 0, init := 0x0 },
  -- AO_DOMn_SIG
  { base := 0x10108, count := 31, stride := 0x10, rs := 0x0, rw := 0x0, rv := 0x0, wo := 0x0, crc := 0x0, key := false, posted := false, sel := 0, init := 0x0 }]

/-- Register families of block ARB. -/
def regsArb : List RegRow := [
  -- ARB_SEL
  { base := 0x20000, count := 1, stride := 0x4, rs := 0x0, rw := 0xf, rv := 0xfffffff0, wo := 0x0, crc := 0xf, key := false, posted := false, sel := 0, init := 0x4 },
  -- ARB_CFG
  { base := 0x20004, count := 1, stride := 0x4, rs := 0xffff07ff, rw := 0x0, rv := 0xf800, wo := 0x0, crc := 0xffff07ff, key := false, posted := false, sel := 0x20000, init := 0x10000408 },
  -- ARB_RQn_CFG
  { base := 0x20100, count := 48, stride := 0x4, rs := 0x0, rw := 0x77, rv := 0xffffff88, wo := 0x0, crc := 0x0, key := false, posted := false, sel := 0, init := 0x0 },
  -- ARB_Bk_STAT
  { base := 0x20200, count := 16, stride := 0x4, rs := 0x0, rw := 0xffff, rv := 0x0, wo := 0x0, crc := 0x0, key := false, posted := false, sel := 0, init := 0x0 },
  -- ARB_Ek_STAT
  { base := 0x20300, count := 33, stride := 0x4, rs := 0x0, rw := 0xffff, rv := 0x0, wo := 0x0, crc := 0x0, key := false, posted := false, sel := 0, init := 0x0 },
  -- ARB_PEn_FC
  { base := 0x20400, count := 8, stride := 0x4, rs := 0x0, rw := 0x0, rv := 0xff800000, wo := 0x0, crc := 0x0, key := false, posted := false, sel := 0, init := 0x3f0000 }]

/-- Register families of block QM. -/
def regsQm : List RegRow := [
  -- QM_Qn_CTL
  { base := 0x30000, count := 64, stride := 0x40, rs := 0x3fff, rw := 0x0, rv := 0xffff8000, wo := 0x0, crc := 0x3fff, key := false, posted := false, sel := 0x31000, init := 0x0 },
  -- QM_Qn_PING
  { base := 0x30004, count := 64, stride := 0x40, rs := 0x1fff3fff, rw := 0x0, rv := 0xe000c000, wo := 0x0, crc := 0x1fff3fff, key := false, posted := false, sel := 0x31000, init := 0x0 },
  -- QM_Qn_PONG
  { base := 0x30008, count := 64, stride := 0x40, rs := 0x1fff3fff, rw := 0x0, rv := 0xe000c000, wo := 0x0, crc := 0x1fff3fff, key := false, posted := false, sel := 0x31000, init := 0x0 },
  -- QM_Qn_LIM
  { base := 0x3000c, count := 64, stride := 0x40, rs := 0xffffff, rw := 0x0, rv := 0xff000000, wo := 0x0, crc := 0xffffff, key := false, posted := false, sel := 0x31000, init := 0x0 },
  -- QM_Qn_WMCFG
  { base := 0x30010, count := 64, stride := 0x40, rs := 0x1fff1fff, rw := 0x0, rv := 0xe000e000, wo := 0x0, crc := 0x1fff1fff, key := false, posted := false, sel := 0x31000, init := 0x0 },
  -- QM_Qn_CMD
  { base := 0x30018, count := 64, stride := 0x40, rs := 0x0, rw := 0x1, rv := 0xffffff00, wo := 0xe, crc := 0x0, key := false, posted := false, sel := 0, init := 0x0 },
  -- QM_Qn_STAT
  { base := 0x3001c, count := 64, stride := 0x40, rs := 0x0, rw := 0x0, rv := 0xfffffe00, wo := 0x0, crc := 0x0, key := false, posted := false, sel := 0, init := 0x0 },
  -- QM_Qn_LEVEL
  { base := 0x30020, count := 64, stride := 0x40, rs := 0x0, rw := 0x0, rv := 0xffc00000, wo := 0x0, crc := 0x0, key := false, posted := false, sel := 0, init := 0x0 },
  -- QM_Qn_WM
  { base := 0x30024, count := 64, stride := 0x40, rs := 0x0, rw := 0xff, rv := 0xffffff00, wo := 0x0, crc := 0x0, key := false, posted := false, sel := 0, init := 0x0 },
  -- QM_Qn_DROP
  { base := 0x30028, count := 64, stride := 0x40, rs := 0x0, rw := 0x0, rv := 0x0, wo := 0x0, crc := 0x0, key := false, posted := false, sel := 0, init := 0x0 },
  -- QM_Qn_ERR
  { base := 0x3002c, count := 64, stride := 0x40, rs := 0x0, rw := 0x0, rv := 0x0, wo := 0x0, crc := 0x0, key := false, posted := false, sel := 0, init := 0x0 },
  -- QM_SEL
  { base := 0x31000, count := 1, stride := 0x4, rs := 0x0, rw := 0xf, rv := 0xfffffff0, wo := 0x0, crc := 0xf, key := false, posted := false, sel := 0, init := 0x3 },
  -- QM_CARVE_STAT
  { base := 0x31004, count := 1, stride := 0x4, rs := 0x0, rw := 0x0, rv := 0xfffff800, wo := 0x0, crc := 0x0, key := false, posted := false, sel := 0, init := 0x0 },
  -- QM_SCRUB
  { base := 0x31008, count := 1, stride := 0x4, rs := 0xff, rw := 0x0, rv := 0xffffff00, wo := 0x0, crc := 0xff, key := false, posted := false, sel := 0x31000, init := 0x5 },
  -- QM_EPBn
  { base := 0x31100, count := 16, stride := 0x4, rs := 0xffff3fff, rw := 0x0, rv := 0xc000, wo := 0x0, crc := 0xffff3fff, key := false, posted := false, sel := 0x31000, init := 0x0 },
  -- QM_PBn_PAR
  { base := 0x31200, count := 16, stride := 0x4, rs := 0x0, rw := 0x0, rv := 0xfffe0000, wo := 0x0, crc := 0x0, key := false, posted := false, sel := 0, init := 0x0 },
  -- QM_PAR_ADDR
  { base := 0x31240, count := 1, stride := 0x4, rs := 0x0, rw := 0x0, rv := 0xffc00000, wo := 0x0, crc := 0x0, key := false, posted := false, sel := 0, init := 0x0 }]

/-- Register families of block XBAR. -/
def regsXbar : List RegRow := [
  -- XBAR_STAT
  { base := 0x40000, count := 1, stride := 0x4, rs := 0x0, rw := 0x0, rv := 0xfffffff8, wo := 0x0, crc := 0x0, key := false, posted := false, sel := 0, init := 0x0 },
  -- XBAR_SEL
  { base := 0x40004, count := 1, stride := 0x4, rs := 0x0, rw := 0xf, rv := 0xfffffff0, wo := 0x0, crc := 0xf, key := false, posted := false, sel := 0, init := 0x2 },
  -- XBAR_CFG
  { base := 0x40008, count := 1, stride := 0x4, rs := 0x3fff, rw := 0x0, rv := 0xffffc000, wo := 0x0, crc := 0x3fff, key := false, posted := false, sel := 0x40004, init := 0xc10 },
  -- XBAR_LS_STAT
  { base := 0x40010, count := 1, stride := 0x4, rs := 0x0, rw := 0x0, rv := 0xfc00, wo := 0x0, crc := 0x0, key := false, posted := false, sel := 0, init := 0x3f },
  -- XBAR_LS_TIME
  { base := 0x40014, count := 1, stride := 0x4, rs := 0x0, rw := 0x0, rv := 0x0, wo := 0x0, crc := 0x0, key := false, posted := false, sel := 0, init := 0x0 },
  -- XBAR_LS_INJ
  { base := 0x40018, count := 1, stride := 0x4, rs := 0x0, rw := 0x7f, rv := 0xffffff80, wo := 0x0, crc := 0x0, key := true, posted := false, sel := 0, init := 0x0 },
  -- XBAR_Xn_CNTA
  { base := 0x40100, count := 33, stride := 0x10, rs := 0x0, rw := 0x0, rv := 0x0, wo := 0x0, crc := 0x0, key := false, posted := false, sel := 0, init := 0x0 },
  -- XBAR_Xn_CNTB
  { base := 0x40104, count := 33, stride := 0x10, rs := 0x0, rw := 0x0, rv := 0x0, wo := 0x0, crc := 0x0, key := false, posted := false, sel := 0, init := 0x0 },
  -- XBAR_RMAPn
  { base := 0x40400, count := 40, stride := 0x4, rs := 0x0, rw := 0x0, rv := 0xfffc00c0, wo := 0x0, crc := 0x0, key := false, posted := false, sel := 0, init := 0x3003f }]

/-- Register families of block USBP. -/
def regsUsbp : List RegRow := [
  -- USBP_Pn_STATE
  { base := 0x50000, count := 27, stride := 0x400, rs := 0x0, rw := 0x0, rv := 0xfe000080, wo := 0x0, crc := 0x0, key := false, posted := false, sel := 0, init := 0xf000 },
  -- USBP_Pn_XST
  { base := 0x50020, count := 24, stride := 0x400, rs := 0x0, rw := 0x0, rv := 0xff800000, wo := 0x0, crc := 0x0, key := false, posted := false, sel := 0, init := 0x0 },
  -- USBP_Pn_CUTACK
  { base := 0x50024, count := 24, stride := 0x400, rs := 0x0, rw := 0x0, rv := 0xfffffffe, wo := 0x1, crc := 0x0, key := false, posted := false, sel := 0, init := 0x0 },
  -- USBP_UPS_CC
  { base := 0x56840, count := 1, stride := 0x4, rs := 0x0, rw := 0x0, rv := 0xfffffff0, wo := 0x0, crc := 0x0, key := false, posted := false, sel := 0, init := 0x0 },
  -- USBP_Tn_TOPO
  { base := 0x57000, count := 40, stride := 0x4, rs := 0xf7, rw := 0x0, rv := 0xffffff08, wo := 0x0, crc := 0xf7, key := false, posted := false, sel := 0x570A0, init := 0x41 },
  -- USBP_TOPO_SEL
  { base := 0x570a0, count := 1, stride := 0x4, rs := 0x0, rw := 0xf, rv := 0xfffffff0, wo := 0x0, crc := 0xf, key := false, posted := false, sel := 0, init := 0x1 },
  -- USBP_TOPO_STAT
  { base := 0x570a4, count := 1, stride := 0x4, rs := 0x0, rw := 0x0, rv := 0xffff0000, wo := 0x0, crc := 0x0, key := false, posted := false, sel := 0, init := 0x0 },
  -- USBP_LHn_STAT
  { base := 0x57100, count := 6, stride := 0x10, rs := 0x0, rw := 0x0, rv := 0xfff00000, wo := 0x0, crc := 0x0, key := false, posted := false, sel := 0, init := 0x38000 },
  -- USBP_FO_CFG
  { base := 0x57200, count := 1, stride := 0x4, rs := 0x3ffffff, rw := 0x0, rv := 0xfc000000, wo := 0x0, crc := 0x3ffffff, key := false, posted := false, sel := 0x570A0, init := 0x1ee064 },
  -- USBP_FO_CMD
  { base := 0x57204, count := 1, stride := 0x4, rs := 0x0, rw := 0x0, rv := 0xfffffff8, wo := 0x7, crc := 0x0, key := false, posted := false, sel := 0, init := 0x0 },
  -- USBP_FO_STAT
  { base := 0x57208, count := 1, stride := 0x4, rs := 0x0, rw := 0x0, rv := 0xf000, wo := 0x0, crc := 0x0, key := false, posted := false, sel := 0, init := 0x0 },
  -- USBP_CUT_CFG
  { base := 0x57210, count := 1, stride := 0x4, rs := 0x3ffff, rw := 0x0, rv := 0xfffc0000, wo := 0x0, crc := 0x3ffff, key := false, posted := false, sel := 0x570A0, init := 0x100a3 }]

/-- Register families of block SPW. -/
def regsSpw : List RegRow := [
  -- SPW_Sn_CTL
  { base := 0x80000, count := 24, stride := 0x100, rs := 0x3fffff, rw := 0x0, rv := 0xffc00000, wo := 0x0, crc := 0x3fffff, key := false, posted := false, sel := 0x83800, init := 0x0 },
  -- SPW_Sn_LIMIT
  { base := 0x80004, count := 24, stride := 0x100, rs := 0x0, rw := 0x3f, rv := 0xffffc0c0, wo := 0x0, crc := 0x3f3f, key := false, posted := false, sel := 0, init := 0x2800 },
  -- SPW_Sn_RAMP
  { base := 0x80008, count := 24, stride := 0x100, rs := 0x1ffffff, rw := 0x0, rv := 0xfe000000, wo := 0x0, crc := 0x1ffffff, key := false, posted := false, sel := 0x83800, init := 0x0 },
  -- SPW_Sn_TRIP
  { base := 0x8000c, count := 24, stride := 0x100, rs := 0xffffff, rw := 0x0, rv := 0xff000000, wo := 0x0, crc := 0xffffff, key := false, posted := false, sel := 0x83800, init := 0x0 },
  -- SPW_Sn_MODEL
  { base := 0x80010, count := 24, stride := 0x100, rs := 0xffffffff, rw := 0x0, rv := 0x0, wo := 0x0, crc := 0xffffffff, key := false, posted := false, sel := 0x83800, init := 0x0 },
  -- SPW_Sn_STAT
  { base := 0x80020, count := 24, stride := 0x100, rs := 0x0, rw := 0x0, rv := 0xfc000000, wo := 0x0, crc := 0x0, key := false, posted := false, sel := 0, init := 0x0 },
  -- SPW_Sn_MEAS
  { base := 0x80024, count := 24, stride := 0x100, rs := 0x0, rw := 0x0, rv := 0xfc000000, wo := 0x0, crc := 0x0, key := false, posted := false, sel := 0, init := 0x0 },
  -- SPW_Sn_THERM
  { base := 0x80028, count := 24, stride := 0x100, rs := 0x0, rw := 0x7ff0000, rv := 0xf800f800, wo := 0x0, crc := 0x0, key := false, posted := false, sel := 0, init := 0x0 },
  -- SPW_Sn_RETRY
  { base := 0x8002c, count := 24, stride := 0x100, rs := 0x0, rw := 0x0, rv := 0x0, wo := 0x0, crc := 0x0, key := false, posted := false, sel := 0, init := 0x0 },
  -- SPW_Sn_CMD
  { base := 0x80030, count := 24, stride := 0x100, rs := 0x0, rw := 0x0, rv := 0xfffffff0, wo := 0xf, crc := 0x0, key := false, posted := false, sel := 0, init := 0x0 },
  -- SPW_Gg_CTL
  { base := 0x83000, count := 4, stride := 0x40, rs := 0x1, rw := 0x0, rv := 0xfffffffe, wo := 0x0, crc := 0x1, key := false, posted := false, sel := 0x83800, init := 0x0 },
  -- SPW_Gg_CMD
  { base := 0x83004, count := 4, stride := 0x40, rs := 0x0, rw := 0x0, rv := 0xfffffffc, wo := 0x3, crc := 0x0, key := false, posted := false, sel := 0, init := 0x0 },
  -- SPW_Gg_STAT
  { base := 0x83008, count := 4, stride := 0x40, rs := 0x0, rw := 0x0, rv := 0xfff800c0, wo := 0x0, crc := 0x0, key := false, posted := false, sel := 0, init := 0x0 },
  -- SPW_Gg_MEAS
  { base := 0x8300c, count := 4, stride := 0x40, rs := 0x0, rw := 0x0, rv := 0xe000e000, wo := 0x0, crc := 0x0, key := false, posted := false, sel := 0, init := 0x0 },
  -- SPW_SEL
  { base := 0x83800, count := 1, stride := 0x4, rs := 0x0, rw := 0xf, rv := 0xfffffff0, wo := 0x0, crc := 0xf, key := false, posted := false, sel := 0, init := 0x7 },
  -- SPW_BUDGET
  { base := 0x83804, count := 1, stride := 0x4, rs := 0x0, rw := 0x0, rv := 0xfc00fc00, wo := 0x0, crc := 0x3ff, key := false, posted := false, sel := 0, init := 0x190 },
  -- SPW_VIN_CFG
  { base := 0x83808, count := 1, stride := 0x4, rs := 0xff7f01ff, rw := 0x0, rv := 0x80fe00, wo := 0x0, crc := 0xff7f01ff, key := false, posted := false, sel := 0x83800, init := 0x0 },
  -- SPW_VIN_STAT
  { base := 0x8380c, count := 1, stride := 0x4, rs := 0x0, rw := 0x0, rv := 0xe0e000, wo := 0x0, crc := 0x0, key := false, posted := false, sel := 0, init := 0x0 },
  -- SPW_CFG_STAT
  { base := 0x83810, count := 1, stride := 0x4, rs := 0x0, rw := 0x0, rv := 0xffffff00, wo := 0x0, crc := 0x0, key := false, posted := false, sel := 0, init := 0x0 }]

/-- Register families of block FAB. -/
def regsFab : List RegRow := [
  -- FAB_SEL
  { base := 0x90000, count := 1, stride := 0x4, rs := 0x0, rw := 0xf, rv := 0xfffffff0, wo := 0x0, crc := 0xf, key := false, posted := false, sel := 0, init := 0x8 },
  -- FAB_NODE
  { base := 0x90004, count := 1, stride := 0x4, rs := 0x0, rw := 0x0, rv := 0x8000, wo := 0x0, crc := 0x0, key := false, posted := false, sel := 0, init := 0x0 },
  -- FAB_UID_LO
  { base := 0x90008, count := 1, stride := 0x4, rs := 0x0, rw := 0x0, rv := 0x0, wo := 0x0, crc := 0x0, key := false, posted := false, sel := 0, init := 0x0 },
  -- FAB_UID_HI
  { base := 0x9000c, count := 1, stride := 0x4, rs := 0x0, rw := 0x0, rv := 0x0, wo := 0x0, crc := 0x0, key := false, posted := false, sel := 0, init := 0x0 },
  -- FAB_CFG
  { base := 0x90010, count := 1, stride := 0x4, rs := 0x1fffffff, rw := 0x0, rv := 0xe0000000, wo := 0x0, crc := 0x1fffffff, key := false, posted := false, sel := 0x90000, init := 0x0 },
  -- FAB_TC_CFG
  { base := 0x90014, count := 1, stride := 0x4, rs := 0xff7fff, rw := 0x0, rv := 0xff008000, wo := 0x0, crc := 0xff7fff, key := false, posted := false, sel := 0x90000, init := 0x0 },
  -- FAB_RT_CTL
  { base := 0x90020, count := 1, stride := 0x4, rs := 0x0, rw := 0x0, rv := 0xfffffffc, wo := 0x1, crc := 0x0, key := false, posted := false, sel := 0, init := 0x0 },
  -- FAB_LINKMASK
  { base := 0x90024, count := 1, stride := 0x4, rs := 0x0, rw := 0x0, rv := 0xfffffff0, wo := 0x0, crc := 0x0, key := false, posted := false, sel := 0, init := 0xf },
  -- FAB_TIME_STAT
  { base := 0x90030, count := 1, stride := 0x4, rs := 0x0, rw := 0x0, rv := 0xf000e000, wo := 0x0, crc := 0x0, key := false, posted := false, sel := 0, init := 0x38 },
  -- FAB_TIME_OFS
  { base := 0x90034, count := 1, stride := 0x4, rs := 0x0, rw := 0x0, rv := 0x0, wo := 0x0, crc := 0x0, key := false, posted := false, sel := 0, init := 0x0 },
  -- FAB_Fn_CTL
  { base := 0x90100, count := 4, stride := 0x40, rs := 0xffff0001, rw := 0x0, rv := 0xfffe, wo := 0x0, crc := 0xffff0001, key := false, posted := false, sel := 0x90000, init := 0x0 },
  -- FAB_Fn_STAT
  { base := 0x90104, count := 4, stride := 0x40, rs := 0x0, rw := 0x0, rv := 0xc000e000, wo := 0x0, crc := 0x0, key := false, posted := false, sel := 0, init := 0x0 },
  -- FAB_Fn_NBR_LO
  { base := 0x90108, count := 4, stride := 0x40, rs := 0x0, rw := 0x0, rv := 0x0, wo := 0x0, crc := 0x0, key := false, posted := false, sel := 0, init := 0x0 },
  -- FAB_Fn_NBR_HI
  { base := 0x9010c, count := 4, stride := 0x40, rs := 0x0, rw := 0x0, rv := 0x0, wo := 0x0, crc := 0x0, key := false, posted := false, sel := 0, init := 0x0 },
  -- FAB_Fn_DELAY
  { base := 0x90110, count := 4, stride := 0x40, rs := 0x0, rw := 0x0, rv := 0x0, wo := 0x0, crc := 0x0, key := false, posted := false, sel := 0, init := 0x0 },
  -- FAB_Fn_ASYM
  { base := 0x90114, count := 4, stride := 0x40, rs := 0xffff, rw := 0x0, rv := 0xffff0000, wo := 0x0, crc := 0xffff, key := false, posted := false, sel := 0x90000, init := 0x0 },
  -- FAB_Fn_CNTA
  { base := 0x90118, count := 4, stride := 0x40, rs := 0x0, rw := 0x0, rv := 0x0, wo := 0x0, crc := 0x0, key := false, posted := false, sel := 0, init := 0x0 },
  -- FAB_Fn_CNTB
  { base := 0x9011c, count := 4, stride := 0x40, rs := 0x0, rw := 0x0, rv := 0x0, wo := 0x0, crc := 0x0, key := false, posted := false, sel := 0, init := 0x0 },
  -- FAB_RTm
  { base := 0x94000, count := 4096, stride := 0x4, rs := 0x0, rw := 0x0, rv := 0xc080, wo := 0x0, crc := 0x0, key := false, posted := false, sel := 0, init := 0xffff003f },
  -- FAB_RSm
  { base := 0x98000, count := 4096, stride := 0x4, rs := 0x0, rw := 0xffff3f7f, rv := 0xc080, wo := 0x0, crc := 0x0, key := false, posted := false, sel := 0, init := 0xffff003f }]

/-- Register families of block XPT. -/
def regsXpt : List RegRow := [
  -- XPT_SEL
  { base := 0xa0000, count := 1, stride := 0x4, rs := 0x0, rw := 0xf, rv := 0xfffffff0, wo := 0x0, crc := 0xf, key := false, posted := false, sel := 0, init := 0x9 },
  -- XPT_CFG
  { base := 0xa0004, count := 1, stride := 0x4, rs := 0xffffffff, rw := 0x0, rv := 0x0, wo := 0x0, crc := 0xffffffff, key := false, posted := false, sel := 0xA0000, init := 0x58840c8 },
  -- XPT_STAT
  { base := 0xa0008, count := 1, stride := 0x4, rs := 0x0, rw := 0x0, rv := 0xf800, wo := 0x0, crc := 0x0, key := false, posted := false, sel := 0, init := 0x400 },
  -- XPT_Cn_BIND
  { base := 0xa0100, count := 16, stride := 0x20, rs := 0x0, rw := 0x3ffff7, rv := 0xffc00008, wo := 0x0, crc := 0x0, key := false, posted := false, sel := 0, init := 0x0 },
  -- XPT_Cn_EP
  { base := 0xa0104, count := 16, stride := 0x20, rs := 0x0, rw := 0x7fff0f3f, rv := 0x8000f0c0, wo := 0x0, crc := 0x0, key := false, posted := false, sel := 0, init := 0x0 },
  -- XPT_Cn_STAT
  { base := 0xa0108, count := 16, stride := 0x20, rs := 0x0, rw := 0x0, rv := 0xc, wo := 0x0, crc := 0x0, key := false, posted := false, sel := 0, init := 0x0 },
  -- XPT_Cn_CNT
  { base := 0xa010c, count := 16, stride := 0x20, rs := 0x0, rw := 0x0, rv := 0x0, wo := 0x0, crc := 0x0, key := false, posted := false, sel := 0, init := 0x0 },
  -- XPT_In_BIND
  { base := 0xa0400, count := 32, stride := 0x10, rs := 0x0, rw := 0x3ffff3, rv := 0xffc0000c, wo := 0x0, crc := 0x0, key := false, posted := false, sel := 0, init := 0x0 },
  -- XPT_In_EP
  { base := 0xa0404, count := 32, stride := 0x10, rs := 0x0, rw := 0x7fff0f3f, rv := 0x8000f0c0, wo := 0x0, crc := 0x0, key := false, posted := false, sel := 0, init := 0x0 },
  -- XPT_In_STAT
  { base := 0xa0408, count := 32, stride := 0x10, rs := 0x0, rw := 0x0, rv := 0xff00e0, wo := 0x0, crc := 0x0, key := false, posted := false, sel := 0, init := 0x0 }]

/-- Register families of block CAN. -/
def regsCan : List RegRow := [
  -- CAN_SEL
  { base := 0xb0000, count := 1, stride := 0x4, rs := 0x0, rw := 0xf, rv := 0xfffffff0, wo := 0x0, crc := 0xf, key := false, posted := false, sel := 0, init := 0xa },
  -- CAN_CFG
  { base := 0xb0004, count := 1, stride := 0x4, rs := 0xffff, rw := 0x0, rv := 0xffff0000, wo := 0x0, crc := 0xffff, key := false, posted := false, sel := 0xB0000, init := 0x8000 },
  -- CAN_STAT
  { base := 0xb0008, count := 1, stride := 0x4, rs := 0x0, rw := 0x0, rv := 0xfe0000f0, wo := 0x0, crc := 0x0, key := false, posted := false, sel := 0, init := 0x0 },
  -- CAN_CNT
  { base := 0xb000c, count := 1, stride := 0x4, rs := 0x0, rw := 0x0, rv := 0x0, wo := 0x0, crc := 0x0, key := false, posted := false, sel := 0, init := 0x0 }]

/-- Register families of block TIME. -/
def regsTime : List RegRow := [
  -- TIME_TB_LO
  { base := 0xc0000, count := 1, stride := 0x4, rs := 0x0, rw := 0x0, rv := 0x0, wo := 0x0, crc := 0x0, key := false, posted := false, sel := 0, init := 0x0 },
  -- TIME_TB_HI
  { base := 0xc0004, count := 1, stride := 0x4, rs := 0x0, rw := 0x0, rv := 0x0, wo := 0x0, crc := 0x0, key := false, posted := false, sel := 0, init := 0x0 },
  -- TIME_TICK
  { base := 0xc0008, count := 1, stride := 0x4, rs := 0x0, rw := 0x0, rv := 0x0, wo := 0x0, crc := 0x0, key := false, posted := false, sel := 0, init := 0x0 },
  -- TIME_STAT
  { base := 0xc000c, count := 1, stride := 0x4, rs := 0x0, rw := 0x0, rv := 0xff0000fe, wo := 0x0, crc := 0x0, key := false, posted := false, sel := 0, init := 0x0 },
  -- TIME_INC
  { base := 0xc0010, count := 1, stride := 0x4, rs := 0x0, rw := 0x0, rv := 0x0, wo := 0x0, crc := 0x0, key := false, posted := false, sel := 0, init := 0x0 },
  -- TIME_CALTB_LO
  { base := 0xc0018, count := 1, stride := 0x4, rs := 0x0, rw := 0x0, rv := 0x0, wo := 0x0, crc := 0x0, key := false, posted := false, sel := 0, init := 0x0 },
  -- TIME_CALTB_HI
  { base := 0xc001c, count := 1, stride := 0x4, rs := 0x0, rw := 0x0, rv := 0x0, wo := 0x0, crc := 0x0, key := false, posted := false, sel := 0, init := 0x0 },
  -- TIME_TMn_CFG
  { base := 0xc0200, count := 16, stride := 0x10, rs := 0xf, rw := 0x0, rv := 0xffffffe0, wo := 0x0, crc := 0xf, key := false, posted := false, sel := 0xC0300, init := 0x8 },
  -- TIME_TMn_STAT
  { base := 0xc0204, count := 16, stride := 0x10, rs := 0x0, rw := 0x0, rv := 0xf8000000, wo := 0x0, crc := 0x0, key := false, posted := false, sel := 0, init := 0x0 },
  -- TIME_TM_SEL
  { base := 0xc0300, count := 1, stride := 0x4, rs := 0x0, rw := 0xf, rv := 0xfffffff0, wo := 0x0, crc := 0xf, key := false, posted := false, sel := 0, init := 0x6 }]

/-- Register families of block SNAP. -/
def regsSnap : List RegRow := [
  -- SNAP_CTL
  { base := 0xd0000, count := 1, stride := 0x4, rs := 0x0, rw := 0x27fe, rv := 0xffffc000, wo := 0x1801, crc := 0x23fe, key := false, posted := false, sel := 0, init := 0xa },
  -- SNAP_STAT
  { base := 0xd0004, count := 1, stride := 0x4, rs := 0x0, rw := 0x0, rv := 0xfff800f8, wo := 0x0, crc := 0x0, key := false, posted := false, sel := 0, init := 0x0 },
  -- SNAP_Tn_TGT_LO
  { base := 0xd0010, count := 4, stride := 0x10, rs := 0x0, rw := 0xffffffff, rv := 0x0, wo := 0x0, crc := 0x0, key := false, posted := false, sel := 0, init := 0x0 },
  -- SNAP_Tn_TGT_HI
  { base := 0xd0014, count := 4, stride := 0x10, rs := 0x0, rw := 0xffffffff, rv := 0x0, wo := 0x0, crc := 0x0, key := false, posted := false, sel := 0, init := 0x0 },
  -- SNAP_Tn_ID
  { base := 0xd0018, count := 4, stride := 0x10, rs := 0x0, rw := 0xffffffff, rv := 0x0, wo := 0x0, crc := 0x0, key := false, posted := false, sel := 0, init := 0x0 },
  -- SNAP_Tn_CTL
  { base := 0xd001c, count := 4, stride := 0x10, rs := 0x0, rw := 0x1, rv := 0xfffffffe, wo := 0x0, crc := 0x0, key := false, posted := false, sel := 0, init := 0x0 },
  -- SNAP_BUF
  { base := 0xd1000, count := 1024, stride := 0x4, rs := 0x0, rw := 0x0, rv := 0x0, wo := 0x0, crc := 0x0, key := false, posted := false, sel := 0, init := 0x0 }]

/-- Register families of block DBG. -/
def regsDbg : List RegRow := [
  -- DBG_STAT
  { base := 0xe0000, count := 1, stride := 0x4, rs := 0x0, rw := 0x0, rv := 0xff00fff0, wo := 0x0, crc := 0x0, key := false, posted := false, sel := 0, init := 0x0 },
  -- DBG_PEn_CTL
  { base := 0xe0100, count := 8, stride := 0x40, rs := 0x0, rw := 0x9, rv := 0xfffffff0, wo := 0x6, crc := 0x0, key := false, posted := false, sel := 0, init := 0x0 },
  -- DBG_PEn_PC
  { base := 0xe0104, count := 8, stride := 0x40, rs := 0x0, rw := 0xffffffff, rv := 0x0, wo := 0x0, crc := 0x0, key := false, posted := false, sel := 0, init := 0x0 },
  -- DBG_PEn_REG
  { base := 0xe0108, count := 8, stride := 0x40, rs := 0x0, rw := 0xf, rv := 0xfffffff0, wo := 0x0, crc := 0x0, key := false, posted := false, sel := 0, init := 0x0 },
  -- DBG_PEn_RDATA
  { base := 0xe010c, count := 8, stride := 0x40, rs := 0x0, rw := 0xffffffff, rv := 0x0, wo := 0x0, crc := 0x0, key := false, posted := false, sel := 0, init := 0x0 },
  -- DBG_PE0_IBPk
  { base := 0xe0110, count := 4, stride := 0x4, rs := 0x0, rw := 0xfffffffd, rv := 0x2, wo := 0x0, crc := 0x0, key := false, posted := false, sel := 0, init := 0x0 },
  -- DBG_PE0_DWPk
  { base := 0xe0120, count := 2, stride := 0x8, rs := 0x0, rw := 0xffffffff, rv := 0x0, wo := 0x0, crc := 0x0, key := false, posted := false, sel := 0, init := 0x0 },
  -- DBG_PE0_DWPk_CTL
  { base := 0xe0124, count := 2, stride := 0x8, rs := 0x0, rw := 0xff07, rv := 0xffff00f8, wo := 0x0, crc := 0x0, key := false, posted := false, sel := 0, init := 0x0 },
  -- DBG_PE1_IBPk
  { base := 0xe0150, count := 4, stride := 0x4, rs := 0x0, rw := 0xfffffffd, rv := 0x2, wo := 0x0, crc := 0x0, key := false, posted := false, sel := 0, init := 0x0 },
  -- DBG_PE1_DWPk
  { base := 0xe0160, count := 2, stride := 0x8, rs := 0x0, rw := 0xffffffff, rv := 0x0, wo := 0x0, crc := 0x0, key := false, posted := false, sel := 0, init := 0x0 },
  -- DBG_PE1_DWPk_CTL
  { base := 0xe0164, count := 2, stride := 0x8, rs := 0x0, rw := 0xff07, rv := 0xffff00f8, wo := 0x0, crc := 0x0, key := false, posted := false, sel := 0, init := 0x0 },
  -- DBG_PE2_IBPk
  { base := 0xe0190, count := 4, stride := 0x4, rs := 0x0, rw := 0xfffffffd, rv := 0x2, wo := 0x0, crc := 0x0, key := false, posted := false, sel := 0, init := 0x0 },
  -- DBG_PE2_DWPk
  { base := 0xe01a0, count := 2, stride := 0x8, rs := 0x0, rw := 0xffffffff, rv := 0x0, wo := 0x0, crc := 0x0, key := false, posted := false, sel := 0, init := 0x0 },
  -- DBG_PE2_DWPk_CTL
  { base := 0xe01a4, count := 2, stride := 0x8, rs := 0x0, rw := 0xff07, rv := 0xffff00f8, wo := 0x0, crc := 0x0, key := false, posted := false, sel := 0, init := 0x0 },
  -- DBG_PE3_IBPk
  { base := 0xe01d0, count := 4, stride := 0x4, rs := 0x0, rw := 0xfffffffd, rv := 0x2, wo := 0x0, crc := 0x0, key := false, posted := false, sel := 0, init := 0x0 },
  -- DBG_PE3_DWPk
  { base := 0xe01e0, count := 2, stride := 0x8, rs := 0x0, rw := 0xffffffff, rv := 0x0, wo := 0x0, crc := 0x0, key := false, posted := false, sel := 0, init := 0x0 },
  -- DBG_PE3_DWPk_CTL
  { base := 0xe01e4, count := 2, stride := 0x8, rs := 0x0, rw := 0xff07, rv := 0xffff00f8, wo := 0x0, crc := 0x0, key := false, posted := false, sel := 0, init := 0x0 },
  -- DBG_PE4_IBPk
  { base := 0xe0210, count := 4, stride := 0x4, rs := 0x0, rw := 0xfffffffd, rv := 0x2, wo := 0x0, crc := 0x0, key := false, posted := false, sel := 0, init := 0x0 },
  -- DBG_PE4_DWPk
  { base := 0xe0220, count := 2, stride := 0x8, rs := 0x0, rw := 0xffffffff, rv := 0x0, wo := 0x0, crc := 0x0, key := false, posted := false, sel := 0, init := 0x0 },
  -- DBG_PE4_DWPk_CTL
  { base := 0xe0224, count := 2, stride := 0x8, rs := 0x0, rw := 0xff07, rv := 0xffff00f8, wo := 0x0, crc := 0x0, key := false, posted := false, sel := 0, init := 0x0 },
  -- DBG_PE5_IBPk
  { base := 0xe0250, count := 4, stride := 0x4, rs := 0x0, rw := 0xfffffffd, rv := 0x2, wo := 0x0, crc := 0x0, key := false, posted := false, sel := 0, init := 0x0 },
  -- DBG_PE5_DWPk
  { base := 0xe0260, count := 2, stride := 0x8, rs := 0x0, rw := 0xffffffff, rv := 0x0, wo := 0x0, crc := 0x0, key := false, posted := false, sel := 0, init := 0x0 },
  -- DBG_PE5_DWPk_CTL
  { base := 0xe0264, count := 2, stride := 0x8, rs := 0x0, rw := 0xff07, rv := 0xffff00f8, wo := 0x0, crc := 0x0, key := false, posted := false, sel := 0, init := 0x0 },
  -- DBG_PE6_IBPk
  { base := 0xe0290, count := 4, stride := 0x4, rs := 0x0, rw := 0xfffffffd, rv := 0x2, wo := 0x0, crc := 0x0, key := false, posted := false, sel := 0, init := 0x0 },
  -- DBG_PE6_DWPk
  { base := 0xe02a0, count := 2, stride := 0x8, rs := 0x0, rw := 0xffffffff, rv := 0x0, wo := 0x0, crc := 0x0, key := false, posted := false, sel := 0, init := 0x0 },
  -- DBG_PE6_DWPk_CTL
  { base := 0xe02a4, count := 2, stride := 0x8, rs := 0x0, rw := 0xff07, rv := 0xffff00f8, wo := 0x0, crc := 0x0, key := false, posted := false, sel := 0, init := 0x0 },
  -- DBG_PE7_IBPk
  { base := 0xe02d0, count := 4, stride := 0x4, rs := 0x0, rw := 0xfffffffd, rv := 0x2, wo := 0x0, crc := 0x0, key := false, posted := false, sel := 0, init := 0x0 },
  -- DBG_PE7_DWPk
  { base := 0xe02e0, count := 2, stride := 0x8, rs := 0x0, rw := 0xffffffff, rv := 0x0, wo := 0x0, crc := 0x0, key := false, posted := false, sel := 0, init := 0x0 },
  -- DBG_PE7_DWPk_CTL
  { base := 0xe02e4, count := 2, stride := 0x8, rs := 0x0, rw := 0xff07, rv := 0xffff00f8, wo := 0x0, crc := 0x0, key := false, posted := false, sel := 0, init := 0x0 }]

/-- The block of R304 an address lies in, as its families; none outside every block of registers. -/
def blockRegs (a : Nat) : List RegRow :=
  if a < 0x10000 then regsSys
  else if a < 0x20000 then regsAo
  else if a < 0x30000 then regsArb
  else if a < 0x40000 then regsQm
  else if a < 0x50000 then regsXbar
  else if a < 0x80000 then regsUsbp
  else if a < 0x90000 then regsSpw
  else if a < 0xa0000 then regsFab
  else if a < 0xb0000 then regsXpt
  else if a < 0xc0000 then regsCan
  else if a < 0xd0000 then regsTime
  else if a < 0xe0000 then regsSnap
  else if a < 0xf0000 then regsDbg
  else []

/-- An address is one of a family's registers. -/
def RegRow.holds (r : RegRow) (a : Nat) : Bool :=
  r.base ≤ a && (a - r.base) % r.stride = 0 && (a - r.base) / r.stride < r.count
/-- Index of a register in its family. -/
def RegRow.index (r : RegRow) (a : Nat) : Nat := (a - r.base) / r.stride
/-- The family a register address belongs to (R304). -/
def regRow (a : Nat) : Option RegRow := (blockRegs a).find? fun r => r.holds a

/-! ## Values without configuration that differ along a family -/

/-- QM_Qn registers without configuration (R140), by offset in the queue. -/
def qmInit (n off : Nat) : Nat :=
  let size := if n ≤ 23 then 64 else if n ≤ 26 then 256 else if n ≤ 30 then 128 else if n = 31 then 64
    else if n ≤ 47 then 256 else if n ≤ 55 then 16 else if n ≤ 59 then 64 else 0
  let base := if n ≤ 23 then 1024 * (n / 4) + 512 + 128 * (n % 4) else if n ≤ 26 then 6656 + 1024 * (n - 24)
    else if n = 27 then 9728 else if n = 28 then 9984 else if n = 29 then 10752 else if n = 30 then 11008
    else if n = 31 then 11776 else if n ≤ 47 then 1024 * (n - 32) else if n ≤ 55 then 11904 + 32 * (n - 48)
    else if n = 56 then 12800 else if n = 57 then 12928 else if n = 58 then 13056 else if n = 59 then 13184 else 0
  let cut := 27 ≤ n ∧ n ≤ 30
  if off = 0 then
    if 60 ≤ n then 0
    else 1 + (if cut then 2 else 0) + (if 56 ≤ n then 4 else 0) +
      (if 32 ≤ n ∧ n ≤ 47 then 0x10 + 32 * 64 else if n = 58 ∨ n = 59 then 0x20 else 0)
  else if off = 4 then base + size * 65536
  else if off = 8 then (if 60 ≤ n then 0 else base + size) + size * 65536
  else if off = 0xC then
    if 60 ≤ n then 0
    else (if cut then 2048 + 4 * 65536 else if n = 56 ∨ n = 57 then 64 else 1024)
  else if off = 0x10 then
    if n ≤ 23 ∨ n = 31 ∨ (56 ≤ n ∧ n ≤ 59) then 96 + 64 * 65536
    else if n ≤ 26 ∨ (32 ≤ n ∧ n ≤ 47) then 384 + 256 * 65536
    else if cut then 192 + 128 * 65536 else 0
  else 0
/-- QM_EPBn without configuration (R140): BASE, SIZE, OWNER. -/
def epbInit (n : Nat) : Nat :=
  let v (base size owner : Nat) : Nat := base + size * 65536 + owner * 2 ^ 29
  if n = 0 then v 13824 512 6 else if n = 1 then v 14848 512 6 else if n = 2 then v 15872 128 2
  else if n = 3 then v 16000 128 3 else if n = 4 then v 16128 128 4 else if n = 5 then v 16256 128 0
  else if n = 6 then v 12160 128 7 else 0
/-- ARB_RQn_CFG without configuration (R147): bank priority in [2:0], egress priority in [6:4]. -/
def arbInit (n : Nat) : Nat :=
  if n ≤ 23 then 0x44 else if n ≤ 26 then 0x55 else if n ≤ 30 then 0x66 else if n = 31 then 0x33 else if n = 32 then 0x44
  else if n ≤ 40 then 0x33 else if n = 41 then 0 else if n = 42 then 1 else if n = 43 then 0x40 else 0
/-- SYS_PEn_PORTS without configuration (R180). -/
def portsInit (n : Nat) : Nat :=
  if n = 1 then 0x20000000 else if n = 2 then 0x170000FF else if n = 3 then 0xFF00 else if n = 4 then 0x00FF0000
  else if n = 6 then 0x08000000 else 0
/-- Owner of TMn without configuration (R179). -/
def timerInit (n : Nat) : Nat :=
  if n ≤ 1 then 8 else if n ≤ 3 then 9 else if n ≤ 6 then 8 + (n - 2) else if n ≤ 8 then 13 else if n ≤ 11 then 14
  else if n ≤ 13 then 15 else 0
/-- SPW_Sn registers without configuration (R210), by offset in the slot. -/
def spwInit (off : Nat) : Nat :=
  if off = 0 then 1 + 2 * 2 + 1 * 8 + 3 * 32 + 3 * 256 + 50 * 4096
  else if off = 4 then 10 + 40 * 256
  else if off = 8 then 24 + 80 * 1024 + 20 * 131072
  else if off = 0xC then 10 + 150 * 256 + 110 * 65536
  else if off = 0x10 then 0x323C141E
  else 0
/-- EV_RTm without configuration (R387), 64 bits. -/
def routeInit (m : Nat) : Nat :=
  if m = 0 then 0x20a3d801261fec26 else if 2 ≤ m ∧ m ≤ 4 then 0xfbe7fcffffffffff else if m = 5 then 0x21a7c843f71fe426
  else if m = 6 then 0xa0800020800000 else if m = 7 then 0x3000000000070000 else if m = 11 then 0x40000000 else if m = 12 then 0x1000000000
  else if m = 13 then 0xc3014c0003700422 else 0
/-- AO_LLk_CFG without configuration (R343): PERIOD and DEST. -/
def patrolInit (k : Nat) : Nat :=
  if k = 0 then 20 + 1 * 1024 else if k = 1 then 10 else if k = 2 then 100 + 5 * 1024 else 10 + 1 * 1024

/-- The value without configuration of the register at an address, 0 where no register stores one. -/
def regInit (a : Nat) : Nat :=
  if 0x30000 ≤ a ∧ a < 0x31000 then qmInit ((a - 0x30000) / 0x40) ((a - 0x30000) % 0x40)
  else if 0x31100 ≤ a ∧ a < 0x31140 then epbInit ((a - 0x31100) / 4)
  else if 0x20100 ≤ a ∧ a < 0x201C0 then arbInit ((a - 0x20100) / 4)
  else if 0x80000 ≤ a ∧ a < 0x81800 then spwInit ((a - 0x80000) % 0x100)
  else if 0x920 ≤ a ∧ a < 0x940 then portsInit ((a - 0x920) / 4)
  else if 0x820 ≤ a ∧ a < 0x900 ∧ a % 0x20 = 0 then 1
  else if 0x804 ≤ a ∧ a < 0x900 ∧ a % 0x20 = 4 then 0x30084E20 + 0x01000000 * ((a - 0x804) / 0x20)
  else if 0xC0200 ≤ a ∧ a < 0xC0300 ∧ a % 0x10 = 0 then timerInit ((a - 0xC0200) / 0x10)
  else if 0x1300 ≤ a ∧ a < 0x1370 then routeInit ((a - 0x1300) / 8) / 2 ^ (32 * ((a - 0x1300) / 4 % 2)) % 2 ^ 32
  else if 0x57000 ≤ a ∧ a < 0x570A0 then
    let n := (a - 0x57000) / 4
    if n < 24 then 0x41 else if n < 28 then 3 else 0
  else if 0x10040 ≤ a ∧ a < 0x10050 then patrolInit ((a - 0x10040) / 4)
  else if a = 0x102E4 then 0x01CA
  else if a = 0x90010 then 50 + 3 * 512 + 128 * 65536
  else if a = 0x90014 then 2000 + 32 * 65536
  else if 0x90100 ≤ a ∧ a < 0x90200 ∧ a % 0x40 = 0 then 1 + 10 * 65536
  else if a = 0x83808 then 200 + 20 * 65536 + 20 * 2 ^ 24
  else if a = 0xB0004 then 127 + 3 * 128 + 2 * 1024 + 0x8000
  else match regRow a with
    | some r => r.init
    | none => 0
/-- As a register word. -/
def regDefault (a : Nat) : Word := BitVec.ofNat 32 (regInit a)

end Sys2Proof.Machine
end

