-- ==== Sys2Proof/Machine/OdTable.lean ====
section
/-!
DEFINITION. The entries of the object dictionary: type, access, level, persistence and when they take effect
(R273 to R301 and the entry tables of every chapter), their defaults, their ranges, and the register field that
backs each one.
-/

namespace Sys2Proof.Machine

open Sys2Proof

/-- Data types of R273. -/
inductive OdType where
  | bool
  /-- an integer of `n` bytes -/
  | num (n : Nat)
  /-- ISO 646 characters, at most `n` -/
  | text (n : Nat)
  /-- bytes, at most `n` -/
  | octets (n : Nat)
deriving DecidableEq, Repr

/-- Access column (R274). -/
inductive OdAccess where
  | ro | rw | wo | const
deriving DecidableEq, Repr

/-- Level column (R275). -/
inductive OdLevel where
  | basic | expert | comm
deriving DecidableEq, Repr

/-- Persistence column. -/
inductive OdKeep where
  | vol | nv | sealed
deriving DecidableEq, Repr

/-- Takes effect column (R276). -/
inductive OdTakes where
  | imm | tick | apply | reset
deriving DecidableEq, Repr

/-- A row of an entry table: indices `idx` to `idx + count - 1`, subindices `lo` to `hi`. -/
structure OdRow where
  idx : Nat
  count : Nat
  lo : Nat
  hi : Nat
  ty : OdType
  acc : OdAccess
  lvl : OdLevel
  keep : OdKeep
  takes : OdTakes
deriving DecidableEq, Repr

/-- Entry tables of indices 0x1000 to 0x1FFF. -/
def odRows1 : List OdRow := [
  { idx := 0x1000, count := 1, lo := 0, hi := 0, ty := .num 4, acc := .const, lvl := .basic, keep := .nv, takes := .imm },
  { idx := 0x1001, count := 1, lo := 0, hi := 0, ty := .num 1, acc := .ro, lvl := .basic, keep := .vol, takes := .imm },
  { idx := 0x1003, count := 1, lo := 0, hi := 0, ty := .num 4, acc := .rw, lvl := .basic, keep := .vol, takes := .imm },
  { idx := 0x1003, count := 1, lo := 1, hi := 8, ty := .num 4, acc := .ro, lvl := .basic, keep := .vol, takes := .imm },
  { idx := 0x1005, count := 1, lo := 0, hi := 0, ty := .num 4, acc := .rw, lvl := .basic, keep := .nv, takes := .imm },
  { idx := 0x1008, count := 1, lo := 0, hi := 0, ty := .text 16, acc := .const, lvl := .basic, keep := .nv, takes := .imm },
  { idx := 0x100a, count := 1, lo := 0, hi := 0, ty := .text 16, acc := .const, lvl := .basic, keep := .nv, takes := .imm },
  { idx := 0x1010, count := 1, lo := 1, hi := 1, ty := .num 4, acc := .rw, lvl := .basic, keep := .vol, takes := .imm },
  { idx := 0x1011, count := 1, lo := 1, hi := 1, ty := .num 4, acc := .rw, lvl := .basic, keep := .vol, takes := .imm },
  { idx := 0x1012, count := 1, lo := 0, hi := 0, ty := .num 4, acc := .rw, lvl := .basic, keep := .nv, takes := .imm },
  { idx := 0x1014, count := 1, lo := 0, hi := 0, ty := .num 4, acc := .ro, lvl := .basic, keep := .nv, takes := .imm },
  { idx := 0x1015, count := 1, lo := 0, hi := 0, ty := .num 2, acc := .rw, lvl := .basic, keep := .nv, takes := .imm },
  { idx := 0x1016, count := 1, lo := 1, hi := 4, ty := .num 4, acc := .rw, lvl := .basic, keep := .nv, takes := .imm },
  { idx := 0x1017, count := 1, lo := 0, hi := 0, ty := .num 2, acc := .rw, lvl := .basic, keep := .nv, takes := .imm },
  { idx := 0x1018, count := 1, lo := 1, hi := 4, ty := .num 4, acc := .const, lvl := .basic, keep := .nv, takes := .imm },
  { idx := 0x1200, count := 1, lo := 1, hi := 2, ty := .num 4, acc := .ro, lvl := .basic, keep := .nv, takes := .imm },
  { idx := 0x1400, count := 4, lo := 1, hi := 1, ty := .num 4, acc := .rw, lvl := .basic, keep := .nv, takes := .imm },
  { idx := 0x1400, count := 4, lo := 2, hi := 2, ty := .num 1, acc := .rw, lvl := .basic, keep := .nv, takes := .imm },
  { idx := 0x1400, count := 4, lo := 3, hi := 3, ty := .num 2, acc := .rw, lvl := .basic, keep := .nv, takes := .imm },
  { idx := 0x1400, count := 4, lo := 4, hi := 4, ty := .num 1, acc := .rw, lvl := .basic, keep := .nv, takes := .imm },
  { idx := 0x1400, count := 4, lo := 5, hi := 5, ty := .num 2, acc := .rw, lvl := .basic, keep := .nv, takes := .imm },
  { idx := 0x1600, count := 4, lo := 0, hi := 0, ty := .num 1, acc := .rw, lvl := .basic, keep := .nv, takes := .imm },
  { idx := 0x1600, count := 4, lo := 1, hi := 8, ty := .num 4, acc := .rw, lvl := .basic, keep := .nv, takes := .imm },
  { idx := 0x1800, count := 4, lo := 1, hi := 1, ty := .num 4, acc := .rw, lvl := .basic, keep := .nv, takes := .imm },
  { idx := 0x1800, count := 4, lo := 2, hi := 2, ty := .num 1, acc := .rw, lvl := .basic, keep := .nv, takes := .imm },
  { idx := 0x1800, count := 4, lo := 3, hi := 3, ty := .num 2, acc := .rw, lvl := .basic, keep := .nv, takes := .imm },
  { idx := 0x1800, count := 4, lo := 4, hi := 4, ty := .num 1, acc := .rw, lvl := .basic, keep := .nv, takes := .imm },
  { idx := 0x1800, count := 4, lo := 5, hi := 5, ty := .num 2, acc := .rw, lvl := .basic, keep := .nv, takes := .imm },
  { idx := 0x1a00, count := 4, lo := 0, hi := 0, ty := .num 1, acc := .rw, lvl := .basic, keep := .nv, takes := .imm },
  { idx := 0x1a00, count := 4, lo := 1, hi := 8, ty := .num 4, acc := .rw, lvl := .basic, keep := .nv, takes := .imm }]

/-- Entry tables of indices 0x2000 to 0x2FFF. -/
def odRows2 : List OdRow := [
  { idx := 0x2000, count := 1, lo := 1, hi := 1, ty := .num 2, acc := .const, lvl := .basic, keep := .vol, takes := .imm },
  { idx := 0x2000, count := 1, lo := 2, hi := 2, ty := .num 1, acc := .const, lvl := .basic, keep := .vol, takes := .imm },
  { idx := 0x2000, count := 1, lo := 3, hi := 3, ty := .num 8, acc := .const, lvl := .basic, keep := .vol, takes := .imm },
  { idx := 0x2000, count := 1, lo := 4, hi := 4, ty := .num 2, acc := .ro, lvl := .basic, keep := .vol, takes := .imm },
  { idx := 0x2000, count := 1, lo := 5, hi := 5, ty := .num 1, acc := .ro, lvl := .basic, keep := .vol, takes := .imm },
  { idx := 0x2000, count := 1, lo := 6, hi := 6, ty := .num 2, acc := .const, lvl := .basic, keep := .vol, takes := .imm },
  { idx := 0x2002, count := 1, lo := 1, hi := 1, ty := .num 1, acc := .rw, lvl := .expert, keep := .vol, takes := .tick },
  { idx := 0x2002, count := 1, lo := 2, hi := 2, ty := .num 4, acc := .ro, lvl := .basic, keep := .vol, takes := .imm },
  { idx := 0x2003, count := 1, lo := 1, hi := 1, ty := .num 1, acc := .ro, lvl := .basic, keep := .vol, takes := .imm },
  { idx := 0x2010, count := 1, lo := 1, hi := 1, ty := .num 2, acc := .rw, lvl := .comm, keep := .sealed, takes := .reset },
  { idx := 0x2010, count := 1, lo := 2, hi := 6, ty := .num 2, acc := .rw, lvl := .comm, keep := .sealed, takes := .reset },
  { idx := 0x2010, count := 1, lo := 7, hi := 7, ty := .num 2, acc := .ro, lvl := .basic, keep := .vol, takes := .imm },
  { idx := 0x2020, count := 1, lo := 1, hi := 1, ty := .num 1, acc := .rw, lvl := .basic, keep := .nv, takes := .tick },
  { idx := 0x2020, count := 1, lo := 2, hi := 2, ty := .num 1, acc := .rw, lvl := .basic, keep := .nv, takes := .tick },
  { idx := 0x2020, count := 1, lo := 3, hi := 3, ty := .num 1, acc := .rw, lvl := .basic, keep := .nv, takes := .tick },
  { idx := 0x2020, count := 1, lo := 4, hi := 4, ty := .num 1, acc := .rw, lvl := .basic, keep := .nv, takes := .tick },
  { idx := 0x2020, count := 1, lo := 5, hi := 5, ty := .num 1, acc := .rw, lvl := .basic, keep := .nv, takes := .tick },
  { idx := 0x2020, count := 1, lo := 6, hi := 6, ty := .num 1, acc := .ro, lvl := .basic, keep := .vol, takes := .imm },
  { idx := 0x2030, count := 1, lo := 1, hi := 1, ty := .num 1, acc := .rw, lvl := .comm, keep := .sealed, takes := .reset },
  { idx := 0x2030, count := 1, lo := 2, hi := 2, ty := .octets 32, acc := .rw, lvl := .comm, keep := .sealed, takes := .reset },
  { idx := 0x2031, count := 1, lo := 1, hi := 3, ty := .num 1, acc := .ro, lvl := .basic, keep := .vol, takes := .imm },
  { idx := 0x2031, count := 1, lo := 4, hi := 4, ty := .num 1, acc := .rw, lvl := .expert, keep := .vol, takes := .tick },
  { idx := 0x2031, count := 1, lo := 5, hi := 5, ty := .num 2, acc := .rw, lvl := .expert, keep := .nv, takes := .reset },
  { idx := 0x2031, count := 1, lo := 6, hi := 7, ty := .num 2, acc := .ro, lvl := .basic, keep := .vol, takes := .imm },
  { idx := 0x2040, count := 1, lo := 1, hi := 1, ty := .num 2, acc := .rw, lvl := .comm, keep := .sealed, takes := .reset },
  { idx := 0x2040, count := 1, lo := 2, hi := 2, ty := .num 2, acc := .ro, lvl := .basic, keep := .vol, takes := .imm },
  { idx := 0x2040, count := 1, lo := 3, hi := 3, ty := .num 2, acc := .rw, lvl := .basic, keep := .nv, takes := .tick },
  { idx := 0x2040, count := 1, lo := 4, hi := 4, ty := .num 1, acc := .rw, lvl := .expert, keep := .nv, takes := .apply },
  { idx := 0x2040, count := 1, lo := 5, hi := 5, ty := .num 4, acc := .ro, lvl := .basic, keep := .vol, takes := .imm },
  { idx := 0x2040, count := 1, lo := 6, hi := 6, ty := .num 1, acc := .rw, lvl := .expert, keep := .nv, takes := .apply },
  { idx := 0x2041, count := 1, lo := 1, hi := 4, ty := .num 1, acc := .rw, lvl := .expert, keep := .nv, takes := .apply },
  { idx := 0x2041, count := 1, lo := 5, hi := 8, ty := .num 1, acc := .rw, lvl := .expert, keep := .vol, takes := .imm },
  { idx := 0x2041, count := 1, lo := 9, hi := 12, ty := .num 4, acc := .ro, lvl := .basic, keep := .vol, takes := .imm },
  { idx := 0x2050, count := 1, lo := 1, hi := 4, ty := .num 1, acc := .rw, lvl := .comm, keep := .sealed, takes := .reset },
  { idx := 0x2050, count := 1, lo := 5, hi := 6, ty := .num 1, acc := .rw, lvl := .expert, keep := .nv, takes := .reset },
  { idx := 0x2060, count := 1, lo := 1, hi := 2, ty := .num 4, acc := .ro, lvl := .basic, keep := .vol, takes := .imm },
  { idx := 0x2060, count := 1, lo := 3, hi := 4, ty := .num 2, acc := .ro, lvl := .basic, keep := .vol, takes := .imm },
  { idx := 0x2060, count := 1, lo := 5, hi := 6, ty := .num 1, acc := .ro, lvl := .basic, keep := .vol, takes := .imm },
  { idx := 0x2061, count := 1, lo := 1, hi := 1, ty := .num 4, acc := .rw, lvl := .basic, keep := .vol, takes := .tick },
  { idx := 0x2f01, count := 1, lo := 1, hi := 1, ty := .num 1, acc := .rw, lvl := .basic, keep := .vol, takes := .imm },
  { idx := 0x2f01, count := 1, lo := 2, hi := 3, ty := .num 2, acc := .ro, lvl := .basic, keep := .vol, takes := .imm },
  { idx := 0x2f01, count := 1, lo := 4, hi := 4, ty := .num 2, acc := .ro, lvl := .basic, keep := .vol, takes := .imm },
  { idx := 0x2f02, count := 1, lo := 1, hi := 1, ty := .octets 32, acc := .ro, lvl := .basic, keep := .vol, takes := .imm },
  { idx := 0x2f02, count := 1, lo := 2, hi := 2, ty := .octets 64, acc := .wo, lvl := .expert, keep := .vol, takes := .imm },
  { idx := 0x2f02, count := 1, lo := 3, hi := 3, ty := .num 1, acc := .rw, lvl := .expert, keep := .vol, takes := .imm },
  { idx := 0x2f02, count := 1, lo := 4, hi := 4, ty := .num 1, acc := .ro, lvl := .basic, keep := .vol, takes := .imm },
  { idx := 0x2f03, count := 1, lo := 1, hi := 2, ty := .num 2, acc := .wo, lvl := .expert, keep := .vol, takes := .imm },
  { idx := 0x2f10, count := 1, lo := 1, hi := 1, ty := .bool, acc := .ro, lvl := .basic, keep := .sealed, takes := .imm },
  { idx := 0x2f10, count := 1, lo := 2, hi := 2, ty := .num 1, acc := .rw, lvl := .comm, keep := .vol, takes := .tick },
  { idx := 0x2f10, count := 1, lo := 3, hi := 3, ty := .num 2, acc := .ro, lvl := .basic, keep := .nv, takes := .imm },
  { idx := 0x2f10, count := 1, lo := 4, hi := 5, ty := .num 4, acc := .ro, lvl := .basic, keep := .sealed, takes := .imm },
  { idx := 0x2f12, count := 1, lo := 0, hi := 0, ty := .octets 32, acc := .rw, lvl := .comm, keep := .sealed, takes := .imm },
  { idx := 0x2f13, count := 1, lo := 0, hi := 0, ty := .octets 32, acc := .rw, lvl := .comm, keep := .sealed, takes := .reset }]

/-- Entry tables of indices 0x3000 to 0x3FFF. -/
def odRows3 : List OdRow := [
  { idx := 0x3000, count := 24, lo := 1, hi := 1, ty := .bool, acc := .rw, lvl := .basic, keep := .nv, takes := .tick },
  { idx := 0x3000, count := 24, lo := 2, hi := 2, ty := .num 2, acc := .rw, lvl := .basic, keep := .nv, takes := .tick },
  { idx := 0x3000, count := 24, lo := 3, hi := 3, ty := .num 1, acc := .rw, lvl := .basic, keep := .nv, takes := .tick },
  { idx := 0x3000, count := 24, lo := 4, hi := 5, ty := .num 4, acc := .ro, lvl := .basic, keep := .vol, takes := .imm },
  { idx := 0x3000, count := 24, lo := 6, hi := 6, ty := .num 2, acc := .ro, lvl := .basic, keep := .vol, takes := .imm },
  { idx := 0x3000, count := 24, lo := 7, hi := 7, ty := .bool, acc := .rw, lvl := .basic, keep := .vol, takes := .tick },
  { idx := 0x3000, count := 24, lo := 8, hi := 8, ty := .num 4, acc := .ro, lvl := .basic, keep := .vol, takes := .imm },
  { idx := 0x3100, count := 24, lo := 1, hi := 1, ty := .num 1, acc := .rw, lvl := .expert, keep := .nv, takes := .apply },
  { idx := 0x3100, count := 24, lo := 2, hi := 2, ty := .num 2, acc := .rw, lvl := .expert, keep := .nv, takes := .apply },
  { idx := 0x3100, count := 24, lo := 3, hi := 3, ty := .num 1, acc := .rw, lvl := .expert, keep := .nv, takes := .apply },
  { idx := 0x3100, count := 24, lo := 4, hi := 4, ty := .num 1, acc := .rw, lvl := .expert, keep := .nv, takes := .apply },
  { idx := 0x3100, count := 24, lo := 5, hi := 5, ty := .num 1, acc := .rw, lvl := .expert, keep := .nv, takes := .apply },
  { idx := 0x3100, count := 24, lo := 6, hi := 6, ty := .num 1, acc := .rw, lvl := .expert, keep := .nv, takes := .apply },
  { idx := 0x3100, count := 24, lo := 7, hi := 7, ty := .num 1, acc := .rw, lvl := .expert, keep := .nv, takes := .apply },
  { idx := 0x3100, count := 24, lo := 8, hi := 8, ty := .num 1, acc := .rw, lvl := .expert, keep := .nv, takes := .apply },
  { idx := 0x3100, count := 24, lo := 9, hi := 9, ty := .num 1, acc := .rw, lvl := .expert, keep := .nv, takes := .apply },
  { idx := 0x3100, count := 24, lo := 10, hi := 10, ty := .num 4, acc := .rw, lvl := .expert, keep := .nv, takes := .apply },
  { idx := 0x3100, count := 24, lo := 11, hi := 11, ty := .num 2, acc := .rw, lvl := .expert, keep := .nv, takes := .apply },
  { idx := 0x3100, count := 24, lo := 12, hi := 12, ty := .num 2, acc := .rw, lvl := .comm, keep := .sealed, takes := .reset },
  { idx := 0x3100, count := 24, lo := 13, hi := 13, ty := .bool, acc := .rw, lvl := .comm, keep := .vol, takes := .tick },
  { idx := 0x3200, count := 1, lo := 1, hi := 40, ty := .num 1, acc := .rw, lvl := .basic, keep := .nv, takes := .tick },
  { idx := 0x3201, count := 1, lo := 1, hi := 24, ty := .num 1, acc := .rw, lvl := .basic, keep := .nv, takes := .tick },
  { idx := 0x3202, count := 1, lo := 1, hi := 24, ty := .bool, acc := .rw, lvl := .basic, keep := .nv, takes := .tick },
  { idx := 0x3203, count := 1, lo := 1, hi := 24, ty := .bool, acc := .rw, lvl := .basic, keep := .nv, takes := .tick },
  { idx := 0x3210, count := 1, lo := 1, hi := 1, ty := .num 4, acc := .ro, lvl := .basic, keep := .vol, takes := .imm },
  { idx := 0x3210, count := 1, lo := 2, hi := 7, ty := .num 4, acc := .ro, lvl := .basic, keep := .vol, takes := .imm },
  { idx := 0x3220, count := 1, lo := 1, hi := 27, ty := .num 4, acc := .ro, lvl := .basic, keep := .vol, takes := .imm },
  { idx := 0x3230, count := 1, lo := 1, hi := 24, ty := .num 4, acc := .ro, lvl := .basic, keep := .vol, takes := .imm },
  { idx := 0x3231, count := 1, lo := 1, hi := 24, ty := .bool, acc := .rw, lvl := .basic, keep := .vol, takes := .tick },
  { idx := 0x3232, count := 1, lo := 1, hi := 1, ty := .num 1, acc := .rw, lvl := .expert, keep := .nv, takes := .apply },
  { idx := 0x3232, count := 1, lo := 2, hi := 2, ty := .num 1, acc := .rw, lvl := .expert, keep := .nv, takes := .apply },
  { idx := 0x3232, count := 1, lo := 3, hi := 3, ty := .num 1, acc := .rw, lvl := .expert, keep := .nv, takes := .apply },
  { idx := 0x3240, count := 1, lo := 1, hi := 1, ty := .num 2, acc := .rw, lvl := .basic, keep := .nv, takes := .tick },
  { idx := 0x3240, count := 1, lo := 2, hi := 2, ty := .bool, acc := .rw, lvl := .basic, keep := .nv, takes := .tick },
  { idx := 0x3240, count := 1, lo := 3, hi := 3, ty := .bool, acc := .rw, lvl := .basic, keep := .nv, takes := .tick },
  { idx := 0x3240, count := 1, lo := 4, hi := 4, ty := .num 2, acc := .rw, lvl := .basic, keep := .nv, takes := .tick },
  { idx := 0x3240, count := 1, lo := 5, hi := 5, ty := .bool, acc := .rw, lvl := .expert, keep := .nv, takes := .apply },
  { idx := 0x3240, count := 1, lo := 6, hi := 6, ty := .num 1, acc := .rw, lvl := .basic, keep := .vol, takes := .tick },
  { idx := 0x3240, count := 1, lo := 7, hi := 7, ty := .num 4, acc := .ro, lvl := .basic, keep := .vol, takes := .imm }]

/-- Entry tables of indices 0x4000 to 0x4FFF. -/
def odRows4 : List OdRow := [
  { idx := 0x4000, count := 1, lo := 1, hi := 2, ty := .num 2, acc := .ro, lvl := .basic, keep := .vol, takes := .imm },
  { idx := 0x4000, count := 1, lo := 3, hi := 3, ty := .num 8, acc := .ro, lvl := .basic, keep := .vol, takes := .imm },
  { idx := 0x4000, count := 1, lo := 4, hi := 7, ty := .num 2, acc := .ro, lvl := .basic, keep := .vol, takes := .imm },
  { idx := 0x4001, count := 1, lo := 1, hi := 1, ty := .num 2, acc := .rw, lvl := .comm, keep := .sealed, takes := .reset },
  { idx := 0x4001, count := 1, lo := 2, hi := 2, ty := .num 1, acc := .rw, lvl := .comm, keep := .sealed, takes := .reset },
  { idx := 0x4001, count := 1, lo := 3, hi := 3, ty := .num 1, acc := .rw, lvl := .comm, keep := .sealed, takes := .reset },
  { idx := 0x4010, count := 1, lo := 1, hi := 4, ty := .bool, acc := .rw, lvl := .basic, keep := .nv, takes := .tick },
  { idx := 0x4011, count := 2, lo := 1, hi := 4, ty := .num 4, acc := .ro, lvl := .basic, keep := .vol, takes := .imm },
  { idx := 0x4020, count := 1, lo := 1, hi := 1, ty := .num 2, acc := .rw, lvl := .basic, keep := .vol, takes := .imm },
  { idx := 0x4020, count := 1, lo := 2, hi := 2, ty := .num 4, acc := .ro, lvl := .basic, keep := .vol, takes := .imm },
  { idx := 0x4030, count := 1, lo := 1, hi := 1, ty := .num 8, acc := .rw, lvl := .basic, keep := .vol, takes := .imm },
  { idx := 0x4030, count := 1, lo := 2, hi := 2, ty := .num 4, acc := .rw, lvl := .basic, keep := .vol, takes := .imm },
  { idx := 0x4030, count := 1, lo := 3, hi := 3, ty := .num 1, acc := .rw, lvl := .basic, keep := .vol, takes := .tick },
  { idx := 0x4030, count := 1, lo := 4, hi := 4, ty := .num 1, acc := .ro, lvl := .basic, keep := .vol, takes := .imm },
  { idx := 0x4090, count := 16, lo := 1, hi := 1, ty := .num 2, acc := .rw, lvl := .basic, keep := .vol, takes := .imm },
  { idx := 0x4090, count := 16, lo := 2, hi := 2, ty := .num 4, acc := .rw, lvl := .basic, keep := .vol, takes := .imm },
  { idx := 0x4090, count := 16, lo := 3, hi := 3, ty := .octets 4096, acc := .rw, lvl := .basic, keep := .vol, takes := .imm },
  { idx := 0x4090, count := 16, lo := 4, hi := 4, ty := .num 1, acc := .rw, lvl := .basic, keep := .vol, takes := .imm },
  { idx := 0x4090, count := 16, lo := 5, hi := 6, ty := .num 1, acc := .ro, lvl := .basic, keep := .vol, takes := .imm },
  { idx := 0x4100, count := 1, lo := 1, hi := 4, ty := .num 2, acc := .rw, lvl := .expert, keep := .nv, takes := .tick },
  { idx := 0x4101, count := 1, lo := 1, hi := 4, ty := .num 2, acc := .rw, lvl := .expert, keep := .nv, takes := .apply },
  { idx := 0x4102, count := 1, lo := 1, hi := 8, ty := .num 2, acc := .rw, lvl := .expert, keep := .nv, takes := .apply },
  { idx := 0x4103, count := 1, lo := 1, hi := 2, ty := .num 2, acc := .rw, lvl := .expert, keep := .nv, takes := .tick },
  { idx := 0x4800, count := 2, lo := 1, hi := 24, ty := .num 4, acc := .ro, lvl := .basic, keep := .vol, takes := .imm },
  { idx := 0x4802, count := 1, lo := 1, hi := 24, ty := .num 2, acc := .rw, lvl := .basic, keep := .nv, takes := .tick },
  { idx := 0x4803, count := 1, lo := 1, hi := 24, ty := .num 8, acc := .rw, lvl := .expert, keep := .nv, takes := .tick },
  { idx := 0x4804, count := 1, lo := 1, hi := 24, ty := .num 4, acc := .rw, lvl := .basic, keep := .vol, takes := .imm },
  { idx := 0x4810, count := 1, lo := 1, hi := 16, ty := .num 4, acc := .rw, lvl := .basic, keep := .nv, takes := .tick },
  { idx := 0x4811, count := 1, lo := 1, hi := 16, ty := .num 4, acc := .ro, lvl := .basic, keep := .vol, takes := .imm },
  { idx := 0x4820, count := 1, lo := 1, hi := 3, ty := .num 2, acc := .rw, lvl := .expert, keep := .nv, takes := .tick },
  { idx := 0x4820, count := 1, lo := 4, hi := 8, ty := .num 2, acc := .rw, lvl := .expert, keep := .nv, takes := .apply },
  { idx := 0x4830, count := 1, lo := 1, hi := 16, ty := .num 4, acc := .ro, lvl := .basic, keep := .vol, takes := .imm },
  { idx := 0x4831, count := 1, lo := 1, hi := 32, ty := .num 4, acc := .ro, lvl := .basic, keep := .vol, takes := .imm }]

/-- Entry tables of indices 0x5000 to 0x5FFF. -/
def odRows5 : List OdRow := [
  { idx := 0x5000, count := 1, lo := 1, hi := 31, ty := .num 1, acc := .rw, lvl := .expert, keep := .vol, takes := .tick },
  { idx := 0x5001, count := 1, lo := 1, hi := 31, ty := .num 4, acc := .ro, lvl := .basic, keep := .vol, takes := .imm },
  { idx := 0x5002, count := 1, lo := 1, hi := 31, ty := .num 2, acc := .rw, lvl := .expert, keep := .nv, takes := .tick },
  { idx := 0x5010, count := 1, lo := 1, hi := 1, ty := .num 1, acc := .rw, lvl := .basic, keep := .vol, takes := .tick },
  { idx := 0x5010, count := 1, lo := 2, hi := 2, ty := .num 2, acc := .ro, lvl := .basic, keep := .vol, takes := .imm },
  { idx := 0x5011, count := 1, lo := 1, hi := 2, ty := .num 4, acc := .rw, lvl := .expert, keep := .nv, takes := .tick },
  { idx := 0x5020, count := 1, lo := 1, hi := 4, ty := .num 2, acc := .rw, lvl := .basic, keep := .nv, takes := .tick },
  { idx := 0x5030, count := 1, lo := 1, hi := 1, ty := .num 2, acc := .ro, lvl := .basic, keep := .vol, takes := .imm },
  { idx := 0x5030, count := 1, lo := 2, hi := 2, ty := .num 4, acc := .ro, lvl := .basic, keep := .vol, takes := .imm },
  { idx := 0x5030, count := 1, lo := 3, hi := 3, ty := .num 2, acc := .rw, lvl := .expert, keep := .vol, takes := .imm },
  { idx := 0x5400, count := 1, lo := 1, hi := 1, ty := .num 4, acc := .rw, lvl := .basic, keep := .vol, takes := .imm },
  { idx := 0x5400, count := 1, lo := 2, hi := 2, ty := .num 2, acc := .rw, lvl := .basic, keep := .vol, takes := .imm },
  { idx := 0x5400, count := 1, lo := 3, hi := 3, ty := .octets 16, acc := .ro, lvl := .basic, keep := .vol, takes := .imm },
  { idx := 0x5400, count := 1, lo := 4, hi := 4, ty := .num 1, acc := .ro, lvl := .basic, keep := .vol, takes := .imm },
  { idx := 0x5400, count := 1, lo := 5, hi := 5, ty := .num 4, acc := .rw, lvl := .expert, keep := .vol, takes := .imm },
  { idx := 0x5401, count := 1, lo := 1, hi := 3, ty := .num 2, acc := .rw, lvl := .expert, keep := .nv, takes := .tick },
  { idx := 0x5402, count := 1, lo := 1, hi := 1, ty := .num 8, acc := .ro, lvl := .basic, keep := .vol, takes := .imm },
  { idx := 0x5402, count := 1, lo := 2, hi := 2, ty := .num 4, acc := .ro, lvl := .basic, keep := .vol, takes := .imm },
  { idx := 0x5410, count := 1, lo := 1, hi := 4, ty := .num 4, acc := .ro, lvl := .basic, keep := .vol, takes := .imm },
  { idx := 0x5411, count := 1, lo := 1, hi := 1, ty := .num 4, acc := .rw, lvl := .basic, keep := .vol, takes := .imm },
  { idx := 0x5411, count := 1, lo := 2, hi := 2, ty := .octets 64, acc := .ro, lvl := .basic, keep := .vol, takes := .imm },
  { idx := 0x5411, count := 1, lo := 3, hi := 3, ty := .octets 4096, acc := .ro, lvl := .basic, keep := .vol, takes := .imm },
  { idx := 0x5412, count := 1, lo := 1, hi := 1, ty := .num 4, acc := .rw, lvl := .basic, keep := .vol, takes := .imm },
  { idx := 0x5412, count := 1, lo := 2, hi := 2, ty := .octets 64, acc := .ro, lvl := .basic, keep := .vol, takes := .imm },
  { idx := 0x5412, count := 1, lo := 3, hi := 3, ty := .octets 4096, acc := .ro, lvl := .basic, keep := .vol, takes := .imm },
  { idx := 0x5420, count := 1, lo := 1, hi := 12, ty := .num 4, acc := .ro, lvl := .basic, keep := .nv, takes := .imm },
  { idx := 0x5421, count := 3, lo := 1, hi := 24, ty := .num 4, acc := .ro, lvl := .basic, keep := .nv, takes := .imm },
  { idx := 0x5800, count := 1, lo := 1, hi := 64, ty := .num 2, acc := .ro, lvl := .basic, keep := .vol, takes := .imm },
  { idx := 0x5801, count := 1, lo := 1, hi := 64, ty := .num 2, acc := .rw, lvl := .basic, keep := .vol, takes := .imm },
  { idx := 0x5802, count := 1, lo := 1, hi := 4, ty := .num 4, acc := .ro, lvl := .basic, keep := .vol, takes := .imm },
  { idx := 0x5803, count := 1, lo := 1, hi := 28, ty := .num 4, acc := .rw, lvl := .expert, keep := .nv, takes := .tick },
  { idx := 0x5810, count := 1, lo := 1, hi := 2, ty := .num 4, acc := .ro, lvl := .basic, keep := .vol, takes := .imm },
  { idx := 0x5811, count := 1, lo := 1, hi := 33, ty := .num 4, acc := .ro, lvl := .basic, keep := .vol, takes := .imm },
  { idx := 0x5812, count := 1, lo := 1, hi := 33, ty := .num 4, acc := .ro, lvl := .basic, keep := .vol, takes := .imm },
  { idx := 0x5813, count := 1, lo := 1, hi := 1, ty := .num 2, acc := .rw, lvl := .expert, keep := .nv, takes := .apply },
  { idx := 0x5813, count := 1, lo := 2, hi := 2, ty := .num 1, acc := .rw, lvl := .expert, keep := .nv, takes := .apply },
  { idx := 0x5820, count := 1, lo := 1, hi := 64, ty := .num 4, acc := .ro, lvl := .basic, keep := .vol, takes := .imm },
  { idx := 0x5821, count := 1, lo := 1, hi := 64, ty := .num 4, acc := .ro, lvl := .basic, keep := .vol, takes := .imm },
  { idx := 0x5822, count := 1, lo := 1, hi := 64, ty := .num 4, acc := .ro, lvl := .basic, keep := .vol, takes := .imm },
  { idx := 0x5823, count := 1, lo := 1, hi := 18, ty := .num 4, acc := .ro, lvl := .basic, keep := .vol, takes := .imm },
  { idx := 0x5824, count := 1, lo := 1, hi := 64, ty := .num 4, acc := .rw, lvl := .basic, keep := .nv, takes := .tick },
  { idx := 0x5828, count := 4, lo := 1, hi := 64, ty := .num 4, acc := .rw, lvl := .expert, keep := .nv, takes := .apply },
  { idx := 0x582c, count := 1, lo := 1, hi := 16, ty := .num 4, acc := .rw, lvl := .expert, keep := .nv, takes := .apply },
  { idx := 0x5830, count := 1, lo := 1, hi := 49, ty := .num 4, acc := .ro, lvl := .basic, keep := .vol, takes := .imm },
  { idx := 0x5831, count := 1, lo := 1, hi := 1, ty := .num 1, acc := .rw, lvl := .expert, keep := .nv, takes := .apply },
  { idx := 0x5831, count := 1, lo := 2, hi := 2, ty := .num 1, acc := .rw, lvl := .expert, keep := .nv, takes := .apply },
  { idx := 0x5831, count := 1, lo := 3, hi := 3, ty := .num 2, acc := .rw, lvl := .expert, keep := .nv, takes := .apply },
  { idx := 0x5832, count := 1, lo := 1, hi := 48, ty := .num 1, acc := .rw, lvl := .expert, keep := .nv, takes := .imm },
  { idx := 0x5840, count := 3, lo := 1, hi := 8, ty := .num 4, acc := .ro, lvl := .basic, keep := .vol, takes := .imm },
  { idx := 0x5843, count := 1, lo := 1, hi := 8, ty := .num 4, acc := .rw, lvl := .expert, keep := .nv, takes := .apply },
  { idx := 0x5844, count := 1, lo := 1, hi := 8, ty := .num 4, acc := .rw, lvl := .expert, keep := .nv, takes := .apply },
  { idx := 0x5845, count := 1, lo := 1, hi := 8, ty := .bool, acc := .rw, lvl := .expert, keep := .vol, takes := .imm },
  { idx := 0x5846, count := 1, lo := 1, hi := 16, ty := .num 1, acc := .rw, lvl := .expert, keep := .nv, takes := .apply },
  { idx := 0x5850, count := 1, lo := 1, hi := 1, ty := .num 1, acc := .rw, lvl := .basic, keep := .vol, takes := .imm },
  { idx := 0x5850, count := 1, lo := 2, hi := 3, ty := .num 1, acc := .rw, lvl := .expert, keep := .nv, takes := .tick },
  { idx := 0x5851, count := 1, lo := 1, hi := 4, ty := .octets 2816, acc := .ro, lvl := .basic, keep := .vol, takes := .imm },
  { idx := 0x5852, count := 1, lo := 1, hi := 4, ty := .octets 16, acc := .ro, lvl := .basic, keep := .vol, takes := .imm },
  { idx := 0x5f00, count := 1, lo := 1, hi := 1, ty := .num 4, acc := .rw, lvl := .basic, keep := .vol, takes := .imm },
  { idx := 0x5f00, count := 1, lo := 2, hi := 2, ty := .num 4, acc := .rw, lvl := .expert, keep := .vol, takes := .imm }]

/-- The rows of an index. -/
def odIndexRows (idx : Nat) : List OdRow :=
  let r := if idx < 0x2000 then odRows1 else if idx < 0x3000 then odRows2 else if idx < 0x4000 then odRows3
    else if idx < 0x5000 then odRows4 else odRows5
  r.filter fun x => x.idx ≤ idx && idx < x.idx + x.count
/-- The row of an entry, none where the dictionary has no such subindex (R279). -/
def odRow (idx sub : Nat) : Option OdRow := (odIndexRows idx).find? fun x => x.lo ≤ sub && sub ≤ x.hi
/-- Highest subindex of an index, which its subindex 0 holds. -/
def odHighest (idx : Nat) : Nat := (odIndexRows idx).foldl (fun n x => max n x.hi) 0
/-- Key of an entry. -/
def odKey (idx sub : Nat) : Nat := idx * 256 + sub
/-- Length in bytes of an integer type, 1 for BOOLEAN, 0 for the string types. -/
def OdType.size : OdType → Nat
  | .bool => 1
  | .num n => n
  | .text _ => 0
  | .octets _ => 0
/-- A length is the type's (R273). -/
def OdType.fits (t : OdType) (n : Nat) : Bool :=
  match t with
  | .bool => n == 1
  | .num k => n == k
  | .text k => n ≤ k
  | .octets k => n ≤ k

/-! ## Registers behind entries -/

/-- What backs an entry. -/
inductive OdBack where
  /-- field [hi:lo] of a register, times `scale` -/
  | field (addr hi lo scale : Nat)
  /-- pin feature `k`: EN and ALT of SYS_PINFN (R38) -/
  | pin (k : Nat)
  /-- owner of a timer, 8 for none (R186) -/
  | timer (addr : Nat)
deriving DecidableEq, Repr

/-- The register field an RW entry is written to when it takes effect. -/
def odBack (idx sub : Nat) : Option OdBack :=
  let i := sub - 1
  if idx = 0x2020 ∧ sub ≤ 5 then some (.pin i)
  else if idx = 0x2040 then
    (match sub with
     | 1 => some (.field 0x83804 9 0 50) | 3 => some (.field 0x83808 8 0 1) | 4 => some (.field 0x83808 22 16 1)
     | 6 => some (.field 0x83808 31 24 1) | _ => none)
  else if idx = 0x2041 ∧ sub ≤ 4 then some (.field (0x83000 + 0x40 * i) 0 0 1)
  else if idx = 0x2050 then
    (match sub with
     | 1 => some (.field 0xB0004 6 0 1) | 2 => some (.field 0xB0004 9 7 1) | 3 => some (.field 0xB0004 12 10 1)
     | 4 => some (.field 0xB0004 13 13 1) | 6 => some (.field 0xB0004 14 14 1) | _ => none)
  else if 0x3000 ≤ idx ∧ idx ≤ 0x3017 then
    let b := 0x80000 + 0x100 * (idx - 0x3000)
    (match sub with
     | 1 => some (.field b 0 0 1) | 2 => some (.field (b + 4) 5 0 50) | 3 => some (.field b 4 3 1) | _ => none)
  else if 0x3100 ≤ idx ∧ idx ≤ 0x3117 then
    let b := 0x80000 + 0x100 * (idx - 0x3100)
    (match sub with
     | 1 => some (.field b 2 1 1) | 2 => some (.field (b + 8) 9 0 1) | 3 => some (.field (b + 8) 16 10 1)
     | 4 => some (.field (b + 8) 24 17 1) | 5 => some (.field (b + 0xC) 7 0 1) | 6 => some (.field b 7 5 1)
     | 7 => some (.field b 11 8 1) | 8 => some (.field (b + 0xC) 15 8 1) | 9 => some (.field (b + 0xC) 23 16 1)
     | 10 => some (.field (b + 0x10) 31 0 1) | 11 => some (.field b 21 12 1) | 12 => some (.field (b + 4) 13 8 50)
     | _ => none)
  else if idx = 0x3200 then some (.field (0x57000 + 4 * i) 2 0 1)
  else if idx = 0x3201 then some (.field (0x57000 + 4 * i) 5 4 1)
  else if idx = 0x3202 then some (.field (0x57000 + 4 * i) 6 6 1)
  else if idx = 0x3203 then some (.field (0x57000 + 4 * i) 7 7 1)
  else if idx = 0x3232 then
    (match sub with
     | 1 => some (.field 0x57210 3 0 1) | 2 => some (.field 0x57210 9 4 1) | 3 => some (.field 0x57210 17 10 1) | _ => none)
  else if idx = 0x3240 then
    (match sub with
     | 1 => some (.field 0x57200 12 0 1) | 2 => some (.field 0x57200 13 13 1) | 3 => some (.field 0x57200 14 14 1)
     | 4 => some (.field 0x57200 25 16 1) | 5 => some (.field 0x57200 15 15 1) | _ => none)
  else if idx = 0x4010 then some (.field (0x90100 + 0x40 * i) 0 0 1)
  else if idx = 0x4100 then some (.field (0x90100 + 0x40 * i) 31 16 1)
  else if idx = 0x4101 then some (.field (0x90114 + 0x40 * i) 15 0 1)
  else if idx = 0x4102 then
    (match sub with
     | 1 => some (.field 0x90010 8 0 1) | 2 => some (.field 0x90010 15 9 1) | 3 => some (.field 0x90010 28 16 1)
     | 4 => some (.field 0x90014 14 0 1) | 5 => some (.field 0x90014 23 16 256) | _ => none)
  else if idx = 0x4820 then
    (match sub with
     | 4 => some (.field 0xA0004 9 0 1) | 5 => some (.field 0xA0004 14 10 1) | 6 => some (.field 0xA0004 19 15 1)
     | 7 => some (.field 0xA0004 23 20 1) | 8 => some (.field 0xA0004 31 24 1) | _ => none)
  else if idx = 0x5002 then some (.field (0x10104 + 0x10 * i) 9 0 1)
  else if idx = 0x5020 then some (.field (0x10040 + 4 * i) 9 0 1)
  else if idx = 0x5401 ∧ sub = 2 then some (.field 0x10070 13 0 1)
  else if idx = 0x5803 then some (.field (0x1300 + 4 * i) 31 0 1)
  else if idx = 0x5813 then (match sub with | 1 => some (.field 0x40008 9 0 1) | 2 => some (.field 0x40008 13 10 1) | _ => none)
  else if idx = 0x5824 then some (.field (0x30010 + 0x40 * i) 31 0 1)
  else if idx = 0x5828 then some (.field (0x30004 + 0x40 * i) 31 0 1)
  else if idx = 0x5829 then some (.field (0x30008 + 0x40 * i) 31 0 1)
  else if idx = 0x582A then some (.field (0x30000 + 0x40 * i) 31 0 1)
  else if idx = 0x582B then some (.field (0x3000C + 0x40 * i) 31 0 1)
  else if idx = 0x582C then some (.field (0x31100 + 4 * i) 31 0 1)
  else if idx = 0x5831 then
    (match sub with
     | 1 => some (.field 0x20004 6 0 1) | 2 => some (.field 0x20004 10 7 1) | 3 => some (.field 0x20004 31 16 1) | _ => none)
  else if idx = 0x5832 then some (.field (0x20100 + 4 * i) 7 0 1)
  else if idx = 0x5843 then some (.field (0x804 + 0x20 * i) 31 0 1)
  else if idx = 0x5844 then some (.field (0x920 + 4 * i) 31 0 1)
  else if idx = 0x5846 then some (.timer (0xC0200 + 0x10 * i))
  else if idx = 0x5850 then (match sub with | 2 => some (.field 0xD0000 9 4 1) | 3 => some (.field 0xD0000 3 1 1) | _ => none)
  else none

/-- The value an entry shows for the register word that backs it. -/
def OdBack.read (b : OdBack) (w : Word) : Nat :=
  match b with
  | .field _ hi lo scale => fld w hi lo * scale
  | .pin k => if !bit w (2 * k) then 0 else if bit w (2 * k + 1) then 2 else 1
  | .timer _ => if bit w 3 then fld w 2 0 else 8
/-- The register word with an entry's value in its field. -/
def OdBack.write (b : OdBack) (w : Word) (v : Nat) : Word :=
  match b with
  | .field _ hi lo scale => setFld w hi lo (v / scale)
  | .pin k => setFld w (2 * k + 1) (2 * k) (if v = 0 then 0 else if v = 1 then 1 else 3)
  | .timer _ => if v = 8 then setFld w 3 3 0 else setFld w 3 0 (8 + v)
/-- Address of the backing register. -/
def OdBack.addr : OdBack → Nat
  | .field a _ _ _ => a
  | .pin _ => 0x400
  | .timer a => a

/-! ## Defaults -/

/-- An integer as the bytes of an entry. -/
def odBytes (idx sub n : Nat) : List Byte :=
  match odRow idx sub with
  | some r => leBytes n r.ty.size
  | none => []

/-- Defaults of the entries that no register backs. -/
def odPlainDefault (idx sub : Nat) : Nat :=
  if idx = 0x1005 then 0x80 else if idx = 0x1010 ∨ idx = 0x1011 then 1
  else if idx = 0x1012 then 0x100 else if idx = 0x1015 then 10 else if idx = 0x1017 then 1000
  else if 0x1400 ≤ idx ∧ idx ≤ 0x1403 then
    (if sub = 1 then 0x80000000 + 0x200 + 0x100 * (idx - 0x1400) else if sub = 2 then 255 else 0)
  else if 0x1800 ≤ idx ∧ idx ≤ 0x1803 then
    (if sub = 1 then (if idx ≤ 0x1801 then 0 else 0x80000000) + 0x180 + 0x100 * (idx - 0x1800)
     else if sub = 2 then 255 else if sub = 3 then (if idx ≤ 0x1801 then 100 else 0)
     else if sub = 5 then (if idx ≤ 0x1801 then 1000 else 0) else 0)
  else if idx = 0x1600 then (if sub = 0 then 1 else if sub = 1 then 0x20610120 else 0)
  else if idx = 0x1A00 then (if sub = 0 then 2 else if sub = 1 then 0x20600120 else if sub = 2 then 0x20600220 else 0)
  else if idx = 0x1A01 then
    (if sub = 0 then 4 else if sub = 1 then 0x20600310 else if sub = 2 then 0x20600410 else if sub = 3 then 0x20600508
     else if sub = 4 then 0x20600608 else 0)
  else if idx = 0x2010 ∧ 1 ≤ sub ∧ sub ≤ 6 then (Config.usbId ⟨(sub - 1) % 6, Nat.mod_lt _ (by decide)⟩).toNat
  else if idx = 0x2031 ∧ sub = 5 then 60
  else if idx = 0x2061 then 0xFFFFFF
  else if idx = 0x4001 then (if sub = 2 then 128 else if sub = 3 then 2 else 0)
  else if idx = 0x4102 then (if sub = 6 then 10 else if sub = 7 then 10 else 60)
  else if idx = 0x4103 then (if sub = 1 then 0x800 else 0xFFE)
  else if idx = 0x4820 then (if sub = 1 then 500 else if sub = 2 then 2 else 1000)
  else 0

/-- Default of an entry as a number. -/
def odDefaultNum (idx sub : Nat) : Nat :=
  match odBack idx sub with
  | some b => b.read (regDefault b.addr)
  | none => odPlainDefault idx sub
/-- The COB-ID entries of the PDOs, whose defaults hold the node-ID (R298). -/
def cobEntry (idx sub : Nat) : Bool := sub == 1 && (idx / 4 == 0x1400 / 4 || idx / 4 == 0x1800 / 4)
/-- Default of an entry; strings are empty, and so is a COB-ID entry not written, which takes the node-ID when read. -/
def odDefault (k : Nat) : List Byte :=
  if cobEntry (k / 256) (k % 256) then [] else odBytes (k / 256) (k % 256) (odDefaultNum (k / 256) (k % 256))

/-! ## Ranges -/

/-- A value lies between two limits. -/
def within (v lo hi : Nat) : Bool := lo ≤ v && v ≤ hi

/-- A number is in an entry's range (R278). The ranges are those the chapters state for the entry, or for the field it
mirrors; an entry without a stated range takes any value of its type. -/
def odRangeOk (idx sub v : Nat) : Bool :=
  if idx = 0x1003 then v == 0
  else if idx = 0x1010 then v == 0x65766173
  else if idx = 0x1011 then v == 0x64616F6C
  else if idx = 0x2002 then within v 1 2
  else if idx = 0x2020 then v ≤ 2
  else if idx = 0x2030 then v ≤ 2
  else if idx = 0x2031 then (if sub = 4 then within v 1 3 else within v 10 3600)
  else if idx = 0x2040 then
    (match sub with
     | 1 => within v 50 20000 && v % 50 == 0 | 3 => within v 190 300 | 4 => within v 5 100 | _ => within v 5 200)
  else if idx = 0x2041 then (if sub ≤ 4 then v ≤ 1 else within v 1 2)
  else if idx = 0x2050 then
    (match sub with | 1 => within v 1 127 | 2 => v ≤ 7 | 3 => within v 1 4 | _ => v ≤ 1)
  else if idx = 0x2061 then v < 2 ^ 24
  else if idx = 0x2F01 then within v 1 3
  else if idx = 0x2F02 then v == 1
  else if idx = 0x2F10 then within v 1 2
  else if 0x3000 ≤ idx ∧ idx ≤ 0x3017 then
    (match sub with | 2 => within v 50 2000 && v % 50 == 0 | 3 => v ≤ 3 | _ => v ≤ 1)
  else if 0x3100 ≤ idx ∧ idx ≤ 0x3117 then
    (match sub with
     | 1 => v ≤ 2 | 2 => within v 1 500 | 3 => within v 20 120 | 4 => within v 5 255 | 5 => within v 1 250 | 6 => within v 2 4
     | 7 => v ≤ 15 | 8 => within v 100 150 | 9 => within v 40 140 | 11 => within v 10 1000
     | 12 => within v 50 2000 && v % 50 == 0 | 13 => v ≤ 1 | _ => true)
  else if idx = 0x3200 then v ≤ 4
  else if idx = 0x3201 then v ≤ 2
  else if idx = 0x3232 then (match sub with | 1 => v ≤ 15 | 2 => within v 1 60 | _ => within v 16 255)
  else if idx = 0x3240 then
    (match sub with | 1 => within v 10 5000 | 4 => within v 1 600 | 6 => within v 1 4 | _ => v ≤ 1)
  else if idx = 0x4001 then (match sub with | 1 => v ≤ 0xFFE | 3 => v ≤ 3 | _ => true)
  else if idx = 0x4020 then v ≤ 0xFFF
  else if idx = 0x4030 then (if sub = 3 then v == 1 else true)
  else if 0x4090 ≤ idx ∧ idx ≤ 0x409F then
    (match sub with | 1 => v ≤ 0xFFF | 2 => v < 2 ^ 24 | 4 => within v 1 2 | _ => true)
  else if idx = 0x4100 then within v 1 65535
  else if idx = 0x4102 then
    (match sub with
     | 1 => within v 10 400 | 2 => within v 2 100 | 3 => within v 8 8191 | 4 => within v 100 19000
     | 5 => within v 2048 32768 && v % 256 == 0 | _ => true)
  else if idx = 0x4103 then within v 1 0xFFE
  else if idx = 0x4802 then v ≤ 0xFFF
  else if idx = 0x4810 then
    (v / 2 ^ 17 % 2 ^ 14 == 0) && (v < 2 ^ 31 || within (v / 2 ^ 12 % 32) 1 24)
  else if idx = 0x4820 then
    (match sub with
     | 1 => within v 50 5000 | 2 => within v 1 20 | 3 => within v 200 10000 | 4 => within v 10 1000 | 5 => within v 1 31
     | 6 => within v 1 16 | 7 => within v 1 15 | _ => within v 1 255)
  else if idx = 0x5000 then v ≤ 2
  else if idx = 0x5002 then v < 2 ^ 9
  else if idx = 0x5010 then v ≤ 2
  else if idx = 0x5011 then v < 2 ^ 31
  else if idx = 0x5020 then
    (match sub with | 1 => within v 1 80 | 3 => within v 10 1000 | _ => within v 1 1000)
  else if idx = 0x5030 then within v 720 880
  else if idx = 0x5400 then (if sub = 2 then v < 2 ^ 15 else true)
  else if idx = 0x5401 then (match sub with | 1 => v ≤ 2 | 2 => within v 1 8760 | _ => v ≤ 0xFFF)
  else if idx = 0x5813 then (if sub = 1 then v ≤ 800 else within v 1 15)
  else if idx = 0x5824 then v / 65536 % 8192 < v % 8192
  else if idx = 0x5831 then (match sub with | 1 => within v 2 64 | 2 => within v 1 8 | _ => true)
  else if idx = 0x5843 then within (v % 65536) 1000 24000
  else if idx = 0x5845 then v ≤ 1
  else if idx = 0x5846 then v ≤ 8
  else if idx = 0x5850 then (match sub with | 1 => v == 1 | 2 => v ≤ 63 | _ => v ≤ 7)
  else true

end Sys2Proof.Machine
end

