-- ==== Sys2Proof/Machine/Ops.lean ====
section
/-!
DEFINITION. The named operations every family uses: reading and writing registers, events, answers, dictionary
values in force, and the small tests on engines and domains.
-/

namespace Sys2Proof.Machine

open Sys2Proof

/-! ## Answers and lines -/

/-- The state a command starts from: nothing answered, nothing driven, no trigger raised. -/
def State.fresh (s : State) : State := { s with reply := .none, out := [], snap := { s.snap with due := none, dueBy := 16 } }
/-- Answer the command. -/
def State.answer (s : State) (r : Reply) : State := { s with reply := r }
/-- Put outputs on lines and pins, after those already there. -/
def State.emit (s : State) (l : List Out) : State := { s with out := s.out ++ l }
/-- Answer a request with a status code of R59, 0 for success; a management function answers a refusal with Request
Error and keeps the code (R58, R307). -/
def respond (w : Who) (code : Nat) (data : List Byte) (s : State) : State :=
  if code = 0 then s.answer (.done data)
  else if h : w.m.val < 3 then
    ({ s with usb := { s.usb with mf := Tbl.upd s.usb.mf ⟨w.m.val, h⟩ fun f => { f with status := code } } }).answer .requestError
  else s.answer (.status code)
/-- Draw a free value: its number, and the state that has drawn it (log entry 3). -/
def State.draw (s : State) : Nat × State := (s.free, { s with free := s.free + 1 })

/-! ## Registers (R304 to R323) -/

/-- Active value of the stored register at an address. -/
def regv (s : State) (a : Nat) : Word := Sparse.get regDefault s.regs.active a
/-- Mask of the fields of a register in the configuration checksum (R320). -/
def crcMask (a : Nat) : Nat := match regRow a with | some r => r.crc | none => 0
/-- A master has a pending shadow that no apply has refused. -/
def shadowWaits (s : State) (m : Fin 16) : Bool := s.regs.shadows.any fun h => h.writer = m && !h.refused
/-- The conditions of R323 for a pass that starts now to be adopted. -/
def adoptReady (s : State) : Bool :=
  match s.regs.adopt with
  | some m => s.regs.armed = 0 && !shadowWaits s m
  | none => false
/-- A checksum pass starts (R320, R321, R323). -/
def passStart (s : State) : State := { s with regs := { s.regs with passAdopts := adoptReady s } }
/-- Give the active register at an address a value; a change of a covered field restarts the pass (R321). -/
def setReg (a : Nat) (v : Word) (s : State) : State :=
  let old := regv s a
  let s1 := { s with regs := { s.regs with active := Sparse.put regDefault s.regs.active a v } }
  if (old ^^^ v).toNat &&& crcMask a = 0 then s1 else passStart s1

/-! ## Events (R326, R328) -/

/-- EV_RTm bit `n`. -/
def routed (s : State) (m n : Nat) : Bool := bit (regv s (0x1300 + 8 * m + 4 * (n / 32))) (n % 32)
/-- EV_STATUS bit `n`. -/
def evStatus (s : State) (n : Fin 64) : Bool := Tbl.get s.ev.cnt n != Tbl.get s.ev.seen n
/-- The trigger a latch records when another is raised in its cycle (R374): scheduled (3), SNAP_N (1), event (2),
software (0), in that order. -/
def snapRank (old : Option Nat) (k : Nat) : Nat :=
  match old with
  | some o => if o = 3 ∨ k = 3 then 3 else if o = 1 ∨ k = 1 then 1 else if o = 2 ∨ k = 2 then 2 else 0
  | none => k
/-- A snapshot trigger is raised by a master, or by the device (0x10); the latch follows at the end of the command (R369). -/
def snapRaise (k by_ : Nat) (s : State) : State :=
  { s with snap := { s.snap with due := some (snapRank s.snap.due k), dueBy := by_ } }
/-- The count of event `n` changes: it reaches its destinations (R62, R160, R299, R328, R369). -/
def evRoute (n : Fin 64) (s : State) : State :=
  let mf := eachFin 3 (fun u (t : Tbl 3 MfS) =>
    if routed s (2 + u.val) n.val then
      Tbl.upd t u (fun f => if f.changed.any (fun x => x.1 = n) then f else { f with changed := f.changed ++ [(n, s.time.tb)] })
    else t) s.usb.mf
  let pe := eachFin 8 (fun k (t : Tbl 8 EngS) =>
    if routed s (6 + k.val) n.val then Tbl.upd t k (fun e => { e with evPend := e.evPend ||| BitVec.ofNat 64 (2 ^ n.val) }) else t) s.eng.pe
  let ctl := regv s 0xD0000
  let trig := bit ctl 2 && fld ctl 9 4 = n.val && n.val ≠ 57 && n.val ≠ 63
  { s with
    usb := { s.usb with mf := mf }
    eng := { s.eng with pe := pe }
    can := if routed s 5 n.val && !s.can.changed.contains n then { s.can with changed := s.can.changed ++ [n] } else s.can
    snap := if trig then { s.snap with due := some (snapRank s.snap.due 2) } else s.snap }
/-- An event occurs (R326): its counter advances, or its overflow bit sets. -/
def countEv (n : Fin 64) (s : State) : State :=
  let c := Tbl.get s.ev.cnt n
  if c - Tbl.get s.ev.seen n = 65535 then
    { s with ev := { s.ev with ovf := s.ev.ovf ||| BitVec.ofNat 64 (2 ^ n.val) } }
  else evRoute n { s with ev := { s.ev with cnt := Tbl.put s.ev.cnt n (c + 1) } }

/-! ## Dictionary values in force -/

/-- A dictionary value as its bytes: accepted, or in force since the reset for entries that take effect at one (R276). -/
def odGet (s : State) (idx sub : Nat) : List Byte :=
  let l := match odRow idx sub with
    | some r => if r.takes = .reset then s.od.run else s.od.vals
    | none => s.od.vals
  Sparse.get odDefault l (odKey idx sub)
/-- A dictionary value in force, as a number: the register field behind it, or its value. -/
def odNum (s : State) (idx sub : Nat) : Nat :=
  match odBack idx sub with
  | some b => b.read (regv s b.addr)
  | none => ofLe (odGet s idx sub)

/-! ## Domains and engines -/

/-- A domain is ON. -/
def domainOn (s : State) (d : Fin 31) : Bool := (Tbl.get s.ao.dom d).st = .on
/-- Packet bank `k` is ON (domains 8 to 23, R333). -/
def bankOn (s : State) (k : Nat) : Bool := if h : k < 16 then domainOn s ⟨8 + k, by omega⟩ else false
/-- Domain of a fabric SerDes. -/
def fsdDomain (f : Fin 4) : Fin 31 := ⟨26 + f.val, by omega⟩
/-- Engine `n`. -/
def eng (s : State) (n : Fin 8) : EngS := Tbl.get s.eng.pe n
/-- Change engine `n`. -/
def updEng (n : Fin 8) (f : EngS → EngS) (s : State) : State :=
  { s with eng := { s.eng with pe := Tbl.upd s.eng.pe n f } }
/-- The firmware of an engine runs: it takes tick entries and handler sources. -/
def EngS.serves (e : EngS) : Bool := e.st = .idle || e.st = .tick || e.st = .handler
/-- The firmware of engine `n` runs. -/
def peRuns (s : State) (n : Fin 8) : Bool := (eng s n).serves
/-- SYS_PEn_PORTS. -/
def portsReg (s : State) (n : Fin 8) : Word := regv s (0x920 + 4 * n.val)
/-- The engine that holds a PORTS bit. -/
def roleOf (s : State) (b : Nat) : Option (Fin 8) := (allFin 8).find? fun n => bit (portsReg s n) b
/-- The firmware of the engine that holds a PORTS bit runs. -/
def roleRuns (s : State) (b : Nat) : Bool := match roleOf s b with | some n => peRuns s n | none => false
/-- An engine asleep on its request is granted or reaches EST: its clock restarts (R149). -/
def wakeGated (n : Fin 8) (s : State) : State :=
  updEng n (fun e => if e.sleep = .waitg then { e with sleep := .awake } else e) s

/-! ## Slots and groups -/

/-- Slot `p`. -/
def slot (s : State) (p : Fin 24) : SlotS := Tbl.get s.pow.slots p
/-- Change slot `p`. -/
def updSlot (p : Fin 24) (f : SlotS → SlotS) (s : State) : State :=
  { s with pow := { s.pow with slots := Tbl.upd s.pow.slots p f } }
/-- Group `g`. -/
def group (s : State) (g : Fin 4) : GroupS := Tbl.get s.pow.groups g
/-- Change group `g`. -/
def updGroup (g : Fin 4) (f : GroupS → GroupS) (s : State) : State :=
  { s with pow := { s.pow with groups := Tbl.upd s.pow.groups g f } }
/-- The gate of a slot is on in a state. -/
def SlotSt.gateOn : SlotSt → Bool
  | .ramp => true | .on => true | .foldback => true
  | .off => false | .seating => false | .tripped => false | .retryWait => false | .lockout => false
  | .fetFault => false | .forcedOff => false
/-- Code of a slot state in SPW_Sn_STAT.STATE. -/
def SlotSt.code : SlotSt → Nat
  | .off => 0 | .seating => 1 | .ramp => 2 | .on => 3 | .foldback => 4 | .tripped => 5 | .retryWait => 6 | .lockout => 7
  | .fetFault => 8 | .forcedOff => 9
/-- A slot supplies its port: ON or FOLDBACK. -/
def slotPowered (s : State) (p : Fin 24) : Bool := (slot s p).st = .on || (slot s p).st = .foldback
/-- A slot reports over-current at its port (R51). -/
def slotOverCurrent (s : State) (p : Fin 24) : Bool :=
  let t := (slot s p).st
  t = .tripped || t = .retryWait || t = .lockout || t = .fetFault
/-- VINMIN: the lowest group input in 10 mV units. -/
def vinMin (s : State) : Nat := (allFin 4).foldl (fun n g => min n (group s g).vin) 8191
/-- VIN24 is below 18 V. -/
def vinUnder (s : State) : Bool := vinMin s < 1800

/-! ## Start and identity -/

/-- Start bytes of the running image, read little-endian. -/
def imageField (s : State) (off n : Nat) : Nat := ofLe (((Tbl.get s.img.slot s.img.running).bytes.drop off).take n)
/-- The boot ROM waits for an image (R63, R379). -/
def bootWait (s : State) : Bool := s.start.stage = .run && s.start.phase = 7
/-- Release of the running firmware, 0 while the boot ROM waits (R182, OD 0x2010 sub 7). -/
def firmwareRelease (s : State) : Nat := if bootWait s then 0 else imageField s 12 2
/-- The forwarding core is in FAULT (R102). -/
def coreFault (s : State) : Bool := s.xb.st = .fault
/-- AUTHST now: disabled while DBGOFF is 1, and while no debug key is set and the seal is closed (R394). -/
def authNow (s : State) : Nat :=
  if bit (regv s 0x34) 0 || (odGet s 0x2F13 0 == [] && s.od.sealed) then 5 else s.dbg.authst
/-- The node-ID in force: 0 acts as 127 (R294). -/
def canNode (s : State) : Nat := if fld (regv s 0xB0004) 6 0 = 0 then 127 else fld (regv s 0xB0004) 6 0
/-- This node's fabric address. -/
def nodeAddress (s : State) : Nat := s.fab.addr.toNat
/-- The calendar seconds now. -/
def calendarSeconds (s : State) : Word := s.ao.calSec

/-! ## Codes -/

/-- USBP_Pn_STATE.SPEED. -/
def Speed.code : Speed → Nat
  | .none => 0 | .ls => 1 | .fs => 2 | .hs => 3 | .gen1 => 4 | .gen2 => 5
end Sys2Proof.Machine

namespace Sys2Proof

/-- The speed a message carries. -/
def SpeedCode.toSpeed : SpeedCode → Machine.Speed
  | .ls => .ls | .fs => .fs | .hs => .hs | .gen1 => .gen1 | .gen2 => .gen2

end Sys2Proof
end

