-- ==== Sys2Proof/Machine/Queue.lean ====
section
/-!
DEFINITION. Packet memory words, parity and poison, and the queue manager: banks, items, admission,
marks, flush and watermarks (R108 to R139, R425 to R427).
-/

namespace Sys2Proof.Machine

open Sys2Proof

/-! ## Storage words -/

/-- A word nothing has written: zero, with good parity. -/
def pwZero (_ : Nat) : PWord := { data := 0, bad := false }
/-- Word number `w` of packet memory. -/
def pmGet (s : State) (w : Nat) : PWord := Sparse.get pwZero s.qm.mem w
/-- Write word number `w`. -/
def pmPut (w : Nat) (v : PWord) (s : State) : State :=
  { s with qm := { s.qm with mem := Sparse.put pwZero s.qm.mem w v } }

/-- R110: a word read with bad parity counts in its bank, is latched and counts EV43. -/
def parityErr (w : Nat) (s : State) : State :=
  let b : Fin 16 := ⟨(w / 32768) % 16, Nat.mod_lt _ (by decide)⟩
  countEv 43 { s with qm := { s.qm with
    parErr := Tbl.upd s.qm.parErr b (fun n => min 0xFFFF (n + 1)), parAddr := w * 8 } }

/-- Read a word under R110. -/
def pmRead (w : Nat) (s : State) : PWord × State :=
  let v := pmGet s w
  (v, if v.bad then parityErr w s else s)

/-- Byte `i` of a word. -/
def byteOf (d : DWord) (i : Nat) : Byte := BitVec.ofNat 8 (d.toNat / 2 ^ (8 * i))
/-- A word with byte `i` replaced. -/
def setByte (d : DWord) (i : Nat) (b : Byte) : DWord :=
  BitVec.ofNat 64 (d.toNat - (d.toNat / 2 ^ (8 * i) % 256) * 2 ^ (8 * i) + b.toNat * 2 ^ (8 * i))

/-- Write bytes from byte address `a` of packet memory, padding the last word with zeros (R121); words
written from a poisoned beat take inverted parity (R109). -/
def pmWriteBytes (a : Nat) (bs : List Byte) (poison : Bool) (s : State) : State :=
  bs.zipIdx.foldl (fun t (x : Byte × Nat) =>
    let p := a + x.2
    let w := p / 8
    let i := p % 8
    let o := if i = 0 then pwZero w else pmGet t w
    pmPut w { data := setByte o.data i x.1, bad := poison || (i != 0 && o.bad) } t) s

/-- Read `n` bytes from byte address `a`, word by word: the bytes and the number of poisoned words. -/
def pmReadBytes (a n : Nat) (s : State) : List Byte × Nat × State :=
  let w0 := a / 8
  let w1 := if n = 0 then w0 else (a + n - 1) / 8 + 1
  let r := (List.range (w1 - w0)).foldl (fun (acc : List (DWord) × Nat × State) i =>
    let (v, t) := pmRead (w0 + i) acc.2.2
    (acc.1 ++ [v.data], acc.2.1 + (if v.bad then 1 else 0), t)) ([], 0, s)
  let bytes := r.1.flatMap fun d => (List.range 8).map fun i => byteOf d i
  ((bytes.drop (a % 8)).take n, r.2.1, r.2.2)

/-! ## Queue settings (active registers, R116) -/

/-- QM_Qn_CTL. -/
def qCtl (s : State) (q : Fin 64) : Word := regv s (0x30000 + 0x40 * q.val)
/-- EN. -/
def qEn (s : State) (q : Fin 64) : Bool := bit (qCtl s q) 0
/-- MODE: cut-through. -/
def qCut (s : State) (q : Fin 64) : Bool := bit (qCtl s q) 1
/-- ADMIT: DROP. -/
def qDropMode (s : State) (q : Fin 64) : Bool := bit (qCtl s q) 2
/-- WMEV. -/
def qWmev (s : State) (q : Fin 64) : Bool := bit (qCtl s q) 3
/-- MARKMODE. -/
def qMarkMode (s : State) (q : Fin 64) : Nat := fld (qCtl s q) 5 4
/-- MARK_WIN. -/
def qMarkWin (s : State) (q : Fin 64) : Nat := fld (qCtl s q) 13 6
/-- PING or PONG. -/
def qBankReg (s : State) (q : Fin 64) (b : Fin 2) : Word := regv s (0x30004 + 4 * b.val + 0x40 * q.val)
/-- First byte of a bank. -/
def qBase (s : State) (q : Fin 64) (b : Fin 2) : Nat := fld (qBankReg s q b) 13 0 * 256
/-- Bytes of a bank. -/
def qSize (s : State) (q : Fin 64) (b : Fin 2) : Nat := fld (qBankReg s q b) 28 16 * 256
/-- ITEM_MAX. -/
def qItemMax (s : State) (q : Fin 64) : Nat := fld (regv s (0x3000C + 0x40 * q.val)) 15 0
/-- CUT_THRESH. -/
def qCutThresh (s : State) (q : Fin 64) : Nat := fld (regv s (0x3000C + 0x40 * q.val)) 23 16
/-- HI and LO in bytes (R136). -/
def qHi (s : State) (q : Fin 64) : Nat := fld (regv s (0x30010 + 0x40 * q.val)) 12 0 * 256
def qLo (s : State) (q : Fin 64) : Nat := fld (regv s (0x30010 + 0x40 * q.val)) 28 16 * 256

/-- Queue `q`. -/
def queue (s : State) (q : Fin 64) : QueueS := Tbl.get s.qm.q q
/-- Replace queue `q`. -/
def putQueue (q : Fin 64) (x : QueueS) (s : State) : State := { s with qm := { s.qm with q := Tbl.put s.qm.q q x } }
/-- Change queue `q`. -/
def updQueue (q : Fin 64) (f : QueueS → QueueS) (s : State) : State := putQueue q (f (queue s q)) s
/-- The other bank. -/
def otherBank (b : Fin 2) : Fin 2 := if b.val = 0 then 1 else 0

/-! ## Header words (R121, R122) -/

/-- TB[26:3]. -/
def tstamp (s : State) : BitVec 24 := BitVec.ofNat 24 (s.time.tb.toNat / 8)

/-- A header, tail or LINK word. -/
def hdrWord (len type : Nat) (sop eop cut poison : Bool) (chseq : BitVec 16) (ts : BitVec 24) : DWord :=
  BitVec.ofNat 64 (len % 65536 + type % 16 * 2 ^ 16 + b2n sop * 2 ^ 20 + b2n eop * 2 ^ 21 + b2n cut * 2 ^ 22
    + b2n poison * 2 ^ 23 + chseq.toNat * 2 ^ 24 + ts.toNat * 2 ^ 40)

/-- LENGTH of a header word. -/
def hLen (d : DWord) : Nat := d.toNat % 65536
/-- TYPE. -/
def hType (d : DWord) : Nat := d.toNat / 2 ^ 16 % 16
/-- SOP. -/
def hSop (d : DWord) : Bool := d.getLsbD 20
/-- EOP. -/
def hEop (d : DWord) : Bool := d.getLsbD 21
/-- POISON. -/
def hPoison (d : DWord) : Bool := d.getLsbD 23
/-- CHSEQ. -/
def hChseq (d : DWord) : BitVec 16 := BitVec.ofNat 16 (d.toNat / 2 ^ 24)
/-- TSTAMP of a header. -/
def hTs (d : DWord) : BitVec 24 := BitVec.ofNat 24 (d.toNat / 2 ^ 40)
/-- `n` rounded up to whole words. -/
def up8 (n : Nat) : Nat := (n + 7) / 8 * 8

/-- Write one word at offset `off` of a bank. -/
def bankPut (q : Fin 64) (b : Fin 2) (off : Nat) (d : DWord) (s : State) : State :=
  pmPut ((qBase s q b + off) / 8) { data := d, bad := false } s
/-- Change a bank record. -/
def QueueS.bank (x : QueueS) (b : Fin 2) (f : BankS → BankS) : QueueS := { x with banks := Tbl.upd x.banks b f }

/-! ## Level and watermark (R136, R137) -/

/-- LEVEL. -/
def qLevel (s : State) (q : Fin 64) : Nat :=
  let x := queue s q
  let own := (Tbl.get x.banks x.cons).fill - x.rpos
  let o := otherBank x.cons
  let oth := match x.held with
    | some h => (Tbl.get x.banks h).fill - (match x.mark with | some (mb, off) => if mb = h then off else 0 | none => 0)
    | none => (Tbl.get x.banks o).fill
  own + oth

/-- Recompute WM after a change of LEVEL; a rise counts WM_CROSS and, with WMEV, EV40. -/
def qWatermark (q : Fin 64) (s : State) : State :=
  let x := queue s q
  let hi := qHi s q
  let lo := if qLo s q ≥ hi then hi - 256 else qLo s q
  let l := qLevel s q
  if hi = 0 then (if x.wm then putQueue q { x with wm := false } s else s)
  else if !x.wm && hi ≤ l then
    let s1 := putQueue q { x with wm := true, wmCross := min 255 (x.wmCross + 1) } s
    if qWmev s q then countEv 40 s1 else s1
  else if x.wm && l ≤ lo then putQueue q { x with wm := false } s
  else s

/-! ## Swap (R119, R120, R133) -/

/-- An empty bank record. -/
def bankEmpty : BankS := { fill := 0, done := 0, items := 0, closed := false, gapDrops := 0 }

/-- Write the LINK word after the last item of a bank (R122). -/
def writeLink (q : Fin 64) (b : Fin 2) (s : State) : State :=
  let k := Tbl.get (queue s q).banks b
  if k.closed then s
  else updQueue q (fun x => x.bank b fun k => { k with fill := k.done + 8, done := k.done + 8 })
    (bankPut q b k.done (hdrWord 0 3 false false (qCut s q) false (BitVec.ofNat 16 k.items) (tstamp s)) s)

/-- The consumer's bank has been read to its end. -/
def consDrained (x : QueueS) : Bool :=
  x.mid.isNone && x.old.isNone && (Tbl.get x.banks x.cons).done ≤ x.rpos &&
    !(x.cur.any fun c => c.bank = x.cons)

/-- The producer's bank holds something a swap would offer to the consumer (R119). -/
def prodOffers (s : State) (q : Fin 64) (p : Fin 2) : Bool :=
  let x := queue s q
  let k := Tbl.get x.banks p
  k.done > 0 || (qCut s q && x.cur.any fun c => c.bank = p && up8 c.len / 8 ≥ qCutThresh s q)

/-- Give a bank the consumer leaves back to the producer, or hold it under a HOLD mark (R133). -/
def releaseBank (s : State) (q : Fin 64) (b : Fin 2) (x : QueueS) : QueueS :=
  if qMarkMode s q = 1 && x.mark.any (fun m => m.1 = b) then { x with prod := none, held := some b }
  else { (x.bank b fun _ => bankEmpty) with prod := some b, leftEnd := (Tbl.get x.banks b).fill }

/-- BANK_SWAP, in the first cycle its conditions hold. After a rewind into the HELD bank, the consumer moves
on to the other bank. -/
def swapIfDue (q : Fin 64) (s : State) : State :=
  let x := queue s q
  if !qEn s q || !consDrained x then s
  else if x.after then
    let o := otherBank x.cons
    putQueue q (releaseBank s q x.cons { x with cons := o, rpos := 0, after := false }) s
  else match x.prod with
    | none => s
    | some p =>
      if prodOffers s q p then
        let midItem := x.cur.any fun c => c.bank = p
        let s1 := if midItem then s else writeLink q p s
        let x1 := queue s1 q
        putQueue q (releaseBank s1 q x.cons { x1 with cons := p, rpos := 0 }) s1
      else s

/-- What follows a change of the queue in the same and the next cycle: watermarks, and a swap that has become due
(R119, R136). -/
def qSettle (q : Fin 64) (s : State) : State := qWatermark q (swapIfDue q (qWatermark q s))

/-! ## Producing -/

/-- Free bytes of a bank outside the reserve (R118). -/
def bankFree (s : State) (q : Fin 64) (b : Fin 2) : Nat :=
  qSize s q b - 16 - (Tbl.get (queue s q).banks b).fill

/-- Producer credit (R128). -/
def qCredit (s : State) (q : Fin 64) : Bool :=
  match (queue s q).prod with
  | some p => up8 (qItemMax s q) + 16 ≤ bankFree s q p
  | none => false

/-- R129: the item offered is dropped; the GAP marker is written at the first drop into the bank and updated
afterwards. -/
def dropItem (q : Fin 64) (s : State) : State :=
  let s0 := updQueue q (fun x => { x with drops := min 0xFFFFFFFF (x.drops + 1) }) s
  match (queue s0 q).prod with
  | none => s0
  | some p =>
    let k := Tbl.get (queue s0 q).banks p
    let body (n : Nat) : DWord := BitVec.ofNat 64 (n + (tstamp s0).toNat * 2 ^ 32)
    if k.closed then
      let n := min 0xFFFFFFFF (k.gapDrops + 1)
      updQueue q (fun x => x.bank p fun k => { k with gapDrops := n }) (bankPut q p (k.done - 8) (body n) s0)
    else
      let s1 := bankPut q p k.done (hdrWord 8 1 true true false false 0 (tstamp s0)) s0
      let s2 := bankPut q p (k.done + 8) (body 1) s1
      countEv 42 (updQueue q (fun x => x.bank p fun k =>
        { k with fill := k.done + 16, done := k.done + 16, closed := true, gapDrops := 1 }) s2)

/-- R135: the producer has written up to `e` in bank `b`: a SOFT mark at or before it is overtaken. -/
def overtake (q : Fin 64) (b : Fin 2) (e : Nat) (s : State) : State :=
  let x := queue s q
  if qMarkMode s q = 2 && x.prod = some b && x.mark.any (fun m => m.1 = b && decide (m.2 < e)) then
    countEv 41 (putQueue q { x with
      mark := none, markLost := true, old := none, mid := if x.old.isSome then none else x.mid,
      endAbort := x.endAbort || (x.old.isSome && x.mid.isSome), rpos := if x.old.isSome then 0 else x.rpos } s)
  else s

/-- Start an item: reserve and write the header word (R123). -/
def itemStart (q : Fin 64) (p : Fin 2) (prod : Nat) (sop : Bool) (chseq : BitVec 16) (s : State) : State :=
  let k := Tbl.get (queue s q).banks p
  let ts := tstamp s
  let s1 := bankPut q p k.done (hdrWord 0xFFFF 0 sop false (qCut s q) false chseq ts) s
  overtake q p (k.done + 8) (updQueue q (fun x =>
    { (x.bank p fun k => { k with fill := k.done + 8 }) with
      cur := some { prod := prod, bank := p, off := k.done, len := 0, sop := sop, chseq := chseq, ts := ts, poison := false }
      skip := none }) s1)

/-- Commit the item in progress with its final header (R123), and write the LINK word when its bank is the
consumer's by now (R120). -/
def itemCommit (q : Fin 64) (eop : Bool) (s : State) : State :=
  match (queue s q).cur with
  | none => s
  | some c =>
    let s1 := bankPut q c.bank c.off (hdrWord c.len 0 c.sop eop (qCut s q) c.poison c.chseq c.ts) s
    let e := c.off + 8 + up8 c.len
    let s2 := updQueue q (fun x =>
      { (x.bank c.bank fun k => { k with fill := e, done := e, items := k.items + 1 }) with cur := none }) s1
    if (queue s2 q).prod ≠ some c.bank then writeLink q c.bank s2 else s2

/-- Abort the item in progress (R126): ABORT tail and header, item committed. -/
def itemAbort (q : Fin 64) (s : State) : State :=
  match (queue s q).cur with
  | none => s
  | some c =>
    let tailOff := c.off + 8 + up8 c.len
    let s1 := bankPut q c.bank tailOff (hdrWord 0xFFFE 2 false true (qCut s q) false c.chseq (tstamp s)) s
    let s2 := bankPut q c.bank c.off (hdrWord c.len 2 c.sop true (qCut s q) c.poison c.chseq c.ts) s1
    let s3 := updQueue q (fun x =>
      { (x.bank c.bank fun k => { k with fill := tailOff + 8, done := tailOff + 8, items := k.items + 1 }) with
        cur := none, skip := some c.prod, aborts := min 255 (x.aborts + 1) }) s2
    let s4 := overtake q c.bank (tailOff + 8) s3
    qWatermark q (if (queue s4 q).prod ≠ some c.bank then writeLink q c.bank s4 else s4)

/-- Append data to the item in progress; beyond ITEM_MAX the item is aborted with its first ITEM_MAX bytes
(R126). -/
def itemData (q : Fin 64) (bs : List Byte) (poison : Bool) (s : State) : State :=
  match (queue s q).cur with
  | none => s
  | some c =>
    let lim := qItemMax s q
    let room := min (lim - c.len) (qSize s q c.bank - 8 - 16 - (c.off + 8 + c.len))
    let put := bs.take room
    let s1 := pmWriteBytes (qBase s q c.bank + c.off + 8 + c.len) put poison s
    let n := c.len + put.length
    let s2 := updQueue q (fun x =>
      { (x.bank c.bank fun k => { k with fill := c.off + 8 + up8 n }) with
        cur := some { c with len := n, poison := c.poison || (poison && !put.isEmpty) } }) s1
    let s3 := overtake q c.bank (c.off + 8 + up8 n) s2
    if put.length < bs.length then itemAbort q s3 else s3

/-- Status codes of R139 (and REFUSED of R175). -/
def qOK : Nat := 0
def qEMPTY : Nat := 1
def qNOCREDIT : Nat := 2
def qDROPPED : Nat := 3
def qTOOLONG : Nat := 4
def qWINDOW : Nat := 5
def qNOMARK : Nat := 6
def qMARKLOST : Nat := 7
def qBUSY : Nat := 8
def qDISABLED : Nat := 9
def qABORTED : Nat := 10
def qPOISON : Nat := 11
def qREFUSED : Nat := 13

/-- Admission of a new item of `len` declared bytes (R118, R128, R129, R426): the status and, where it is OK,
the state after any swap of the same cycle. -/
def qAdmit (q : Fin 64) (len : Nat) (s : State) : Nat × State :=
  if !qEn s q then (qDISABLED, s)
  else
    let s1 := swapIfDue q s
    let x := queue s1 q
    if x.cur.isSome then (qBUSY, s1)
    else if qItemMax s1 q < len then (qTOOLONG, s1)
    else if qDropMode s1 q then
      match x.prod with
      | some p =>
        if (Tbl.get x.banks p).closed || bankFree s1 q p < 8 + up8 len + 8 then (qDROPPED, qWatermark q (dropItem q s1))
        else (qOK, s1)
      | none => (qDROPPED, qWatermark q (dropItem q s1))
    else if qCredit s1 q then (qOK, s1) else (qNOCREDIT, s1)

/-- Start, extend and end an item by the SOP and EOP flags of one enqueue (R128, R129, R426). -/
def qEnqueue (q : Fin 64) (prod : Nat) (sop eop : Bool) (chseq : BitVec 16) (bs : List Byte) (poison : Bool)
    (s : State) : Nat × State :=
  if sop then
    match qAdmit q bs.length s with
    | (0, s1) =>
      match (queue s1 q).prod with
      | some p =>
        let s2 := itemData q bs poison (itemStart q p prod true chseq s1)
        let s3 := if eop then itemCommit q true s2 else s2
        (qOK, qSettle q s3)
      | none => (qNOCREDIT, s1)
    | r => r
  else if !qEn s q then (qDISABLED, s)
  else match (queue s q).cur with
    | some c =>
      if c.prod = prod then
        let s2 := itemData q bs poison s
        let s3 := if eop then itemCommit q true s2 else s2
        (qOK, qSettle q s3)
      else (qREFUSED, s)
    | none => (qREFUSED, s)

/-! ## Consuming -/

/-- What a read of the next item delivers. -/
structure Deq where
  status : Nat
  type : Nat
  sop : Bool
  eop : Bool
  /-- the item, or its part, ends here -/
  last : Bool
  poison : Bool
  chseq : BitVec 16
  /-- timestamp of the header -/
  ts : BitVec 24
  data : List Byte
deriving DecidableEq, Repr

/-- Nothing delivered. -/
def deqNone (status : Nat) : Deq :=
  { status := status, type := 0, sop := false, eop := false, last := false, poison := false, chseq := 0, ts := 0, data := [] }

/-- Bank and offset the consumer reads next: old items in the producer's bank first (R425). -/
def readPos (x : QueueS) : Fin 2 × Nat :=
  match x.old with
  | some (pos, _) => (otherBank x.cons, pos)
  | none => (x.cons, x.rpos)

/-- Move the read position; the end of the old items returns the consumer to its own bank's first item. -/
def moveRead (x : QueueS) (pos : Nat) : QueueS :=
  match x.old with
  | some (_, e) => if e ≤ pos then { x with old := none, rpos := 0 } else { x with old := some (pos, e) }
  | none => { x with rpos := pos }

/-- The end of what the consumer may read at its position: committed contents, or old contents. -/
def readEnd (x : QueueS) : Nat :=
  match x.old with
  | some (_, e) => e
  | none => (Tbl.get x.banks x.cons).done

/-- Step over a LINK word that follows the item just read. -/
def passLink (q : Fin 64) (s : State) : State :=
  let x := queue s q
  let (b, pos) := readPos x
  if pos < readEnd x && hType (pmGet s ((qBase s q b + pos) / 8)).data = 3 then putQueue q (moveRead x (pos + 8)) s else s

/-- R127: a consuming read of a bad header discards the rest of the consumer's bank. -/
def headerBad (q : Fin 64) (s : State) : State :=
  let x := queue s q
  let e := readEnd x
  putQueue q { (moveRead x e) with mid := none, hdrErr := min 255 (x.hdrErr + 1), poisonRd := min 0xFFFF (x.poisonRd + 1) } s

/-- The item at the read position of a swapped queue: its header, and whether it is still in progress. -/
def headAt (s : State) (q : Fin 64) : Option (PWord × Bool) :=
  let x := queue s q
  let (b, pos) := readPos x
  let w := pmGet s ((qBase s q b + pos) / 8)
  if pos < readEnd x then some (w, false)
  else match x.cur with
    | some c =>
      if x.old.isNone && c.bank = x.cons && c.off = pos && qCut s q && (up8 c.len / 8 ≥ qCutThresh s q || x.mid.isSome) then
        some (w, true)
      else none
    | none => none

/-- DEQ of up to `n` data bytes of the next item, or of the rest of the one being read (R124 to R127, R134). -/
def qDequeue (q : Fin 64) (n : Nat) (s : State) : Deq × State :=
  if !qEn s q then (deqNone qDISABLED, s)
  else if (queue s q).endAbort then
    ({ deqNone qABORTED with type := 2, last := true, eop := true }, updQueue q (fun x => { x with endAbort := false }) s)
  else
    let s1 := swapIfDue q s
    let x := queue s1 q
    let (b, pos) := readPos x
    match headAt s1 q with
    | none => (deqNone qEMPTY, s1)
    | some (h, inProg) =>
      if h.bad then
        ({ deqNone qABORTED with poison := true, last := true },
         qSettle q (headerBad q (parityErr ((qBase s1 q b + pos) / 8) s1)))
      else
        let ty := hType h.data
        let isData := ty = 0
        if isData && x.mid.isNone && qMarkWin s1 q ≠ 0 && x.mark.isSome && qMarkWin s1 q ≤ x.win then (deqNone qWINDOW, s1)
        else
          let got := x.mid.getD 0
          let len := if inProg then (x.cur.map (·.len)).getD 0 / 8 * 8 else hLen h.data
          if ty = 2 then
            -- an ABORT item, or one that ended with an ABORT end: consumed, nothing more delivered
            let e := pos + 8 + up8 len + 8
            ({ deqNone qABORTED with type := 2, last := true, sop := hSop h.data, eop := true, chseq := hChseq h.data },
             qSettle q (passLink q (putQueue q { (moveRead x e) with mid := none } s1)))
          else
            let k := min n (len - got)
            let (bs, bad, s2) := pmReadBytes (qBase s1 q b + pos + 8 + got) k s1
            let fin := !inProg && got + k = len
            let e := pos + 8 + up8 len
            let x2 := queue s2 q
            let x3 := { x2 with poisonRd := min 0xFFFF (x2.poisonRd + bad),
                                win := if isData && x.mid.isNone then x2.win + 1 else x2.win }
            let x4 := if fin then { (moveRead x3 e) with mid := none } else { x3 with mid := some (got + k) }
            let s3 := putQueue q x4 s2
            let s4 := if fin then passLink q s3 else s3
            let poi := hPoison h.data || bad > 0
            ({ status := if poi then qPOISON else qOK, type := ty, sop := hSop h.data && got = 0,
               eop := fin && hEop h.data, last := fin, poison := poi, chseq := hChseq h.data, ts := hTs h.data, data := bs },
             qSettle q s4)

/-- PEEK: the next header without consuming it (R127). -/
def qPeek (q : Fin 64) (s : State) : Nat × DWord × State :=
  if !qEn s q then (qDISABLED, 0, s)
  else
    let s1 := swapIfDue q s
    let x := queue s1 q
    let (b, pos) := readPos x
    match headAt s1 q with
    | none => (qEMPTY, 0, s1)
    | some (h, _) =>
      if h.bad then
        (qPOISON, h.data, parityErr ((qBase s1 q b + pos) / 8)
          (updQueue q (fun x => { x with poisonRd := min 0xFFFF (x.poisonRd + 1) }) s1))
      else (if hPoison h.data then qPOISON else qOK, h.data, s1)

/-! ## Flush and marks (R130 to R135, R425, R427) -/

/-- FLUSH of an enabled queue (R130), less the egress packet it ends. -/
def queueFlush (q : Fin 64) (s : State) : State :=
  if !qEn s q then s
  else
    let x := queue s q
    qWatermark q (putQueue q { x with
      banks := Tbl.fill 2 bankEmpty, prod := some 0, cons := 1, rpos := 0, mid := none, endAbort := x.endAbort || x.mid.isSome,
      skip := (x.cur.map (·.prod)).orElse (fun _ => x.skip), cur := none, mark := none, markLost := false,
      held := none, after := false, old := none, leftEnd := 0, win := 0 } s)

/-- Release a HELD bank as an empty producer bank (R133). -/
def QueueS.unhold (x : QueueS) : QueueS :=
  match x.held with
  | some h => { (x.bank h fun _ => bankEmpty) with held := none, prod := some h }
  | none => x

/-- MARK (R131). -/
def qMark (q : Fin 64) (s : State) : Nat × State :=
  if !qEn s q then (qDISABLED, s)
  else if qMarkMode s q = 0 then (qNOMARK, s)
  else
    let s := swapIfDue q s
    let x := queue s q
    let m := readPos x
    let x1 := { x with mark := some m, markLost := false, win := if x.mid.isSome then 1 else 0 }
    (qOK, qWatermark q (putQueue q (if x.held.any (fun h => h ≠ m.1) then x1.unhold else x1) s))

/-- UNMARK (R131). -/
def qUnmark (q : Fin 64) (s : State) : Nat × State :=
  if !qEn s q then (qDISABLED, s)
  else (qOK, qWatermark q (updQueue q (fun x => { x with mark := none, markLost := false, win := 0 }.unhold) s))

/-- REWIND (R132, R133, R425). -/
def qRewind (q : Fin 64) (s : State) : Nat × State :=
  if !qEn s q then (qDISABLED, s)
  else
    let x := queue s q
    if x.mid.isSome then (qBUSY, s)
    else match x.mark with
      | none => (if x.markLost then qMARKLOST else qNOMARK, s)
      | some (b, off) =>
        let x1 := { x with win := 0 }
        let x2 :=
          if b = x.cons then { x1 with rpos := off, old := none }
          else if x.held = some b then { x1 with cons := b, rpos := off, held := none, after := true }
          else { x1 with old := some (off, x.leftEnd) }
        (qOK, qWatermark q (putQueue q x2 s))

/-- Pass over the next committed item without reading its data: how a mark is moved forward (R263). -/
def qSkip (q : Fin 64) (s : State) : State :=
  let s1 := swapIfDue q s
  let x := queue s1 q
  let (_, pos) := readPos x
  match headAt s1 q with
  | some (h, false) =>
    let e := pos + 8 + up8 (hLen h.data) + (if hType h.data = 2 then 8 else 0)
    qWatermark q (passLink q (putQueue q { (moveRead x e) with mid := none, win := x.win + 1 } s1))
  | _ => s1

/-- Move the mark of a queue forward by `k` items, `n` items having been read since it. -/
def qMarkForward (q : Fin 64) (k n : Nat) (s : State) : State :=
  let s1 := (List.range k).foldl (fun t _ => qSkip q t) (qRewind q s).2
  (List.range (n - k)).foldl (fun t _ => qSkip q t) (qMark q s1).2

/-- A write to QM_Qn_CMD (R427): FLUSH, UNMARK, MARK, REWIND in this order; after a flush of the same write the
others return BUSY. -/
def qCommand (q : Fin 64) (v : Word) (s : State) : State :=
  let fl := bit v 0 && qEn s q
  let s0 := if fl then queueFlush q s else s
  let op (on : Bool) (f : Fin 64 → State → Nat × State) (t : State) : State :=
    if !on then t
    else
      let r := if fl then (qBUSY, t) else f q t
      updQueue q (fun x => { x with rwstat := r.1 }) r.2
  op (bit v 3) qRewind (op (bit v 1) qMark (op (bit v 2) qUnmark s0))

/-- WM_CROSS_WRITE (R137). -/
def wmCrossWrite (q : Fin 64) (n : Nat) (s : State) : State :=
  updQueue q (fun x => { x with wmCross := x.wmCross - n }) s

/-! ## Carve table (R115, R116) -/

/-- One region of the carve table: row number, whether it is an EPB row, base and size in units. -/
structure Region where
  row : Nat
  epb : Bool
  base : Nat
  size : Nat
deriving DecidableEq, Repr

/-- QM_EPBn. -/
def epb (s : State) (n : Nat) : Word := regv s (0x31100 + 4 * n)

/-- Regions checked for overlap (code 3): banks of enabled queues, then used EPB rows. -/
def carveRegions (s : State) : List Region :=
  (allFin 64).flatMap (fun q => if qEn s q then
    [0, 1].map fun b => ({ row := q.val, epb := false, base := qBase s q b / 256, size := qSize s q b / 256 } : Region) else []) ++
  (List.range 16).filterMap fun n =>
    if fld (epb s n) 28 16 = 0 then none
    else some { row := n, epb := true, base := fld (epb s n) 13 0, size := fld (epb s n) 28 16 }

/-- Two regions overlap. -/
def Region.meets (a b : Region) : Bool := a.base < b.base + b.size && b.base < a.base + a.size

/-- The first region that overlaps another one. -/
def firstOverlap (l : List Region) : Option (Nat × Bool) :=
  ((l.zipIdx).find? fun (x : Region × Nat) => (l.zipIdx).any fun (y : Region × Nat) => x.2 ≠ y.2 && x.1.meets y.1).map
    fun x => (x.1.row, x.1.epb)

/-- The first queue for which a condition holds. -/
def firstQueue (c : Fin 64 → Bool) : Option (Nat × Bool) := ((allFin 64).find? c).map fun q => (q.val, false)
/-- The first EPB row for which a condition holds. -/
def firstEpb (c : Nat → Bool) : Option (Nat × Bool) := ((List.range 16).find? c).map fun n => (n, true)

/-- Settings a queue may not change while it stays enabled (code 5). -/
def carveFixed (s : State) (q : Fin 64) : List Nat :=
  [(qBankReg s q 0).toNat, (qBankReg s q 1).toNat, fld (qCtl s q) 2 1, qMarkMode s q, qItemMax s q, qCutThresh s q]

/-- R115 for the registers as applied in `s` over those of `old`; `start` leaves code 5 out (R381). -/
def carveCheck (old s : State) (start : Bool) : Option (Nat × Nat × Bool) :=
  let en (q : Fin 64) : Bool := qEn s q
  let szBad (n : Nat) : Bool := n < 4 || 4096 < n
  let u (q : Fin 64) (b : Fin 2) : Nat := qSize s q b / 256
  let small (q : Fin 64) (b : Fin 2) : Bool := qSize s q b < up8 (qItemMax s q) + 32
  let off (q : Fin 64) (b : Fin 2) : Bool :=
    let a := qBase s q b
    !(List.range 16).all fun k => if a < (k + 1) * 262144 && k * 262144 < a + qSize s q b then bankOn s k else true
  let code (c : Nat) (r : Option (Nat × Bool)) : Option (Nat × Nat × Bool) := r.map fun x => (c, x.1, x.2)
  let orElse (r : Option (Nat × Nat × Bool)) (r2 : Option (Nat × Nat × Bool)) : Option (Nat × Nat × Bool) :=
    match r with | some x => some x | none => r2
  orElse (code 1 (match firstQueue fun q => en q && (szBad (u q 0) || szBad (u q 1)) with
      | some x => some x | none => firstEpb fun n => 4096 < fld (epb s n) 28 16)) <|
  orElse (code 2 (match firstQueue fun q => en q && (16384 < qBase s q 0 / 256 + u q 0 || 16384 < qBase s q 1 / 256 + u q 1) with
      | some x => some x | none => firstEpb fun n => fld (epb s n) 28 16 ≠ 0 && 16384 < fld (epb s n) 13 0 + fld (epb s n) 28 16)) <|
  orElse (code 3 (firstOverlap (carveRegions s))) <|
  orElse (code 4 (firstQueue fun q => en q && (small q 0 || small q 1))) <|
  orElse (code 5 (if start then none else firstQueue fun q => en q && qEn old q && carveFixed s q ≠ carveFixed old q)) <|
  orElse (code 6 (firstQueue fun q => en q && !qEn old q && (off q 0 || off q 1))) <|
  code 7 (firstQueue fun q => en q && (qMarkMode s q = 3 || (qMarkMode s q = 1 && qDropMode s q) ||
    (qDropMode s q && qCut s q) || (qCut s q && qCutThresh s q = 0)))

/-- A queue as it starts, empty (R116). -/
def QueueS.restart (x : QueueS) : QueueS :=
  { x with banks := Tbl.fill 2 bankEmpty, prod := some 0, cons := 1, rpos := 0, mid := none, endAbort := false, cur := none,
           skip := none, mark := none, markLost := false, held := none, after := false, old := none, leftEnd := 0, win := 0, wm := false }

/-! ## Window and scrub (R111, R112) -/

/-- The bank at a byte offset belongs to an enabled queue's region. -/
def inEnabledQueue (s : State) (off : Nat) : Bool :=
  (allFin 64).any fun q => qEn s q && ([0, 1] : List (Fin 2)).any fun b => qBase s q b ≤ off && off < qBase s q b + qSize s q b

/-- 32-bit half of a word. -/
def wordHalf (d : DWord) (hi : Bool) : Word := BitVec.ofNat 32 (if hi then d.toNat / 2 ^ 32 else d.toNat)
/-- A word with one 32-bit half replaced. -/
def setHalf (d : DWord) (hi : Bool) (v : Word) : DWord :=
  if hi then BitVec.ofNat 64 (d.toNat % 2 ^ 32 + v.toNat * 2 ^ 32) else BitVec.ofNat 64 (d.toNat / 2 ^ 32 * 2 ^ 32 + v.toNat)

/-- A window read of the 32-bit half at byte offset `off`: value, bad parity, state. A bank that is not ON refuses
the request (R153). -/
def windowRead (off : Nat) (s : State) : Word × Bool × State :=
  if !bankOn s (off / 262144) then (0, true, s)
  else
    let (v, t) := pmRead (off / 8) s
    (wordHalf v.data (off % 8 ≥ 4), v.bad, t)

/-- A window write of a 32-bit half; true when it is refused. -/
def windowWrite (off : Nat) (v : Word) (winro : Bool) (s : State) : Bool × State :=
  if winro || inEnabledQueue s off then (true, countEv 6 s)
  else if !bankOn s (off / 262144) then (true, s)
  else
    let (o, t) := pmRead (off / 8) s
    (false, pmPut (off / 8) { data := setHalf o.data (off % 8 ≥ 4) v, bad := o.bad } t)

/-- SCRUB_READ: the next 32-byte block of a bank, after an upset of the words in `upset`. -/
def scrubRead (b : Fin 16) (upset : BitVec 4) (s : State) : State :=
  if bit (regv s 0x31008) 0 && bankOn s b.val then
    let pos := Tbl.get s.qm.scrubPos b % 8192
    let w := b.val * 32768 + pos * 4
    let s1 := (List.range 4).foldl (fun t i =>
      if upset.getLsbD i then pmPut (w + i) { pmGet t (w + i) with bad := !(pmGet t (w + i)).bad } t else t) s
    let s2 := (List.range 4).foldl (fun t i => (pmRead (w + i) t).2) s1
    { s2 with qm := { s2.qm with scrubPos := Tbl.put s2.qm.scrubPos b ((pos + 1) % 8192) } }
  else s

end Sys2Proof.Machine
end

