-- ==== Sys2Proof/Machine/Record.lean ====
section
/-!
DEFINITION. The producing side of the journal: records are placed in Q57 as 64-byte items (R362 to R364),
and the lifetime counters (R366).
-/

namespace Sys2Proof.Machine

open Sys2Proof

/-- OBJ codes of R363. -/
def objSlot (p : Nat) : Nat := p + 1
def objUp (u : Nat) : Nat := 25 + u
def objFab (f : Nat) : Nat := 28 + f
def objVirt (v : Nat) : Nat := 32 + v
def objPe (n : Nat) : Nat := 48 + n
def objGroup (g : Nat) : Nat := 56 + g
def objXbar : Nat := 60
def objFlash : Nat := 61
def objAo : Nat := 62
/-- SOURCE of a record the device writes on its own. -/
def srcDevice : Nat := 0x10

/-- The 64 bytes of a record before PE7 assigns SEQ, BOOTS and CRC (R363). -/
def recordBytes (type sub src obj reason : Nat) (late unclean : Bool) (data : List Byte) (s : State) : List Byte :=
  [0, 0, 0, 0, BitVec.ofNat 8 type, BitVec.ofNat 8 sub, BitVec.ofNat 8 src, BitVec.ofNat 8 obj] ++
  le32 s.ao.calSec.toNat ++ le16 (s.ao.calSub % 32768) ++
  [BitVec.ofNat 8 (s.ao.calQual % 4 + 4 * b2n s.time.tbEst + 8 * b2n late + 16 * b2n unclean), BitVec.ofNat 8 reason] ++
  leBytes s.time.tb.toNat 6 ++ le16 (s.fab.addr.toNat) ++ padTo 32 data ++ List.replicate 8 0

/-- Place a record in Q57; LATE while PE7 is not running (R374). A queue that cannot take it drops it under R129. -/
def journal (type sub src obj reason : Nat) (data : List Byte) (s : State) : State :=
  (qEnqueue 57 64 true true 0 (recordBytes type sub src obj reason (!peRuns s 7) false data s) false s).2

/-- Add one to a saturating lifetime counter (R366). -/
def lifeAdd (n : Nat) : Nat := min 0xFFFFFFFF (n + 1)
/-- OD 0x5420 sub `k` + 1. -/
def lifeInc (k : Fin 12) (s : State) : State := { s with jr := { s.jr with life := Tbl.upd s.jr.life k lifeAdd } }
/-- OD 0x5421: entry of a slot to ON. -/
def lifeOn (p : Fin 24) (s : State) : State := { s with jr := { s.jr with lifeOn := Tbl.upd s.jr.lifeOn p lifeAdd } }
/-- OD 0x5422: trip of a slot. -/
def lifeTrip (p : Fin 24) (s : State) : State := { s with jr := { s.jr with lifeTrip := Tbl.upd s.jr.lifeTrip p lifeAdd } }
/-- OD 0x5423: cut-off of a slot. -/
def lifeCut (p : Fin 24) (s : State) : State := { s with jr := { s.jr with lifeCut := Tbl.upd s.jr.lifeCut p lifeAdd } }

/-- A FORWARD record (TYPE 0x06). -/
def journalForward (sub obj reason : Nat) (halted queue : Nat) (injected : Bool) (s : State) : State :=
  journal 6 sub srcDevice obj reason (le32 halted ++ [BitVec.ofNat 8 queue, if injected then 1 else 0]) s

/-- A CONFIG record (TYPE 0x0A): refusals name the base of the refusing block. -/
def journalConfig (sub src obj reason base : Nat) (s : State) : State :=
  journal 10 sub src obj reason (le32 base ++ le32 s.regs.crcCur.toNat ++ le32 (regv s 0x100).toNat) s

end Sys2Proof.Machine
end

