-- ==== Sys2Proof/Machine/Egress.lean ====
section
/-!
DEFINITION. Egress ports: counters, stomps, and the flush of an egress queue with the packet it ends
(R98, R106, R130).
-/

namespace Sys2Proof.Machine

open Sys2Proof

/-- Change the counters of a crosspoint port. -/
def updXp (x : Fin 33) (f : XpCnt → XpCnt) (s : State) : State := { s with xb := { s.xb with cnt := Tbl.upd s.xb.cnt x f } }
/-- 16-bit saturating count. -/
def sat16 (n : Nat) : Nat := min 0xFFFF (n + 1)
/-- UNROUTE of an ingress port (R93). -/
def unroute (x : Fin 33) (s : State) : State := updXp x (fun c => { c with unroute := sat16 c.unroute }) s

/-! ## Keystone requests -/

/-- Egress point of a crosspoint port. -/
def egressPoint (x : Fin 33) : Fin 49 := ⟨16 + x.val, by omega⟩

/-- Raise a request at a point, unless that requester already waits or holds there (R142). -/
def raiseReq (pt : Fin 49) (r : Fin 48) (s : State) : State :=
  if s.arb.waits.any (fun w => w.point = pt && w.req = r) || (Tbl.get s.arb.points pt).holder = some r then s
  else { s with arb := { s.arb with waits := s.arb.waits ++ [{ point := pt, req := r, raised := s.arb.cyc, warned := false }] } }

/-- An egress queue with a readable item asks for its egress point (R143). -/
def raiseEgress (x : Fin 33) (s : State) : State :=
  let q : Fin 64 := ⟨x.val, by omega⟩
  if x.val ≤ 30 && qEn s q && qLevel s q > 0 then raiseReq (egressPoint x) 43 s else s

/-- R98: STOMP, EV21, and a journal record for the first such packet on the port in a device tick. `reason` 0 is
poison, 1 abort. -/
def stompCount (x : Fin 33) (reason : Nat) (s : State) : State :=
  let s1 := countEv 21 (updXp x (fun c => { c with stomp := sat16 c.stomp }) s)
  if s1.xb.stompTick.getLsbD x.val then s1
  else journalForward 3 objXbar reason 0 x.val false
    { s1 with xb := { s1.xb with stompTick := s1.xb.stompTick ||| BitVec.ofNat 33 (2 ^ x.val) } }

/-- The crosspoint ports on which a stomped packet is closed by an inverted CRC (XP0 to XP30); engines read XP31
and XP32 items by dequeue. -/
def wirePort (x : Fin 33) : Bool := x.val ≤ 30

/-- End the packet an egress port is transmitting as R98 states; its egress point is free. -/
def stompTx (x : Fin 33) (reason : Nat) (s : State) : State :=
  match Tbl.get s.xb.tx x with
  | .idle => s
  | t =>
    let b := match t with | .bytes b => b | _ => []
    let s1 := { s with xb := { s.xb with tx := Tbl.put s.xb.tx x .idle } }
    let pt : Fin 49 := ⟨16 + x.val, by omega⟩
    let s2 := { s1 with arb := { s1.arb with points := Tbl.upd s1.arb.points pt fun p => { p with holder := none } } }
    if wirePort x then stompCount x reason (s2.emit [.packet x b true]) else s2

/-- A flush ends the queue's item that an egress port is transmitting, under R98. -/
def stompItem (q : Fin 64) (s : State) : State :=
  if h : q.val < 33 then
    (match Tbl.get s.xb.tx ⟨q.val, h⟩ with | .item => stompTx ⟨q.val, h⟩ 1 s | .idle | .bytes _ => s)
  else s
/-- FLUSH with its effect on the consumer: an egress packet in transmission ends under R98. -/
def flushQueue (q : Fin 64) (s : State) : State := if !qEn s q then s else queueFlush q (stompItem q s)
/-- A write to QM_Qn_CMD, the egress packet that its FLUSH ends included. -/
def queueCommand (q : Fin 64) (v : Word) (s : State) : State :=
  qCommand q v (if bit v 0 && qEn s q then stompItem q s else s)

/-- EGRESS_STALL (R106): the port's queue is not empty and the check is enabled. -/
def egressStall (x : Fin 33) (s : State) : State :=
  if h : x.val ≤ 30 then
    let q : Fin 64 := ⟨x.val, by omega⟩
    if min 800 (fld (regv s 0x40008) 9 0) ≠ 0 && qEn s q && qLevel s q > 0 then
      journalForward 4 objXbar 0 0 x.val false
        (countEv 22 (updXp x (fun c => { c with stall := sat16 c.stall }) (flushQueue q s)))
    else s
  else s

/-- CUT_THROUGH_WAIT_EXPIRED (R124): the egress port ends the packet as an abort and the rest of the item is
discarded as it is written. -/
def cutWaitExpired (x : Fin 33) (s : State) : State :=
  let q : Fin 64 := ⟨x.val, by omega⟩
  match Tbl.get s.xb.tx x, (queue s q).cur with
  | .item, some c =>
    if qCut s q && c.bank = (queue s q).cons && c.off = (queue s q).rpos then
      let s1 := updQueue q (fun y =>
        { (y.bank c.bank fun k => { k with fill := c.off, done := c.off }) with cur := none, skip := some c.prod, mid := none }) s
      stompTx x 1 (qWatermark q s1)
    else s
  | _, _ => s

end Sys2Proof.Machine
end

