-- ==== Sys2Proof/Machine/Fabric.lean ====
section
/-!
DEFINITION. Fabric link layer: frames, flow control, traffic classes, port states and the forwarding of transit
frames (R211 to R221, R230).
-/

namespace Sys2Proof.Machine

open Sys2Proof

/-! ## Frames (R212 to R214) -/

/-- Fields of a header word. -/
structure FHdr where
  fclass : Nat
  tc : Nat
  dst : Nat
  src : Nat
  ttl : Nat
  len : Nat
  alt : Bool
deriving DecidableEq, Repr

/-- The header word less HCRC. -/
def FHdr.low (h : FHdr) : Nat :=
  h.fclass % 16 + 16 * (h.tc % 4) + 2 ^ 6 * (h.dst % 4096) + 2 ^ 18 * (h.src % 4096) + 2 ^ 30 * (h.ttl % 64) +
  2 ^ 36 * (h.len % 256) + (if h.alt then 2 ^ 44 else 0)
/-- The eight bytes of a header word, HCRC computed (R212). -/
def FHdr.bytes (h : FHdr) : List Byte :=
  let b := leBytes h.low 6
  b ++ le16 (crc16 b).toNat
/-- The header fields of eight bytes. -/
def FHdr.ofBytes (b : List Byte) : FHdr :=
  let n := ofLe (b.take 8)
  { fclass := n % 16, tc := n / 16 % 4, dst := n / 2 ^ 6 % 4096, src := n / 2 ^ 18 % 4096, ttl := n / 2 ^ 30 % 64,
    len := n / 2 ^ 36 % 256, alt := n / 2 ^ 44 % 2 = 1 }
/-- HCRC of eight header bytes is right. -/
def hcrcOk (b : List Byte) : Bool := (crc16 (b.take 6)).toNat == ofLe ((b.take 8).drop 6)
/-- FCRC of a body: CRC-32C, 0 for an empty body (R213). -/
def fcrc (body : List Byte) : Word := if body.isEmpty then 0 else crc32c body
/-- The bytes of a frame: header word, body words, trailer word. -/
def frameBytes (h : FHdr) (body : List Byte) : List Byte :=
  h.bytes ++ body ++ le32 (fcrc body).toNat ++ [0, 0, 0, 0]
/-- A body padded to whole words. -/
def wordsOf (b : List Byte) : List Byte := padTo (up8 b.length) b
/-- Body of a frame. -/
def frameBody (b : List Byte) : List Byte := (b.drop 8).take (b.length - 16)
/-- FCRC of a frame is right. -/
def fcrcOk (b : List Byte) : Bool := (fcrc (frameBody b)).toNat == ofLe ((b.drop (b.length - 8)).take 4)
/-- R214: traffic classes a frame class permits. -/
def tcPermitted (fclass tc : Nat) : Bool :=
  match fclass with
  | 0 => 1 ≤ tc && tc ≤ 3
  | 1 | 2 | 6 => tc = 1
  | 3 | 4 | 5 => tc = 0
  | _ => false
/-- R214: SRC 0x000 permitted, by class and SUB of the body. -/
def srcPermitted (fclass sub src : Nat) : Bool := src ≠ 0 || (fclass = 3 && (sub = 1 || sub = 3))

/-! ## Ports and counters -/

/-- A fabric port. -/
def fport (s : State) (f : Fin 4) : FPortS := Tbl.get s.fab.port f
/-- Change a fabric port. -/
def updFport (f : Fin 4) (g : FPortS → FPortS) (s : State) : State :=
  { s with fab := { s.fab with port := Tbl.upd s.fab.port f g } }
/-- 8-bit saturating count. -/
def sat8 (n : Nat) : Nat := min 255 (n + 1)
/-- Crosspoint port of a fabric port. -/
def fabXp (f : Fin 4) : Fin 33 := ⟨27 + f.val, by omega⟩
/-- Egress queue of a fabric port. -/
def fabQ (f : Fin 4) : Fin 64 := ⟨27 + f.val, by omega⟩
/-- EN of FAB_Fn_CTL. -/
def fabEn (s : State) (f : Fin 4) : Bool := bit (regv s (0x90100 + 0x40 * f.val)) 0
/-- COST, 0 acts as 1. -/
def fabCost (s : State) (f : Fin 4) : Nat := max 1 (fld (regv s (0x90100 + 0x40 * f.val)) 31 16)
/-- The port counts as UP for forwarding (R221). -/
def fabUp (s : State) (f : Fin 4) : Bool := (fport s f).st == .up
/-- FAB_LINKMASK.DOWN (R221). -/
def linkMask (s : State) : Nat := (allFin 4).foldl (fun n f => n + (if fabUp s f then 0 else 2 ^ f.val)) 0
/-- TC0_CAP, block times (R218). -/
def tc0Cap (s : State) : Nat := min 19000 (max 100 (fld (regv s 0x90014) 14 0))
/-- TC2_ADMIT, bytes (R217). -/
def tc2Admit (s : State) : Nat := min 128 (max 8 (fld (regv s 0x90014) 23 16)) * 256
/-- Block times of a frame (R211). -/
def blockTimes (b : List Byte) : Nat := b.length / 8 + 3

/-- A FABRIC record (TYPE 0x08). -/
def journalFabric (sub obj reason : Nat) (addr : BitVec 12) (uid : DWord) (snapId : Word) (s : State) : State :=
  journal 8 sub srcDevice obj reason (le16 addr.toNat ++ leBytes uid.toNat 8 ++ le32 snapId.toNat) s

/-! ## Egress (R217, R218) -/

/-- The partner has stopped a class. -/
def tcStopped (s : State) (f : Fin 4) (tc : Nat) : Bool := (fport s f).stopRx.getLsbD tc
/-- Frames are sent in PROBE, UP and TRAIN; other classes than TC0 need UP through the route lookup. -/
def tc0Sends (s : State) (f : Fin 4) : Bool :=
  match (fport s f).st with
  | .train | .probe | .up => true
  | _ => false
/-- Start the TC0 frames that the cap of the frame period and the partner allow, oldest first. -/
def tc0Run (f : Fin 4) : Nat → State → State
  | 0, s => s
  | n + 1, s =>
    match (fport s f).tc0 with
    | [] => s
    | b :: rest =>
      if tc0Sends s f && !tcStopped s f 0 && (fport s f).tc0Used < tc0Cap s then
        tc0Run f n ((updFport f (fun p => { p with tc0 := rest, tc0Used := p.tc0Used + blockTimes b }) s).emit [.frame f b])
      else s
/-- Start every TC0 frame that may start. -/
def tc0Drain (f : Fin 4) (s : State) : State := tc0Run f (fport s f).tc0.length s
/-- Bytes in the TC0 buffer of 4 KiB. -/
def tc0Bytes (s : State) (f : Fin 4) : Nat := (fport s f).tc0.foldl (fun n b => n + b.length) 0
/-- Place a frame in the TC0 buffer; false when it is full. -/
def tc0Put (f : Fin 4) (b : List Byte) (s : State) : Bool × State :=
  if 4096 < tc0Bytes s f + b.length then (false, s)
  else (true, tc0Drain f (updFport f (fun p => { p with tc0 := p.tc0 ++ [b] }) s))

/-- Place a frame of TC1 to TC3 in the egress queue of a port (R217). -/
def fabEnqueue (f : Fin 4) (tc prod : Nat) (b : List Byte) (poison : Bool) (s : State) : Nat × State :=
  if tc = 2 && tc2Admit s < qLevel s (fabQ f) then (qNOCREDIT, s)
  else
    let (st, s1) := qEnqueue (fabQ f) prod true true 0 b poison s
    (st, if st = qOK then raiseEgress (fabXp f) s1 else s1)

/-! ## Routes (R229, R230) -/

/-- Reset value of a route entry: PRI 7, ALTP 7, DIST 0xFFFF. -/
def routeReset (_ : Nat) : Word := 0xFFFF003F
/-- Entry of the bank the core reads, or of the other. -/
def routeEntry (s : State) (shadow : Bool) (m : Nat) : Word :=
  Sparse.get routeReset (if s.fab.rtActive != shadow then s.fab.rt1 else s.fab.rt0) m
/-- Write an entry of the shadow bank. -/
def routePut (m : Nat) (v : Word) (s : State) : State :=
  if s.fab.rtActive then { s with fab := { s.fab with rt0 := Sparse.put routeReset s.fab.rt0 m v } }
  else { s with fab := { s.fab with rt1 := Sparse.put routeReset s.fab.rt1 m v } }

/-- Outcome of a lookup (R230). -/
inductive Route where
  | port (f : Fin 4) (alt : Bool)
  | here
  | none
deriving DecidableEq, Repr

/-- A port number of a route entry. -/
def routePort (n : Nat) : Option (Fin 4) := if h : n < 4 then some ⟨n, h⟩ else none
/-- R230: lookup of a destination for a frame whose ALT is `alt`. -/
def lookup (s : State) (dst : Nat) (alt : Bool) : Route :=
  let e := routeEntry s false dst
  if fld e 2 0 = 4 then .here
  else match routePort (fld e 2 0) with
    | some f =>
      if fabUp s f then .port f alt
      else if alt then .none
      else (match routePort (fld e 5 3) with
        | some g => if fabUp s g then .port g true else .none
        | none => .none)
    | none => .none
/-- ALTFWD of the failed port counts when a frame takes the alternate. -/
def altCount (dst : Nat) (s : State) : State :=
  match routePort (fld (routeEntry s false dst) 2 0) with
  | some f => updFport f (fun p => { p with altFwd := sat8 p.altFwd }) s
  | none => s

/-! ## Port states (R220) -/

/-- FSDn is ON (R220). -/
def fsdOn (s : State) (f : Fin 4) : Bool := domainOn s (fsdDomain f)
/-- A port takes the state DOWN. -/
def FPortS.toDown (p : FPortS) : FPortS :=
  { p with st := .down, rfRun := 0, creditRun := 0, helloOk := false, partnerSeen := false, seen0 := 0, cand := none, delays := [],
           dreqT1 := none }
/-- Leave UP: queue flushed, EV30, record, exit counted (R220). -/
def leaveUp (f : Fin 4) (reason : Nat) (off : Bool) (s : State) : State :=
  let p := fport s f
  let s1 := updFport f (fun p => { p.toDown with st := if off then .off else .down, reason := reason, downs := sat8 p.downs }) s
  let s2 := flushQueue (fabQ f) { s1 with fab := { s1.fab with lsDue := true } }
  journalFabric 2 (objFab f.val) reason p.nbrAddr p.nbrUid 0 (lifeInc 7 (countEv 30 s2))
/-- The "any" row and the OFF row of R220, evaluated when EN or the domain changes. -/
def fabPortEval (f : Fin 4) (s : State) : State :=
  let p := fport s f
  let on := fabEn s f && fsdOn s f
  if p.st == .off then (if on then updFport f (fun p => p.toDown) s else s)
  else if on then s
  else if p.st == .up then leaveUp f 7 true s
  else updFport f (fun p => { p.toDown with st := .off }) s
/-- BLOCK_LOCK_ACQUIRED. -/
def blockLock (f : Fin 4) (s : State) : State :=
  if (fport s f).st == .down then updFport f (fun p => { p with st := .train, creditRun := 0, helloOk := false }) s else s
/-- TRAIN_TIMEOUT and PROBE_TIMEOUT. -/
def trainTimeout (f : Fin 4) (s : State) : State :=
  if (fport s f).st == .train then updFport f FPortS.toDown s else s
/-- PROBE_TIMEOUT. -/
def probeTimeout (f : Fin 4) (s : State) : State :=
  if (fport s f).st == .probe then updFport f FPortS.toDown s else s
/-- PROBE_COMPLETE. -/
def probeComplete (f : Fin 4) (s : State) : State :=
  let p := fport s f
  if p.st == .probe && p.partnerSeen && !p.delays.isEmpty then
    let s1 := updFport f (fun p => { p with st := .up, seen0 := 0 }) { s with fab := { s.fab with lsDue := true } }
    raiseEgress (fabXp f) (journalFabric 1 (objFab f.val) p.reason p.nbrAddr p.nbrUid 0 s1)
  else s
/-- LOSS_OF_SIGNAL: Fn_LOS asserted, or block lock lost, for LOS_DB. -/
def lossOfSignal (f : Fin 4) (lock : Bool) (s : State) : State :=
  if (fport s f).st == .up then leaveUp f (if lock then 2 else 1) false s else s
/-- REMOTE_FAULT. -/
def remoteFault (f : Fin 4) (s : State) : State :=
  if (fport s f).st == .up && 2 ≤ (fport s f).rfRun then leaveUp f 3 false s else s
/-- HELLO_DEAD. -/
def helloDead (f : Fin 4) (s : State) : State := if (fport s f).st == .up then leaveUp f 4 false s else s
/-- Entry to FAULT. -/
def fabFault (f : Fin 4) (reason : Nat) (s : State) : State := updFport f (fun p => { p.toDown with st := .fault, reason := reason }) s
/-- FAULT_HOLD_EXPIRED. -/
def faultHold (f : Fin 4) (s : State) : State :=
  if (fport s f).st == .fault then updFport f FPortS.toDown s else s

/-! ## Flow control (R215) -/

/-- Bytes in the ingress FIFO of a class. -/
def fifoBytes (p : FPortS) (tc : Fin 4) : Nat := p.fifo.foldl (fun n h => if h.tc = tc then n + h.bytes.length else n) 0
/-- STOP bits a port sends: set above 2,048 bytes, cleared at 1,024 or fewer; all during a lockstep halt. -/
def stopBits (s : State) (f : Fin 4) : BitVec 4 :=
  let p := fport s f
  if s.xb.st != .run then 15
  else BitVec.ofNat 4 ((allFin 4).foldl (fun n c =>
    let b := fifoBytes p c
    n + (if 2048 < b || (1024 < b && p.stopTx.getLsbD c.val) then 2 ^ c.val else 0)) 0)
/-- CREDIT_BLOCK_SEND. -/
def creditSend (f : Fin 4) (s : State) : State :=
  let p := fport s f
  if p.st == .off then s
  else
    let b := stopBits s f
    (updFport f (fun p => { p with stopTx := b }) s).emit [.credit f b.toNat (p.st == .down)]
/-- CREDIT_BLOCK_RECEIVE. -/
def creditReceive (f : Fin 4) (stop : BitVec 4) (rf : Bool) (s : State) : State :=
  let p := fport s f
  if p.st == .off then s
  else tc0Drain f (raiseEgress (fabXp f) (updFport f (fun p =>
    { p with stopRx := stop, rfRun := if rf then min 2 (p.rfRun + 1) else 0, creditRun := min 16 (p.creditRun + 1) }) s))
/-- A new frame period (R217). -/
def framePeriod (s : State) : State :=
  eachFin 4 (fun f t => tc0Drain f (updFport f (fun p => { p with tc0Used := 0 }) t)) s

end Sys2Proof.Machine
end

