-- ==== Sys2Proof/Machine/Channel.lean ====
section
/-!
DEFINITION. The export block's hardware: CTRL messages, bulk channels, interrupt-IN relays, and what the port
functions tell the proxies (R255, R258 to R268, R270).
-/

namespace Sys2Proof.Machine

open Sys2Proof

/-! ## Sending a frame (R212, R217, R230) -/

/-- Producer number of PE6. -/
def prodPe6 : Nat := 39
/-- Send a frame of this node to a node; discarded without a route. -/
def frameSend (fclass tc dst prod : Nat) (body : List Byte) (badCrc : Bool) (s : State) : Nat × State :=
  let h (alt : Bool) : FHdr := { fclass := fclass, tc := tc, dst := dst, src := s.fab.addr.toNat, ttl := 32, len := body.length / 8, alt := alt }
  match lookup s dst false with
  | .port f alt =>
    let s1 := if alt then altCount dst s else s
    let b := frameBytes (h alt) body
    if badCrc then (qOK, s1.emit [.packet (fabXp f) b true])
    else fabEnqueue f tc prod b false s1
  | .here | .none => (qOK, s)
/-- A TC2 frame of a channel leaves at once on the port its route names (R217, R218). -/
def frameOut (fclass tc dst : Nat) (body : List Byte) (badCrc : Bool) (s : State) : State :=
  match lookup s dst false with
  | .port f alt =>
    let s1 := if alt then altCount dst s else s
    let b := frameBytes { fclass := fclass, tc := tc, dst := dst, src := s.fab.addr.toNat, ttl := 32, len := body.length / 8, alt := alt } body
    if badCrc then s1.emit [.packet (fabXp f) b true] else s1.emit [.frame f b]
  | .here | .none => s

/-! ## CTRL messages (R258 to R260) -/

/-- Word 1 of a CTRL frame. -/
def ctrlWord (op : Byte) (slot : Nat) (tag : Half) (dlen status : Nat) : List Byte :=
  leBytes (op.toNat + 2 ^ 8 * (slot % 256) + 2 ^ 16 * tag.toNat + 2 ^ 32 * dlen + 2 ^ 44 * status) 8
/-- Body of one CTRL frame: word 1 and the padded content. -/
def ctrlBody (op : Byte) (slot : Nat) (tag : Half) (status : Nat) (content : List Byte) : List Byte :=
  ctrlWord op slot tag content.length status ++ wordsOf content
/-- Send the frames of a message. -/
def ctrlFrames (peer : BitVec 12) (op : Byte) (slot : Nat) (tag : Half) (status : Nat) (fs : List (List Byte)) (s : State) : State :=
  fs.foldl (fun t c => (frameSend 2 1 peer.toNat prodPe6 (ctrlBody op slot tag status c) false t).2) s
/-- Cut data into parts. -/
def chunks (n : Nat) : Nat → List Byte → List (List Byte)
  | 0, _ => []
  | k + 1, l => if l.length ≤ n then [l] else l.take n :: chunks n k (l.drop n)
/-- Word 2 of REQ and RSP. -/
def partWord (off total : Nat) (last : Bool) : List Byte := leBytes (off + 2 ^ 16 * b2n last + 2 ^ 32 * total) 8
/-- The frames of a message that carries data in parts of `n` bytes behind `head` in each. -/
def partFrames (n : Nat) (head data : List Byte) : List (List Byte) :=
  let ps := chunks n (data.length / n + 1) data
  ps.zipIdx.map fun x => partWord (x.2 * n) data.length (x.2 + 1 == ps.length) ++ head ++ x.1
/-- A new message, resent until its answer arrives (R260). -/
def ctrlSend (peer : BitVec 12) (op : Byte) (slot : Nat) (fs : List (List Byte)) (s : State) : Half × State :=
  let t := s.xpt.tag + 1
  let s1 := { s with xpt := { s.xpt with tag := t, msgs := s.xpt.msgs ++ [{ peer := peer, slot := slot, tag := t, op := op, frames := fs }] } }
  (t, ctrlFrames peer op slot t 0 fs s1)
/-- An answer: the OP with bit 7 set. -/
def ctrlReply (peer : BitVec 12) (op : Byte) (slot : Nat) (tag : Half) (status : Nat) (fs : List (List Byte)) (s : State) : State :=
  ctrlFrames peer (op ||| 0x80) slot tag status fs s
/-- An answer has arrived: the message is resent no more. -/
def ctrlAnswered (peer : BitVec 12) (op : Byte) (slot : Nat) (tag : Half) (s : State) : State :=
  { s with xpt := { s.xpt with
    msgs := s.xpt.msgs.filter fun m => !(m.peer = peer && m.slot = slot && m.tag = tag && (m.op ||| 0x80) = (op ||| 0x80)) } }
/-- CTRL_RESEND of the message with a TAG. -/
def ctrlResend (tag : Half) (s : State) : State :=
  match s.xpt.msgs.find? fun m => m.tag = tag with
  | some m => ctrlFrames m.peer m.op m.slot m.tag 0 m.frames s
  | none => s

/-! ## Export and import records -/

def exps (s : State) (p : Fin 24) : ExpS := Tbl.get s.xpt.exp p
def updExp (p : Fin 24) (f : ExpS → ExpS) (s : State) : State := { s with xpt := { s.xpt with exp := Tbl.upd s.xpt.exp p f } }
def imp (s : State) (v : Fin 16) : ImpS := Tbl.get s.xpt.imp v
def updImp (v : Fin 16) (f : ImpS → ImpS) (s : State) : State := { s with xpt := { s.xpt with imp := Tbl.upd s.xpt.imp v f } }
/-- OD 0x4810: exporter address, slot, enable. -/
def impAddr (s : State) (v : Fin 16) : BitVec 12 := BitVec.ofNat 12 (odNum s 0x4810 (v.val + 1))
def impSlot (s : State) (v : Fin 16) : Nat := odNum s 0x4810 (v.val + 1) / 2 ^ 12 % 32
def impOn (s : State) (v : Fin 16) : Bool := (odNum s 0x4810 (v.val + 1)).testBit 31
/-- The import is bound (R253). -/
def importBound (s : State) (v : Nat) : Bool :=
  if h : v < 16 then
    (match (imp s ⟨v, h⟩).st with
     | .bound | .noSpeed => true
     | _ => false)
  else false
/-- Virtual slot of a topology entry. -/
def virtOf (e : Fin 40) : Option (Fin 16) := if h : 24 ≤ e.val then some ⟨e.val - 24, by omega⟩ else none

/-- Send a message for an import, if it is bound. -/
def impSend (v : Fin 16) (op : Byte) (fs : List (List Byte)) (s : State) : Half × State :=
  ctrlSend (impAddr s v) op (impSlot s v) fs s
/-- Put a word 2 with a small value. -/
def word2 (n : Nat) : List Byte := leBytes n 8

/-- A forwarded request of a virtual port is aborted: ABORT sent (R73, R74). -/
def impAbort (v : Fin 16) (s : State) : State :=
  match (imp s v).req with
  | some r =>
    let s1 := updImp v (fun i => { i with req := none }) s
    let s2 := ctrlAnswered (impAddr s v) 0x01 (impSlot s v) r.tag s1
    -- ABORT carries the TAG of the request it aborts
    let s3 := { s2 with xpt := { s2.xpt with msgs := s2.xpt.msgs ++
      [{ peer := impAddr s v, slot := impSlot s v, tag := r.tag, op := 0x10, frames := [[]] }] } }
    ctrlFrames (impAddr s v) 0x10 (impSlot s v) r.tag 0 [[]] s3
  | none => s

/-- PORT_RESET or BH_PORT_RESET of a virtual port (R270): 0 USB 2.0, 1 hot, 2 warm. -/
def xptPortReset (e : Fin 40) (kind : Nat) (s : State) : State :=
  match virtOf e with
  | some v =>
    if importBound s v.val then
      let s1 := updImp v (fun i => { i with req := none, config := 0, alts := [], rwEnable := false, halts := [] }) s
      let s2 := match (imp s v).req with
        | some r => ctrlAnswered (impAddr s v) 0x01 (impSlot s v) r.tag s1
        | none => s1
      let (t, s3) := impSend v 0x20 [word2 kind] s2
      updImp v (fun i => { i with resetOf := some (t, ⟨kind % 3, Nat.mod_lt _ (by decide)⟩) }) s3
    else s
  | none => s
/-- The host clears PORT_POWER of a virtual port (R270): RESET with kind 3. -/
def xptPortPowerOff (e : Fin 40) (s : State) : State :=
  match virtOf e with
  | some v => if importBound s v.val then (impSend v 0x20 [word2 3] s).2 else s
  | none => s
/-- A virtual port is suspended or resumed (R270). -/
def xptPortSuspend (e : Fin 40) (s : State) : State :=
  match virtOf e with
  | some v => if importBound s v.val then (impSend v 0x30 [[]] s).2 else s
  | none => s
def xptPortResume (e : Fin 40) (s : State) : State :=
  match virtOf e with
  | some v => if importBound s v.val then (impSend v 0x31 [[]] s).2 else s
  | none => s
/-- The device of an import is on the SuperSpeed half. -/
def Speed.isSS : Speed → Bool
  | .gen1 | .gen2 => true
  | _ => false
/-- A reset or link loss of one half of a tree aborts the forwarded requests of its virtual ports (R73, R270). -/
def xptAbortTree (u : Fin 3) (hs : Bool) (s : State) : State :=
  eachFin 16 (fun v t =>
    if fld (regv s (0x57000 + 4 * (24 + v.val))) 2 0 = u.val + 1 && (imp t v).speed.isSS != hs then impAbort v t else t) s

/-! ## Channel settings (R272) -/

def chan (s : State) (n : Fin 48) : ChanS := Tbl.get s.xpt.chan n
def updChan (n : Fin 48) (f : ChanS → ChanS) (s : State) : State := { s with xpt := { s.xpt with chan := Tbl.upd s.xpt.chan n f } }
/-- Address of a BIND register; EP follows it. -/
def bindAddr (n : Nat) : Nat := if n < 16 then 0xA0100 + 0x20 * n else 0xA0400 + 0x10 * (n - 16)
def bindReg (s : State) (n : Fin 48) : Word := regv s (bindAddr n.val)
def bindEn (s : State) (n : Fin 48) : Bool := bit (bindReg s n) 0
def bindPeer (s : State) (n : Fin 48) : BitVec 12 := BitVec.ofNat 12 (fld (bindReg s n) 15 4)
def bindPchan (s : State) (n : Fin 48) : Nat := fld (bindReg s n) 21 16
/-- The end receives: DIR 1 of a channel, and the importer's side of a relay. -/
def receives (s : State) (n : Fin 48) : Bool := bit (bindReg s n) 1
/-- Interrupt OUT (PACED) and relays use TC1. -/
def chanTc (s : State) (n : Fin 48) : Nat := if 16 ≤ n.val || bit (bindReg s n) 2 then 1 else 2
def epReg (s : State) (n : Fin 48) : Word := regv s (bindAddr n.val + 4)
def epMps (s : State) (n : Fin 48) : Nat := fld (epReg s n) 26 16
/-- Queue of a channel. -/
def chanQ (n : Fin 48) : Fin 64 := ⟨32 + n.val % 16, by omega⟩
def burstLen (s : State) : Nat := min 16 (max 1 (fld (regv s 0xA0004) 19 15))
def replayLim (s : State) : Nat := max 1 (fld (regv s 0xA0004) 14 10)
/-- The engine that holds VSLOT has a topology entry with the endpoint (CHFAIL names the slot). -/
def chanSlot (s : State) (n : Fin 48) : Nat :=
  let e := fld (epReg s n) 5 0
  if e < 24 then e + 1 else if h : e - 24 < 16 then impSlot s ⟨e - 24, h⟩ else 0

/-! ## Opening, closing, failing (R266) -/

def chanZero : ChanS :=
  { st := .closed, seq := 0, markSeq := 0, unack := 0, pwin := 0, strikes := 0, burst := 0, replays := 0, dup := 0, ooo := 0,
    discard := 0, nakDone := false, since := 0, reports := [] }
/-- Mailbox queue an engine names. -/
def mboxOf (s : State) (n : Fin 8) : Fin 64 := ⟨fld (regv s (0x804 + 0x20 * n.val)) 29 24 % 64, Nat.mod_lt _ (by decide)⟩
/-- A claimant of higher precedence names the mailbox queue of an engine (R330). -/
def mboxTaken (s : State) (n : Fin 8) : Bool :=
  let q := (mboxOf s n).val
  q < 32 || (match (allFin 48).find? (fun k => decide (k.val < 16 ∧ 32 + k.val = q)) with | some k => bindEn s k | none => false) ||
  (allFin 8).any fun k => k.val < n.val && mboxOf s k = mboxOf s n && !(eng s k).mboxLost
/-- Mailbox claims are resolved (R331): each new loser counts EV11. -/
def claimMailboxes (s : State) : State :=
  eachFin 8 (fun n t =>
    if !(eng t n).mboxLost && mboxTaken t n then countEv 11 (updEng n (fun e => { e with mboxLost := true }) t) else t) s
/-- QM_Qn_CTL.CONFLICT: a mailbox that names the queue has lost it. -/
def mboxConflict (s : State) (q : Fin 64) : Bool := (allFin 8).any fun n => (eng s n).mboxLost && mboxOf s n = q
/-- EN set: the channel opens at SEQ 0 with its counters clear, and a data channel claims its queue. -/
def chanOpen (n : Fin 48) (s : State) : State :=
  if (chan s n).st = .closed then
    let s1 := updChan n (fun _ => { chanZero with st := .open_ }) s
    if n.val < 16 then claimMailboxes s1 else s1
  else s
/-- EN cleared: queue flushed, mark cleared. -/
def chanClose (n : Fin 48) (s : State) : State :=
  if (chan s n).st = .closed then s
  else
    let s1 := updChan n (fun c => { c with st := .closed, unack := 0, reports := [] }) s
    if n.val < 16 then queueFlush (chanQ n) s1 else s1
/-- FAILED: sending stops, EV36, PE6 sends CHFAIL. -/
def chanFail (n : Fin 48) (s : State) : State :=
  let s1 := countEv 36 (updChan n (fun c => { c with st := .failed }) s)
  let isIn := (fld (epReg s n) 5 0 < 24) != receives s n
  let ep := fld (epReg s n) 11 8 + (if isIn then 128 else 0)
  (ctrlSend (bindPeer s n) 0x41 (chanSlot s n) [word2 ep] s1).2

/-! ## Sending (R263) -/

/-- Word 1 of a DATA frame. -/
def dataWord (seq : Byte) (pchan plen : Nat) (last fin : Bool) (kind : Nat) (tsrc : Word) : List Byte :=
  leBytes (seq.toNat + 2 ^ 8 * pchan + 2 ^ 16 * plen + 2 ^ 27 * b2n last + 2 ^ 28 * b2n fin + 2 ^ 29 * kind + 2 ^ 32 * tsrc.toNat) 8
/-- TB[31:0] at a capture, from the 24-bit timestamp of an item: the latest TB at or before now with those bits. -/
def captureTb (s : State) (ts : BitVec 24) : Word :=
  let now := s.time.tb.toNat / 8
  let back := (now + 2 ^ 24 - ts.toNat) % 2 ^ 24
  BitVec.ofNat 32 ((now - back) * 8)
/-- Items of a channel that may still be sent. -/
def sendWindow (s : State) (n : Fin 48) : Nat :=
  let w := qMarkWin s (chanQ n)
  min (min 32 (chan s n).pwin) (if w = 0 then 32 else w)
/-- CHANNEL_SEND: the next item leaves in one DATA frame while the window allows. -/
def channelSend (n : Fin 48) (s : State) : State :=
  let c := chan s n
  let q := chanQ n
  if 16 ≤ n.val || receives s n || !(c.st = .open_ || c.st = .replay) || sendWindow s n ≤ c.unack then s
  else
    let s0 := if c.unack = 0 then (qMark q s).2 else s
    let (d, s1) := qDequeue q 65528 s0
    if d.status = qOK ∨ d.status = qPOISON then
      let lastOne := (headAt (swapIfDue q s1) q).isNone
      let last := lastOne || burstLen s ≤ c.burst + 1
      let body := dataWord c.seq (bindPchan s n) d.data.length last (d.data.length < epMps s n) 0 (captureTb s d.ts) ++ wordsOf d.data
      let bad := d.poison
      let s2 := updChan n (fun c => { c with seq := c.seq + 1, unack := c.unack + 1, burst := if last then 0 else c.burst + 1 }) s1
      let s3 := if chanTc s n = 2 then frameOut 0 2 (bindPeer s n).toNat body bad s2
        else (frameSend 0 1 (bindPeer s n).toNat prodPe6 body bad s2).2
      if bad then chanFail n s3 else s3
    else s1

/-- Resend of a relay's reports from its mark. -/
def relayFrame (n : Fin 48) (seq : Byte) (r : List Byte) (s : State) : State :=
  (frameSend 0 1 (bindPeer s n).toNat prodPe6
    (dataWord seq (bindPchan s n) r.length true (r.length < epMps s n) 1 (BitVec.ofNat 32 s.time.tb.toNat) ++ wordsOf r) false s).2
/-- A replay: REWIND, and the next frames start at the mark (R266). -/
def chanReplay (n : Fin 48) (s : State) : State :=
  let c := chan s n
  if replayLim s ≤ c.strikes + 1 then chanFail n s
  else
    let s1 := updChan n (fun c => { c with
      st := .replay, seq := c.markSeq, unack := if 16 ≤ n.val then c.unack else 0, replays := sat8 c.replays, strikes := c.strikes + 1, burst := 0 }) s
    if 16 ≤ n.val then
      let s2 := c.reports.zipIdx.foldl (fun t x => relayFrame n (c.markSeq + BitVec.ofNat 8 x.2) x.1 t) s1
      updChan n (fun c => { c with seq := c.markSeq + BitVec.ofNat 8 c.reports.length }) s2
    else (qRewind (chanQ n) s1).2
/-- Move the mark to the item numbered `next`, if that lies between the mark and the send position. -/
def markTo (n : Fin 48) (next : Byte) (s : State) : State :=
  let c := chan s n
  let k := (next - c.markSeq).toNat
  if 0 < k ∧ k ≤ c.unack then
    let s1 := updChan n (fun c => { c with markSeq := next, unack := c.unack - k, strikes := 0, reports := c.reports.drop k }) s
    if 16 ≤ n.val then s1
    else if k = c.unack then (qMark (chanQ n) s1).2
    else qMarkForward (chanQ n) k c.unack s1
  else s
/-- CHANNEL_ACK_RECEIVE (R263, R266). -/
def ackReceive (n : Fin 48) (src : BitVec 12) (next : Byte) (nak : Bool) (win : BitVec 6) (s : State) : State :=
  let c := chan s n
  if !bindEn s n || bindPeer s n ≠ src || receives s n || !(c.st = .open_ || c.st = .replay) then s
  else
    let adv := 0 < (next - c.markSeq).toNat && (next - c.markSeq).toNat ≤ c.unack
    let s1 := updChan n (fun c => { c with pwin := win.toNat }) s
    if nak then
      let t := markTo n next s1
      chanReplay n (updChan n (fun x => { x with strikes := c.strikes }) t)
    else if adv then updChan n (fun c => { c with st := .open_ }) (markTo n next s1)
    else s1
/-- ACK_TIMEOUT: ACK_TO without an advancing ACK while items are unacknowledged. -/
def ackTimeout (n : Fin 48) (s : State) : State :=
  let c := chan s n
  if !receives s n && (c.st = .open_ || c.st = .replay) && 0 < c.unack then chanReplay n s else s

/-! ## Receiving (R264, R265) -/

/-- WIN: full items of 1,040 bytes the queue can take across both banks, at most 32; free report places of a relay. -/
def chanWin (s : State) (n : Fin 48) : Nat :=
  if 16 ≤ n.val then 4 - (chan s n).reports.length
  else
    let q := chanQ n
    let x := queue s q
    let free (b : Fin 2) : Nat := if x.held = some b then 0
      else if x.prod = some b then (qSize s q b - (Tbl.get x.banks b).fill - 8) / 1040
      else 0
    if qEn s q then min 32 (free 0 + free 1) else 0
/-- Send an ACK or NAK frame. -/
def ackFrame (n : Fin 48) (nak : Bool) (s : State) : State :=
  let c := chan s n
  let win := chanWin s n
  let body := leBytes (c.seq.toNat + 2 ^ 8 * bindPchan s n + 2 ^ 16 * b2n nak + 2 ^ 24 * win) 8
  let s1 := (frameSend 1 1 (bindPeer s n).toNat prodPe6 body false s).2
  updChan n (fun c => { c with markSeq := c.seq, pwin := win, since := 0, nakDone := c.nakDone || nak }) s1
/-- ACK_SEND: one of the triggers of R265. -/
def ackSend (n : Fin 48) (s : State) : State :=
  if receives s n && (chan s n).st = .open_ then ackFrame n false s else s
/-- The receiving end of a DATA frame: the channel or relay bound to (SRC, CHAN). -/
def boundTo (s : State) (src : BitVec 12) (ch : Nat) : Option (Fin 48) :=
  if h : ch < 48 then (if bindEn s ⟨ch, h⟩ && bindPeer s ⟨ch, h⟩ = src then some ⟨ch, h⟩ else none) else none
/-- A DATA frame at a receiving channel or relay (R264). -/
def dataReceive (n : Fin 48) (seq : Byte) (payload : List Byte) (good poison : Bool) (s : State) : State :=
  let c := chan s n
  if !receives s n || c.st ≠ .open_ then s
  else
    let d := (seq - c.seq).toNat
    if d = 0 then
      if !good || poison then (if c.nakDone then s else ackFrame n true s)
      else if 16 ≤ n.val then
        (if c.reports.length < 4 then
           updChan n (fun c => { c with seq := c.seq + 1, nakDone := false, since := c.since + 1, reports := c.reports ++ [payload] }) s
         else updChan n (fun c => { c with discard := sat8 c.discard }) s)
      else
        let (st, s1) := qEnqueue (chanQ n) (48 + n.val % 16) true true (BitVec.ofNat 16 c.seq.toNat) payload false s
        if st = qOK then updChan n (fun c => { c with seq := c.seq + 1, nakDone := false, since := c.since + 1 }) s1
        else updChan n (fun c => { c with discard := sat8 c.discard }) s1
    else if d ≤ 127 then
      let s1 := updChan n (fun c => { c with ooo := sat8 c.ooo }) s
      if c.nakDone then s1 else ackFrame n true s1
    else ackFrame n false (updChan n (fun c => { c with dup := sat8 c.dup }) s)

/-! ## Interrupt-IN relays (R268) -/

/-- RELAY_POLL: the exporter polls the device; a report is sent in one DATA frame of KIND 1. -/
def relayPoll (n : Fin 48) (report : List Byte) (s : State) : State :=
  let c := chan s n
  if n.val < 16 || receives s n || !(c.st = .open_ || c.st = .replay) || 4 ≤ c.reports.length then s
  else
    let r := report.take (epMps s n)
    relayFrame n c.seq r (updChan n (fun c => { c with seq := c.seq + 1, unack := c.unack + 1, reports := c.reports ++ [r] }) s)
/-- RELAY_HOST_POLL: the importing host's poll receives the oldest report. -/
def relayHostPoll (n : Fin 48) (s : State) : State :=
  let c := chan s n
  if n.val < 16 || !receives s n || c.st ≠ .open_ then s.answer (if c.st = .failed then .requestError else .nak)
  else match c.reports with
    | r :: rest => (updChan n (fun c => { c with reports := rest }) s).answer (.done r)
    | [] => s.answer .nak

/-! ## ODX frames (R239) -/

/-- Body of an ODX frame. -/
def odxBody (op tag : Byte) (index : Half) (sub : Byte) (status off total : Nat) (last : Bool) (data : List Byte) : List Byte :=
  leBytes (op.toNat + 2 ^ 8 * tag.toNat + 2 ^ 16 * index.toNat + 2 ^ 32 * sub.toNat + 2 ^ 40 * status + 2 ^ 48 * data.length) 8 ++
  leBytes (off + 2 ^ 16 * b2n last + 2 ^ 32 * total) 8 ++ wordsOf data
/-- Send a request or response in parts of 2,016 bytes. -/
def odxSend (dst : BitVec 12) (op tag : Byte) (index : Half) (sub : Byte) (status : Nat) (data : List Byte) (s : State) : State :=
  let ps := chunks 2016 (data.length / 2016 + 1) data
  ps.zipIdx.foldl (fun t x =>
    (frameSend 6 1 dst.toNat 33 (odxBody op tag index sub status (x.2 * 2016) data.length (x.2 + 1 == ps.length) x.1) false t).2) s

end Sys2Proof.Machine
end

