-- ==== Sys2Proof/Machine/Port.lean ====
section
/-!
DEFINITION. The hub trees built from the topology table (R39 to R43), and the downstream port
state machine of one slot or virtual slot (R50 to R54, R75 to R78, R83).
-/

namespace Sys2Proof.Machine

open Sys2Proof

/-! ## Topology (R39 to R41) -/

/-- Active value of USBP_Tn_TOPO. -/
def topo (s : State) (e : Fin 40) : Word := regv s (0x57000 + 4 * e.val)
/-- OWNER code of entry `e` (R39). -/
def topoOwner (s : State) (e : Fin 40) : Nat := fld (topo s e) 2 0
/-- ALT of a slot entry; virtual entries have none. -/
def topoAlt (s : State) (e : Fin 40) : Nat := if e.val < 24 then fld (topo s e) 5 4 else 0
/-- HOSTPWR of a slot entry (R50). -/
def topoHostPwr (s : State) (e : Fin 40) : Bool := e.val < 24 && bit (topo s e) 6
/-- SS_OFF of a slot entry (R54). -/
def topoSsOff (s : State) (e : Fin 40) : Bool := e.val < 24 && bit (topo s e) 7

/-- Entries owned by upstream `u`, in entry order (R41). -/
def ownedBy (s : State) (u : Nat) : List (Fin 40) := (allFin 40).filter fun e => topoOwner s e == u + 1
/-- The failover-in set of upstream `u`: slot entries whose alternate is `u` (R39). -/
def failIn (s : State) (u : Nat) : List (Fin 40) := (allFin 40).filter fun e => topoAlt s e == u + 1
/-- P of R39. -/
def pCount (s : State) (u : Nat) : Nat := (ownedBy s u).length
/-- F of R39. -/
def fCount (s : State) (u : Nat) : Nat := (failIn s u).length

/-- Tiers consumed by upstream `u` (R41). -/
def tiers (s : State) (u : Nat) : Nat :=
  if !s.usb.topoValid then 0
  else if pCount s u = 0 ∧ fCount s u = 0 then 0
  else if fCount s u > 0 ∨ pCount s u > 15 then 2 else 1

/-- Upstream of a logical hub: `u` of LHu and LH(u+3). -/
def hubUp (lh : Fin 6) : Fin 3 := ⟨lh.val % 3, Nat.mod_lt _ (by decide)⟩
/-- Tier of a logical hub. -/
def hubTier (lh : Fin 6) : Nat := if lh.val < 3 then 1 else 2
/-- LHu. -/
def tier1 (u : Fin 3) : Fin 6 := ⟨u.val, by omega⟩
/-- LH(u+3). -/
def tier2 (u : Fin 3) : Fin 6 := ⟨u.val + 3, by omega⟩
/-- The logical hub exists in the active layout. -/
def hubPresent (s : State) (lh : Fin 6) : Bool := hubTier lh ≤ tiers s (hubUp lh).val

/-- SuperSpeed port count N of a logical hub; 0 when absent (R41). -/
def nSS (s : State) (lh : Fin 6) : Nat :=
  let u := (hubUp lh).val
  if !hubPresent s lh then 0
  else if hubTier lh = 1 then
    (if fCount s u > 0 then pCount s u + 1 else if pCount s u > 15 then 15 else pCount s u)
  else if fCount s u > 0 then fCount s u else pCount s u - 14

/-- USB 2.0 port count N₂ (R42). -/
def nHS (s : State) (lh : Fin 6) : Nat := if hubPresent s lh then nSS s lh + 1 else 0

/-- The failover machine whose set holds entry `e`: owner UP_A or UP_B with the other as alternate. -/
def setOf (s : State) (e : Fin 40) : Option (Fin 2) :=
  if topoOwner s e = 1 ∧ topoAlt s e = 2 then some 0
  else if topoOwner s e = 2 ∧ topoAlt s e = 1 then some 1 else none

/-- Entries of the failover set of owner `x`. -/
def foSet (s : State) (x : Fin 2) : List (Fin 40) := (allFin 40).filter fun e => setOf s e = some x

/-- Entry `e` is attached to its alternate: its set is ACTIVE, or a failback has not yet reached the tick
at which the entries belong to the owner again (R81, R86). -/
def isAway (s : State) (e : Fin 40) : Bool :=
  match setOf s e with
  | some x => (Tbl.get s.usb.fo x).st == .active || ((Tbl.get s.usb.fo x).st == .normal && (Tbl.get s.usb.fo x).reattach)
  | none => false

/-- Position of the first element equal to `e`. -/
def posIn (e : Fin 40) : List (Fin 40) → Nat
  | [] => 0
  | a :: l => if a = e then 0 else posIn e l + 1

/-- Logical hub and port number that carry entry `e` now (R41, R82). -/
def place (s : State) (e : Fin 40) : Option (Fin 6 × Nat) :=
  if !s.usb.topoValid then none
  else
    let o := topoOwner s e
    if h : 1 ≤ o ∧ o ≤ 3 then
      let u : Fin 3 := ⟨o - 1, by omega⟩
      if isAway s e then
        let y : Fin 3 := if u.val = 0 then 1 else 0
        some (tier2 y, posIn e (failIn s y.val) + 1)
      else
        let k := posIn e (ownedBy s u.val)
        if fCount s u.val = 0 ∧ pCount s u.val > 15 ∧ 14 ≤ k then some (tier2 u, k - 13)
        else some (tier1 u, k + 1)
    else none

/-- What a port number of a logical hub names (R41, R42). -/
inductive PortTarget where
  /-- the entry the port carries -/
  | entry (e : Fin 40)
  /-- the owner's port of an entry that is attached to its alternate -/
  | away (e : Fin 40)
  /-- the tier-1 port that carries the tier-2 hub of upstream `u` -/
  | tier2 (u : Fin 3)
  /-- the internal port of the USB 2.0 half -/
  | internal
  /-- no such port -/
  | bad
deriving DecidableEq, Repr

/-- Resolve port `n` of a half of logical hub `lh`. -/
def portTarget (s : State) (lh : Fin 6) (hs : Bool) (n : Nat) : PortTarget :=
  let u := hubUp lh
  let nss := nSS s lh
  if !hubPresent s lh || n = 0 then .bad
  else if n = nss + 1 then (if hs then .internal else .bad)
  else if n > nss then .bad
  else if hubTier lh = 1 then
    if tiers s u.val = 2 ∧ n = nss then .tier2 u
    else match (ownedBy s u.val)[n - 1]? with
      | some e => if isAway s e then .away e else .entry e
      | none => .bad
  else if fCount s u.val > 0 then
    match (failIn s u.val)[n - 1]? with
    | some e => if isAway s e then .entry e else .away e
    | none => .bad
  else match (ownedBy s u.val)[n + 13]? with
    | some e => .entry e
    | none => .bad

/-! ## Halves of a port, in the hub class wPortStatus and wPortChange layouts -/

/-- Set bits of a half word. -/
def HalfS.set (h : HalfS) (m : BitVec 16) : HalfS := { h with st := h.st ||| m }
/-- Clear status bits. -/
def HalfS.clr (h : HalfS) (m : BitVec 16) : HalfS := { h with st := h.st &&& ~~~m }
/-- Set change bits. -/
def HalfS.mark (h : HalfS) (m : BitVec 16) : HalfS := { h with chg := h.chg ||| m }
/-- Clear change bits. -/
def HalfS.unmark (h : HalfS) (m : BitVec 16) : HalfS := { h with chg := h.chg &&& ~~~m }
/-- A status bit of a half. -/
def HalfS.has (h : HalfS) (b : Nat) : Bool := h.st.getLsbD b

/-- PORT_CONNECTION. -/
def pConn : BitVec 16 := 0x0001
/-- PORT_ENABLE. -/
def pEnable : BitVec 16 := 0x0002
/-- PORT_SUSPEND (USB 2.0). -/
def pSuspend : BitVec 16 := 0x0004
/-- PORT_RESET. -/
def pReset : BitVec 16 := 0x0010
/-- PORT_POWER, USB 2.0 half. -/
def pPowerHS : BitVec 16 := 0x0100
/-- PORT_POWER, SuperSpeed half. -/
def pPowerSS : BitVec 16 := 0x0200
/-- PORT_LOW_SPEED (USB 2.0). -/
def pLow : BitVec 16 := 0x0200
/-- PORT_HIGH_SPEED (USB 2.0). -/
def pHigh : BitVec 16 := 0x0400
/-- PORT_TEST (USB 2.0). -/
def pTest : BitVec 16 := 0x0800
/-- C_PORT_CONNECTION. -/
def cConn : BitVec 16 := 0x0001
/-- C_PORT_ENABLE (USB 2.0). -/
def cEnable : BitVec 16 := 0x0002
/-- C_PORT_SUSPEND (USB 2.0). -/
def cSuspend : BitVec 16 := 0x0004
/-- C_PORT_OVER_CURRENT. -/
def cOver : BitVec 16 := 0x0008
/-- C_PORT_RESET. -/
def cReset : BitVec 16 := 0x0010
/-- C_BH_PORT_RESET (SuperSpeed). -/
def cBh : BitVec 16 := 0x0020
/-- C_PORT_LINK_STATE (SuperSpeed). -/
def cLink : BitVec 16 := 0x0040

/-- PORT_POWER of a half. -/
def PortS.powerOf (p : PortS) (hs : Bool) : Bool := if hs then p.hs.has 8 else p.ss.has 9
/-- The port is powered: PORT_POWER on at least one half (R50). -/
def PortS.powered (p : PortS) : Bool := p.powerOf true || p.powerOf false
/-- The device is connected through the SuperSpeed half. -/
def PortS.connSS (p : PortS) : Bool := p.ss.has 0
/-- The device is connected through the USB 2.0 half. -/
def PortS.connHS (p : PortS) : Bool := p.hs.has 0
/-- Change a half. -/
def PortS.onHalf (p : PortS) (hs : Bool) (f : HalfS → HalfS) : PortS :=
  if hs then { p with hs := f p.hs } else { p with ss := f p.ss }
/-- Set or clear PORT_POWER of a half. -/
def PortS.setPower (p : PortS) (hs on : Bool) : PortS :=
  let m := if hs then pPowerHS else pPowerSS
  p.onHalf hs fun h => if on then h.set m else h.clr m

/-! ## Moves of the machine (R52) -/

/-- Global row 1 of R52: termination removed, status cleared, change bits kept. PORT_POWER is not a status bit of
this row: only a half's default state takes it (R50, R73). A held link and its memory are kept while HELD (R82). -/
def PortS.toDisconnected (p : PortS) (ssOff : Bool) : PortS :=
  { p with
    st := .disconnected, ss := { st := p.ss.st &&& pPowerSS, chg := p.ss.chg },
    hs := { st := p.hs.st &&& pPowerHS, chg := p.hs.chg },
    speed := .none, link := if p.held then p.link else .ssDisabled, farTerm := p.held && p.farTerm,
    ssdis := ssOff, ovrOff := false, cutOff := p.held && p.cutOff, pollFails := 0, resetKind := none,
    test := 0, treeSS := false, treeHS := false, selSus := false, l1 := false, waking := false,
    latched := false, resuming := false }

/-- Global row 2 of R52: the slot supply is lost. HELD and bridging end (R84, R87). -/
def PortS.toSeating (p : PortS) (ssOff : Bool) : PortS :=
  { p with
    st := .seating,
    ss := if p.connSS then (p.ss.clr (pConn ||| pEnable ||| pReset)).mark cConn else p.ss.clr (pConn ||| pEnable ||| pReset)
    hs := if p.connHS then (p.hs.clr (pConn ||| pEnable ||| pReset ||| pSuspend ||| pLow ||| pHigh)).mark cConn
          else p.hs.clr (pConn ||| pEnable ||| pReset ||| pSuspend ||| pLow ||| pHigh)
    speed := .none, link := .ssDisabled, farTerm := false, ssdis := ssOff, ovrOff := false,
    cutOff := false, pollFails := 0, resetKind := none, treeSS := false, treeHS := false,
    selSus := false, l1 := false, waking := false, latched := false, resuming := false, held := false, bridge := false,
    heldHS := false }

/-- Entry to POWERED with no held link: Rx.Detect starts unless the half is kept in SS.Disabled (R52, R54). -/
def PortS.toPoweredFresh (p : PortS) (ssOff : Bool) : PortS :=
  { p with
    st := .powered, link := if ssOff || p.babbler then .ssDisabled else .rxDetect, farTerm := false,
    ssdis := ssOff, pollFails := 0, held := false, bridge := false, heldHS := false, cutOff := false,
    speed := .none, resetKind := none }

/-- Entry to POWERED, the HELD rows of R83 first. -/
def PortS.toPowered (p : PortS) (ssOff : Bool) : PortS :=
  if p.held && p.link == .u0 && !p.cutOff then
    { p with st := .enabled, ss := (p.ss.set (pConn ||| pEnable)).mark cConn, speed := p.heldSpeed,
             held := false, heldHS := false }
  else if p.held && p.heldHS && !p.cutOff then
    { p with st := .disabled, hs := (p.hs.set (if p.heldSpeed == .ls then pConn ||| pLow else pConn)).mark cConn,
             speed := p.heldSpeed, held := false, heldHS := false }
  else if p.held && p.cutOff then
    (if p.cutrsn = 2 then
      { p with st := .disabled, ss := (p.ss.set pConn).mark cConn, held := false, heldHS := false,
               link := .ssDisabled, ssdis := true, ovrOff := true }
    else { p with st := .disabled, hs := (p.hs.set pConn).mark cConn, held := false, heldHS := false })
  else if p.held && p.link == .recovery then { p with st := .powered, speed := .none, resetKind := none }
  else p.toPoweredFresh ssOff

/-- Disconnect of a connected port: back to POWERED (R52 rows of DISABLED, RESET, ENABLED, SUSPENDED, ERROR). -/
def PortS.toUnplugged (p : PortS) (ssOff : Bool) : PortS :=
  { p with
    ss := if p.connSS then (p.ss.clr (pConn ||| pEnable ||| pReset)).mark cConn else p.ss
    hs := if p.connHS then (p.hs.clr (pConn ||| pEnable ||| pReset ||| pSuspend ||| pLow ||| pHigh)).mark cConn else p.hs
    treeSS := false, treeHS := false, selSus := false, l1 := false,
    waking := false, latched := false, resuming := false, ovrOff := false }.toPoweredFresh ssOff

/-- The entry is attached to a hub in service: an export entry, or an entry whose logical hub has a
configured half (R52). -/
def attached (s : State) (e : Fin 40) : Bool :=
  if topoOwner s e = 4 then e.val < 24 && s.usb.topoValid
  else match place s e with
    | some (lh, _) =>
      let h := Tbl.get s.usb.hubs lh
      !h.standby && (h.cfgSS || h.cfgHS)
    | none => false

/-- Supply condition of a port: the slot is ON or FOLDBACK; for a virtual port, an import is bound
(R52, last paragraph before it). -/
def portSupply (s : State) (e : Fin 40) : Bool :=
  if h : e.val < 24 then slotPowered s ⟨e.val, h⟩ else importBound s (e.val - 24)

/-- Replace a port. -/
def putPort (s : State) (e : Fin 40) (p : PortS) : State :=
  { s with usb := { s.usb with ports := Tbl.put s.usb.ports e p } }
/-- A port. -/
def port (s : State) (e : Fin 40) : PortS := Tbl.get s.usb.ports e
/-- Change a port. -/
def updPort (s : State) (e : Fin 40) (f : PortS → PortS) : State := putPort s e (f (port s e))

/-- Evaluate the global rows and the DISCONNECTED and SEATING rows of R52 for one port. A port whose
engine is lost and whose hold runs keeps its state (R169). -/
def portEval (e : Fin 40) (s : State) : State :=
  let p := port s e
  let off := topoSsOff s e
  if p.holding then s
  else if p.st != .disconnected && (!attached s e || !p.powered) then putPort s e (p.toDisconnected off)
  else if p.st != .disconnected && p.st != .seating && !portSupply s e then
    putPort s e (if e.val < 24 then p.toSeating off else p.toUnplugged off)
  else if p.st == .disconnected && p.powered && attached s e then
    (if portSupply s e || 24 ≤ e.val then putPort s e (p.toPowered off)
     else putPort s e { p with st := .seating })
  else if p.st == .seating && portSupply s e then putPort s e (p.toPowered off)
  else s

/-- Evaluate every port. -/
def portEvalAll (s : State) : State := eachFin 40 portEval s

/-- A slot port as an entry of the topology. -/
def slotEntry (p : Fin 24) : Fin 40 := ⟨p.val, by omega⟩

/-- R51: entry to TRIPPED or FET_FAULT, or opening of the group FET. -/
def portOverCurrent (p : Fin 24) (s : State) : State :=
  updPort s (slotEntry p) fun q =>
    { q with ss := (q.ss.clr (pConn ||| pEnable)).mark cOver, hs := (q.hs.clr (pConn ||| pEnable)).mark cOver }

/-- PORT_OVER_CURRENT as reported (R51). -/
def overCurrentNow (s : State) (e : Fin 40) : Bool :=
  if h : e.val < 24 then slotOverCurrent s ⟨e.val, h⟩ else false

/-! ## Link events of a slot port (R52, R54) -/

/-- SS_TERMINATION_DETECTED: a POWERED port starts Polling. -/
def ssTermination (p : Fin 24) (s : State) : State :=
  updPort s (slotEntry p) fun q =>
    if q.st == .powered && q.link == .rxDetect && !q.ssdis then { q with farTerm := true, link := .polling } else q

/-- POLLING_U0. -/
def pollingU0 (p : Fin 24) (gen2 : Bool) (s : State) : State :=
  updPort s (slotEntry p) fun q =>
    if q.st == .powered && q.link == .polling then
      { q with st := .enabled, link := .u0, pollFails := 0, speed := if gen2 then .gen2 else .gen1,
               ss := (q.ss.set (pConn ||| pEnable)).mark cConn, errCount := 0 }
    else q

/-- POLLING_FAIL: eight consecutive failures hold the half in SS.Disabled. -/
def pollingFail (p : Fin 24) (s : State) : State :=
  updPort s (slotEntry p) fun q =>
    if q.st == .powered && q.link == .polling then
      (if q.pollFails + 1 ≥ 8 then { q with pollFails := 8, ssdis := true, farTerm := false, link := .ssDisabled }
       else { q with pollFails := q.pollFails + 1, farTerm := false, link := .rxDetect })
    else q

/-- USB2_CONNECT: accepted while no far-end termination is detected or the half is in SS.Disabled, and not
while SS.Disabled follows an overrun (R54, R76). -/
def usb2Connect (p : Fin 24) (low : Bool) (s : State) : State :=
  updPort s (slotEntry p) fun q =>
    if q.st == .powered && (!q.farTerm || q.link == .ssDisabled) && !q.ovrOff then
      { q with st := .disabled, speed := if low then .ls else .fs,
               hs := (q.hs.set (if low then pConn ||| pLow else pConn)).mark cConn }
    else q

/-- The machine may leave through a USB 2.0 disconnect. -/
def PortS.disconnectable (q : PortS) : Bool :=
  (q.st == .disabled || q.st == .enabled || q.st == .suspended) && q.connHS

/-- USB2_DISCONNECT. On a held port the USB 2.0 half is no longer enabled, so no HELD row finds it (R83). -/
def usb2Disconnect (p : Fin 24) (s : State) : State :=
  updPort s (slotEntry p) fun q =>
    if q.held && q.st == .disconnected then { q with heldHS := false, cutOff := q.cutOff && q.ovrOff }
    else if q.disconnectable then q.toUnplugged (topoSsOff s (slotEntry p)) else q

/-- The hub half that serves the port runs at full speed, so HS-capable devices operate at FS (R54). -/
def fullSpeedTree (s : State) (e : Fin 40) : Bool :=
  match place s e with
  | some (lh, _) => !(Tbl.get s.usb.trees (hubUp lh)).hiSpeed
  | none => false

/-- USB2_RESET_COMPLETE: a detach seen after the drive, or the enabled port (R52); a reset that ran under
BABBLER leaves the port disabled (R78). -/
def usb2ResetComplete (p : Fin 24) (se0 chirp : Bool) (s : State) : State :=
  let e := slotEntry p
  updPort s e fun q =>
    if q.resetKind = some 0 && q.st == .disabled then
      { q with resetKind := none, hs := (q.hs.clr (pReset ||| pEnable)).mark cReset }
    else if q.resetKind = some 0 && q.st == .reset then
      (if se0 then q.toUnplugged (topoSsOff s e)
       else
        let sp : Speed := if q.speed == .ls then .ls else if chirp && !fullSpeedTree s e then .hs else .fs
        { q with st := .enabled, resetKind := none, speed := sp, cutOff := false,
                 hs := ((q.hs.clr (pReset ||| pHigh)).set (if sp == .hs then pEnable ||| pHigh else pEnable)).mark cReset })
    else q

/-- HOT_RESET_COMPLETE. -/
def hotResetComplete (p : Fin 24) (s : State) : State :=
  updPort s (slotEntry p) fun q =>
    if q.st == .reset && q.resetKind = some 1 then
      { q with st := .enabled, resetKind := none, link := .u0, ss := ((q.ss.clr pReset).set pEnable).mark cReset }
    else q

/-- HOT_RESET_TIMEOUT: the port starts a warm reset. -/
def hotResetTimeout (p : Fin 24) (s : State) : State :=
  let q := port s (slotEntry p)
  if q.st == .reset && q.resetKind = some 1 then
    (putPort s (slotEntry p) { q with resetKind := some 2, link := .rxDetect }).emit [.portReset (slotEntry p) 2]
  else s

/-- WARM_RESET_COMPLETE; under BABBLER the link ends in SS.Disabled (R78). -/
def warmResetComplete (p : Fin 24) (gen2 : Bool) (s : State) : State :=
  updPort s (slotEntry p) fun q =>
    if q.st == .disabled && q.resetKind = some 2 then
      { q with resetKind := none, link := .ssDisabled, ss := (q.ss.clr (pReset ||| pEnable)).mark cBh }
    else if q.st == .reset && q.resetKind = some 2 then
      { q with st := .enabled, resetKind := none, link := .u0, cutOff := false, ssdis := false, ovrOff := false,
               speed := if gen2 then .gen2 else .gen1,
               ss := ((q.ss.clr pReset).set (pConn ||| pEnable)).mark (cReset ||| cBh) }
    else q

/-- WARM_RESET_TIMEOUT. -/
def warmResetTimeout (p : Fin 24) (s : State) : State :=
  updPort s (slotEntry p) fun q =>
    if q.st == .reset && q.resetKind = some 2 then
      { q with st := .error, resetKind := none, link := .ssInactive, ss := (q.ss.clr (pReset ||| pEnable)).mark cLink }
    else q

/-- SS_TERMINATION_LOST: during a hot or warm reset, in ERROR, or on an ENABLED or SUSPENDED SuperSpeed
port (the disconnect rows of R52). A held link leaves U0. -/
def ssTermLost (p : Fin 24) (s : State) : State :=
  let e := slotEntry p
  updPort s e fun q =>
    if (q.st == .reset && q.resetKind != some 0) || q.st == .error ||
       ((q.st == .enabled || q.st == .suspended) && q.connSS) then q.toUnplugged (topoSsOff s e)
    else if q.st == .powered && q.link == .polling then { q with link := .rxDetect, farTerm := false }
    else if q.held && q.st == .disconnected && q.link != .ssDisabled then { q with link := .rxDetect, farTerm := false }
    else q

/-- PORT_SUSPEND_ENTERED: the link of an ENABLED port reached U3 or USB 2.0 suspend. -/
def suspendEntered (e : Fin 40) (s : State) : State :=
  updPort s e fun q =>
    if q.st == .enabled then
      { q with st := .suspended, link := if q.connSS then .u3 else q.link,
               hs := if q.connHS then q.hs.set pSuspend else q.hs, l1 := false }
    else q

/-- SS_INACTIVE. -/
def ssInactive (p : Fin 24) (s : State) : State :=
  updPort s (slotEntry p) fun q =>
    if q.st == .enabled && q.connSS then
      { q with st := .error, link := .ssInactive, ss := (q.ss.clr pEnable).mark cLink }
    else if q.held && q.st == .disconnected && q.link == .u0 then { q with link := .ssInactive }
    else q

/-- PORT_RESUME_COMPLETE: the port is back in ENABLED; a waking port sets its change bit (R71), and a port
that resumed from selective suspend sets it as the hub class does. -/
def resumeComplete (e : Fin 40) (s : State) : State :=
  updPort s e fun q =>
    if q.st == .suspended && q.resuming then
      let c := q.waking || q.selSus
      { q with st := .enabled, link := if q.connSS then .u0 else q.link,
               ss := if c && q.connSS then q.ss.mark cLink else q.ss,
               hs := if q.connHS then (if c then (q.hs.clr pSuspend).mark cSuspend else q.hs.clr pSuspend) else q.hs,
               treeSS := false, treeHS := false, selSus := false, waking := false, resuming := false }
    else q

/-! ## Cut-off (R75 to R78) -/

/-- A CUTOFF record (TYPE 0x04). -/
def journalCut (p : Fin 24) (sub : Nat) (s : State) : State :=
  let q := port s (slotEntry p)
  journal 4 sub srcDevice (objSlot p.val) q.cutrsn
    (le32 s.time.tick.toNat ++ [BitVec.ofNat 8 q.babbleCnt, BitVec.ofNat 8 q.ovrCnt,
      BitVec.ofNat 8 (topoOwner s (slotEntry p) - 1)]) s

/-- The slots' shared part of a cut-off: counter, EV24, journal record, recent list and BABBLER (R77). -/
def cutOffCommon (p : Fin 24) (reason : Nat) (s : State) : State :=
  let e := slotEntry p
  let s1 := updPort s e fun q =>
    { q with babbleCnt := if reason = 1 then min 255 (q.babbleCnt + 1) else q.babbleCnt
             ovrCnt := if reason = 2 then min 255 (q.ovrCnt + 1) else q.ovrCnt
             recent := q.recent ++ [s.time.tb] }
  let s2 := lifeCut p (journalCut p reason (countEv 24 s1))
  let cfg := regv s 0x57210
  let lim := fld cfg 3 0
  let win := min 60 (max 1 (fld cfg 9 4))
  let q := port s2 e
  let within := (q.recent.filter fun t => s.time.tb.toNat - t.toNat ≤ win * 1000000000).length
  if lim ≠ 0 ∧ lim ≤ within ∧ ¬ q.babbler then
    journalCut p 3 (countEv 25 (putPort s2 e { q with babbler := true }))
  else s2

/-- BABBLE (R75): the USB 2.0 half of an ENABLED port is cut off. -/
def babble (p : Fin 24) (s : State) : State :=
  let e := slotEntry p
  let q := port s e
  if (q.st == .enabled && q.connHS) || (q.held && q.heldHS && !q.cutOff) then
    let q1 := { q with
      st := if q.st == .enabled then .disabled else q.st, cutrsn := 1, cutOff := true,
      hs := if q.st == .enabled then (q.hs.clr pEnable).mark cEnable else q.hs,
      tt := Tbl.fill 4 false, l1 := false }
    cutOffCommon p 1 (putPort s e q1)
  else s

/-- OVERRUN (R76), less the packet that caused it: the SuperSpeed half of an ENABLED port is cut off. -/
def overrun (p : Fin 24) (s : State) : State :=
  let e := slotEntry p
  let q := port s e
  if (q.st == .enabled && q.connSS) || (q.held && !q.heldHS && !q.cutOff && q.link == .u0) then
    let q1 := { q with
      st := if q.st == .enabled then .disabled else q.st, cutrsn := 2, cutOff := true, ssdis := true,
      ovrOff := true, link := .ssDisabled,
      ss := if q.st == .enabled then (q.ss.clr pEnable).mark cLink else q.ss }
    cutOffCommon p 2 (putPort s e q1)
  else s

/-- CUTOFF_RECENT_EXPIRY: the oldest entry of the recent list leaves it (R77). -/
def recentExpire (p : Fin 24) (s : State) : State :=
  updPort s (slotEntry p) fun q => { q with recent := q.recent.drop 1 }

/-- The acknowledge of R78: BABBLER and the recent list clear. -/
def babblerAck (p : Fin 24) (s : State) : State :=
  updPort s (slotEntry p) fun q => { q with babbler := false, recent := [] }

end Sys2Proof.Machine
end

