-- ==== Sys2Proof/Machine/Slot.lean ====
section
/-!
DEFINITION. Slot power: the slot state machine, trips, groups, the thermal model and the input watch (R187 to R209).
-/

namespace Sys2Proof.Machine

open Sys2Proof

/-! ## Settings -/

/-- Address of a slot register. -/
def spwAddr (p : Fin 24) (off : Nat) : Nat := 0x80000 + 0x100 * p.val + off
/-- The settings in use: those kept through a ramp, else the active registers (R207). -/
def slotSet (s : State) (p : Fin 24) : SlotSet :=
  match (slot s p).kept with
  | some k => k
  | none => { ctl := regv s (spwAddr p 0), ramp := regv s (spwAddr p 8), trip := regv s (spwAddr p 0xC),
              model := regv s (spwAddr p 0x10) }
/-- EN; an apply acts at once. -/
def slotEn (s : State) (p : Fin 24) : Bool := bit (regv s (spwAddr p 0)) 0
/-- PRIO. -/
def slotPrio (s : State) (p : Fin 24) : Nat := fld (regv s (spwAddr p 0)) 4 3
/-- RETRY_COUNT. -/
def slotRetryCount (s : State) (p : Fin 24) : Nat := fld (slotSet s p).ctl 11 8
/-- SEAT_DEBOUNCE in ms (R189). -/
def slotDebounce (s : State) (p : Fin 24) : Nat := min 1000 (max 10 (fld (slotSet s p).ctl 21 12))
/-- LIMIT in 50 mA steps. -/
def slotLimit (s : State) (p : Fin 24) : Nat := fld (regv s (spwAddr p 4)) 5 0
/-- Commissioned ceiling. -/
def slotCeil (s : State) (p : Fin 24) : Nat := fld (regv s (spwAddr p 4)) 13 8
/-- MODEL_TRIP in degC. -/
def modelTrip (s : State) (p : Fin 24) : Nat := min 150 (max 100 (fld (slotSet s p).trip 15 8))
/-- MODEL_RESTART in degC. -/
def modelRestart (s : State) (p : Fin 24) : Nat := min 140 (max 40 (fld (slotSet s p).trip 23 16))
/-- STAGGER in ns (R190). -/
def staggerNs (s : State) : Nat := min 200 (max 5 (fld (regv s 0x83808) 31 24)) * 1000000
/-- VWARN in 10 mV units (R204). -/
def vwarn (s : State) : Nat := min 300 (max 190 (fld (regv s 0x83808) 8 0)) * 10
/-- Group of a slot: six slots each. -/
def groupOf (p : Fin 24) : Fin 4 := ⟨p.val / 6, by omega⟩
/-- GRPPOL of a group. -/
def grpPol (s : State) (g : Fin 4) : Bool := bit (regv s (0x83000 + 0x40 * g.val)) 0
/-- Any FORCE bit (R202). -/
def slotForced (s : State) (p : Fin 24) : Bool :=
  !slotEn s p || (slot s p).forceHost || (slot s p).forceFw

/-! ## Reservations and start conditions (R190, R203) -/

/-- Sum of the reservations in 50 mA units: LIMIT of each slot in RAMP, ON or FOLDBACK. -/
def reserved (s : State) : Nat :=
  (allFin 24).foldl (fun n p => n + (if (slot s p).st.gateOn then slotLimit s p else 0)) 0
/-- Commissioned budget in 50 mA units. -/
def budget (s : State) : Nat := fld (regv s 0x83804) 9 0
/-- Remaining OFF_REMAIN in 10 ms units. -/
def offRemain (s : State) (p : Fin 24) : Nat :=
  min 0xFFFF (((slot s p).offDue.toNat - s.time.tb.toNat + 9999999) / 10000000)
/-- Seating condition of R189. -/
def seatCondition (s : State) (p : Fin 24) : Bool :=
  match (slot s p).seatedSince with
  | some t => t.toNat + slotDebounce s p * 1000000 ≤ s.time.tb.toNat
  | none => false
/-- First start condition of R190 that does not hold, 0 when all hold. -/
def waitCode (s : State) (p : Fin 24) : Nat :=
  let g := group s (groupOf p)
  if !seatCondition s p then 1
  else if 0 < offRemain s p then 2
  else if (4 * modelRestart s p : Int) ≤ (slot s p).tmodel then 3
  else if s.pow.warn || vinMin s < 1800 then 4
  else if !g.closed || g.gfault then 5
  else if budget s < reserved s + slotLimit s p then 6
  else match s.pow.lastStart with
    | some t => if s.time.tb.toNat < t.toNat + staggerNs s then 7 else 0
    | none => 0
/-- SPW_Sn_STAT.WAIT. -/
def waitField (s : State) (p : Fin 24) : Nat := if (slot s p).st = .seating then waitCode s p else 0

/-! ## Records -/

/-- A signed value as a 16-bit field. -/
def int16 (i : Int) : List Byte := le16 (BitVec.ofInt 16 i).toNat
/-- A SLOT record (TYPE 0x02). -/
def journalSlot (sub src : Nat) (p : Fin 24) (s : State) : State :=
  let x := slot s p
  journal 2 sub src (objSlot p.val) x.reason
    (le16 x.peak ++ int16 x.tmodel ++ [BitVec.ofNat 8 x.ssub, BitVec.ofNat 8 x.retries] ++ le16 (min 0xFFFF x.pinSkew) ++
      le16 (group s (groupOf p)).vin ++ le16 (offRemain s p)) s
/-- Bitmap of the slots in RAMP, ON or FOLDBACK. -/
def poweredMap (s : State) : Nat := (allFin 24).foldl (fun n p => n + (if (slot s p).st.gateOn then 2 ^ p.val else 0)) 0
/-- An INPUT record (TYPE 0x03). -/
def journalInput (sub : Nat) (map : Nat) (s : State) : State :=
  journal 3 sub srcDevice 0 0 (le16 (vinMin s) ++ [BitVec.ofNat 8 (b2n s.pow.level + 2 * b2n s.pow.slope + 4 * b2n s.pow.spread), 0] ++ le32 map) s

/-! ## Moves of a slot -/

/-- Turn the gate of a slot off, if it is on. -/
def gateOff (p : Fin 24) (s : State) : State := if (slot s p).st.gateOn then s.emit [.slotGate p false] else s
/-- A slot takes another state with the gate off; its port follows (R52). -/
def slotMove (p : Fin 24) (f : SlotS → SlotS) (s : State) : State :=
  portEval (slotEntry p) (updSlot p f (gateOff p s))
/-- State of an unforced, unlocked slot by its pins. -/
def SlotS.restSt (x : SlotS) : SlotSt := if x.pinA || x.pinB then .seating else .off

/-- A trip (R188, R200): REASON, OFF_REMAIN, EV16, record, over-current at the port. -/
def slotTrip (p : Fin 24) (reason ssub : Nat) (s : State) : State :=
  let off := min (2 ^ ((slot s p).retries + 1)) 64 * 1000000000
  portOverCurrent p (lifeTrip p (journalSlot 2 srcDevice p (countEv 16 (slotMove p (fun x =>
    { x with st := .tripped, reason := reason, ssub := if reason = 1 then ssub else x.ssub,
             offDue := s.time.tb + BitVec.ofNat 64 off, trips := min 255 (x.trips + 1) }) s))))

/-- Entry to FET_FAULT (R197, R198): kept in flash, EV17, record, over-current at the port. -/
def slotFet (p : Fin 24) (reason : Nat) (s : State) : State :=
  portOverCurrent p (journalSlot 4 srcDevice p (countEv 17 (slotMove p (fun x =>
    { x with st := .fetFault, reason := reason, flashFet := some reason }) s)))

/-- A powered slot turns off without a trip and goes to SEATING. -/
def slotOffTo (p : Fin 24) (reason : Nat) (s : State) : State :=
  if (slot s p).st.gateOn then slotMove p (fun x => { x with st := .seating, reason := reason }) s else s

/-- The FORCE rows of R188 and the exit from FORCED_OFF. -/
def slotForceEval (p : Fin 24) (s : State) : State :=
  let x := slot s p
  if slotForced s p then
    (if x.st = .fetFault ∨ x.st = .forcedOff then s else slotMove p (fun x => { x with st := .forcedOff }) s)
  else if x.st = .forcedOff then
    slotMove p (fun x => { x with st := if x.locked then .lockout else x.restSt }) s
  else s
/-- FORCE.HOST (R50, R202). -/
def slotForceHost (p : Fin 24) (on : Bool) (s : State) : State :=
  slotForceEval p (updSlot p (fun x => { x with forceHost := on }) s)
/-- FORCE.FIRMWARE (R202). -/
def slotForceFw (p : Fin 24) (on : Bool) (s : State) : State :=
  slotForceEval p (updSlot p (fun x => { x with forceFw := on }) s)

/-! ## Seating (R188, R189, R201) -/

/-- PIN_SEATED: pin A or B of a slot reads seated. -/
def pinSeated (p : Fin 24) (pinB : Bool) (s : State) : State :=
  let x := slot s p
  let a := x.pinA || !pinB
  let b := x.pinB || pinB
  let first := if x.pinA || x.pinB then x.firstPin else s.time.tb
  let both := a && b && !(x.pinA && x.pinB)
  updSlot p (fun x =>
    { x with pinA := a, pinB := b, firstPin := first,
             seatedSince := if both then some s.time.tb else x.seatedSince,
             pinSkew := if both then (s.time.tb.toNat - first.toNat) / 1000000 else x.pinSkew,
             st := if x.st = .off then .seating else x.st }) s

/-- SEATING_LOST: the named pins read unseated in two samples. -/
def seatingLost (p : Fin 24) (a b : Bool) (s : State) : State :=
  let s1 := updSlot p (fun x => { x with
    pinA := x.pinA && !a, pinB := x.pinB && !b, seatedSince := if a || b then none else x.seatedSince }) s
  if (a || b) && (slot s1 p).st.gateOn then
    journalSlot 6 srcDevice p (slotOffTo p 8 (updSlot p (fun x => { x with seatLoss := min 255 (x.seatLoss + 1) }) s1))
  else s1

/-- WITHDRAWAL: both pins read unseated in ten samples (R201). -/
def withdrawal (p : Fin 24) (s : State) : State :=
  let s1 := seatingLost p true true s
  let s2 := updSlot p (fun x => { x with skew := false }) s1
  match (slot s2 p).st with
  | .seating | .tripped | .retryWait | .lockout =>
    journalSlot 7 srcDevice p (slotMove p (fun x => { x with st := .off, locked := false, retries := 0 }) s2)
  | .forcedOff => journalSlot 7 srcDevice p (updSlot p (fun x => { x with locked := false, retries := 0 }) s2)
  | .off | .ramp | .on | .foldback | .fetFault => s2

/-- SKEW_TIMEOUT: exactly one pin seated for 1 s. -/
def skewTimeout (p : Fin 24) (s : State) : State :=
  let x := slot s p
  if x.st = .seating ∧ x.pinA ≠ x.pinB ∧ x.skew = false then
    journalSlot 10 srcDevice p (countEv 60 (updSlot p (fun x => { x with
      skew := true, pinSkew := (s.time.tb.toNat - x.firstPin.toNat) / 1000000 }) s))
  else s

/-! ## Starting (R190) -/

/-- Start the ramp of a slot. -/
def rampBegin (p : Fin 24) (s : State) : State :=
  (updSlot p (fun x => { x with st := .ramp, peak := 0, kept := none, wait6 := false })
    { s with pow := { s.pow with lastStart := some s.time.tb } }).emit [.slotGate p true]

/-- EV59: a slot first enters WAIT 6 after another wait. -/
def budgetWait (p : Fin 24) (s : State) : State :=
  if (slot s p).st = .seating then
    let w := waitCode s p = 6
    let s1 := if w ∧ (slot s p).wait6 = false then countEv 59 s else s
    updSlot p (fun x => { x with wait6 := w }) s1
  else updSlot p (fun x => { x with wait6 := false }) s

/-- Slots in the order PE1 considers them: PRIO highest first, then slot number. -/
def startOrder (s : State) : List (Fin 24) :=
  [3, 2, 1, 0].flatMap fun k => (allFin 24).filter fun p => slotPrio s p == k

/-- SLOT_RAMP_START: PE1's pass at a device tick starts the first slot that meets every condition. -/
def slotRampStart (s : State) : State :=
  if !roleRuns s 29 then s
  else
    let s1 := eachFin 24 budgetWait s
    match (startOrder s1).find? fun p => (slot s1 p).st = .seating && waitCode s1 p == 0 with
    | some p => rampBegin p s1
    | none => s1

/-- RAMP_COMPLETE: VOUT within 0.5 V of the group input (R192). -/
def rampComplete (p : Fin 24) (s : State) : State :=
  if (slot s p).st = .ramp then
    portEval (slotEntry p) (lifeOn p (journalSlot 1 srcDevice p (updSlot p (fun x => { x with st := .on }) s)))
  else s
/-- GATE_RISE_FAIL (R197). -/
def gateRiseFail (p : Fin 24) (s : State) : State := if (slot s p).st = .ramp then slotFet p 6 s else s
/-- RAMP_TIMEOUT (R195): the timer does not run while the input warning holds the ramp. -/
def rampTimeout (p : Fin 24) (s : State) : State :=
  if (slot s p).st = .ramp ∧ s.pow.warn = false then slotTrip p 1 0 s else s
/-- RAMP_LONG: 1 s of ramp time. -/
def rampLong (p : Fin 24) (s : State) : State :=
  if (slot s p).st = .ramp ∧ s.pow.warn = false then slotTrip p 5 0 s else s

/-! ## Regulation, trips, model (R193 to R197) -/

/-- FAST_TRIP (R194). -/
def fastTrip (p : Fin 24) (s : State) : State :=
  match (slot s p).st with
  | .ramp => slotTrip p 1 2 s
  | .on | .foldback => slotTrip p 2 0 s
  | _ => s

/-- One step of a model element: `d += (p * rth - d) * (2e-6 / tau)`. -/
def elementStep (d p rth tau : Rat) : Rat := d + (p * rth - d) * ((2 / 1000000) / tau)
/-- A field of SPW_Sn_MODEL; 0 acts as 1. -/
def modelField (w : Word) (hi lo : Nat) : Rat := (max 1 (fld w hi lo) : Nat)

/-- MODEL_UPDATE: one 2 us evaluation of R196 from the measured V_DS (mV), current (mA), output voltage
(10 mV) and group sensor (0.25 degC). -/
def modelUpdate (p : Fin 24) (vds iout : Half) (vout : BitVec 13) (tsense : BitVec 11) (s : State) : State :=
  let x := slot s p
  let on := x.st.gateOn
  let m := (slotSet s p).model
  let pw : Rat := if on then ((vds.toNat * iout.toNat : Nat) : Rat) / 1000000 else 0
  let da := elementStep x.da pw (modelField m 7 0 / 20) (modelField m 15 8 / 10000)
  let db := elementStep x.db pw (modelField m 23 16 / 10) (modelField m 31 24 / 200)
  let t : Rat := (tsense.toInt : Rat) / 4 + da + db
  let q := (t * 4).floor
  let s1 := updGroup (groupOf p) (fun g => { g with tsense := tsense.toInt }) s
  let s2 := updSlot p (fun x =>
    { x with da := da, db := db, tmodel := q, tpeak := max x.tpeak q,
             iout := if on then min 8191 iout.toNat else 0, vout := if on then vout.toNat else x.vout,
             peak := if on then max x.peak iout.toNat else x.peak }) s1
  if on ∧ (modelTrip s p : Rat) ≤ t then slotTrip p (if x.st = .ramp then 1 else 4) 1 s2 else s2

/-- FOLDBACK_ENTRY (R193). -/
def foldbackEntry (p : Fin 24) (s : State) : State :=
  if (slot s p).st = .on then updSlot p (fun x => { x with st := .foldback }) s else s
/-- FOLDBACK_EXIT (R193). -/
def foldbackExit (p : Fin 24) (s : State) : State :=
  if (slot s p).st = .foldback then updSlot p (fun x => { x with st := .on }) s else s
/-- OVERCURRENT (R193). -/
def overcurrent (p : Fin 24) (s : State) : State := if (slot s p).st = .foldback then slotTrip p 3 0 s else s
/-- GATE_FAULT (R197): a gate commanded fully on fails in ON. -/
def gateFault (p : Fin 24) (s : State) : State := if (slot s p).st = .on then slotFet p 6 s else s
/-- RETRIES_RESET: 60 s continuously in ON or FOLDBACK. -/
def retriesReset (p : Fin 24) (s : State) : State :=
  match (slot s p).st with
  | .on | .foldback => updSlot p (fun x => { x with retries := 0 }) s
  | _ => s

/-! ## Groups (R197 to R199) -/

/-- Slots of a group. -/
def slotsOf (g : Fin 4) : List (Fin 24) := (allFin 24).filter fun p => groupOf p = g
/-- Open a group FET: its powered slots turn off with REASON GROUP, and the ports report the over-current (R51). -/
def groupOpen (g : Fin 4) (s : State) : State :=
  let s1 := (updGroup g (fun x => { x with closed := false, closing := false }) s).emit [.groupGate g false]
  let s2 := (slotsOf g).foldl (fun t p => slotOffTo p 10 t) s1
  if (group s g).closed then (slotsOf g).foldl (fun t p => portOverCurrent p t) s2 else s2
/-- Open a group FET for a shorted slot FET (R198). -/
def groupIsolate (p : Fin 24) (s : State) : State :=
  let g := groupOf p
  journalSlot 5 srcDevice p (countEv 18 (groupOpen g (updGroup g (fun x => { x with isol := true, islot := p.val % 6 }) s)))
/-- SHORTED_FET (R198). -/
def shortedFet (p : Fin 24) (s : State) : State :=
  if (slot s p).st = .fetFault then s
  else
    let s1 := slotFet p 7 s
    if grpPol s (groupOf p) then countEv 18 s1 else groupIsolate p s1
/-- A command closes a group FET; its gate has 1 ms to rise (R197). -/
def groupClose (g : Fin 4) (s : State) : State :=
  if (group s g).closed then s
  else (updGroup g (fun x => { x with closing := true }) s).emit [.groupGate g true]
/-- A slot of the group in FET_FAULT SHORTED under GRPPOL 0 (R199). -/
def shortedIn (s : State) (g : Fin 4) : Option (Fin 24) :=
  if grpPol s g then none
  else (slotsOf g).find? fun p => (slot s p).st = .fetFault && (slot s p).reason == 7
/-- GROUP_CLOSE: the gate of a group FET commanded to close has risen; a group with a shorted slot opens
again in the next cycle (R199). -/
def groupClosed (g : Fin 4) (s : State) : State :=
  if (group s g).closing then
    let s1 := updGroup g (fun x => { x with closed := true, closing := false, gfault := false, isol := false, islot := 0 }) s
    match shortedIn s1 g with
    | some p => groupIsolate p s1
    | none => s1
  else s
/-- GROUP_GATE_FAULT (R197). -/
def groupGateFault (g : Fin 4) (s : State) : State :=
  if (group s g).closing || (group s g).closed then groupOpen g (updGroup g (fun x => { x with gfault := true }) s) else s

/-! ## Retries, lockout, faults (R199 to R201) -/

/-- TRIP_HANDLING: PE1 at a device tick. -/
def tripHandling (p : Fin 24) (s : State) : State :=
  if !roleRuns s 29 || (slot s p).st != .tripped then s
  else if (slot s p).retries < slotRetryCount s p then updSlot p (fun x => { x with st := .retryWait }) s
  else journalSlot 3 srcDevice p (countEv 19 (updSlot p (fun x => { x with st := .lockout, locked := true }) s))
/-- BACKOFF_EXPIRED: OFF_REMAIN reaches 0. -/
def backoffExpired (p : Fin 24) (s : State) : State :=
  updSlot p (fun x =>
    if x.st = .retryWait then { x with offDue := s.time.tb, retries := min 15 (x.retries + 1), st := .seating }
    else { x with offDue := s.time.tb }) s
/-- Lockout clear (R201). -/
def lockoutClear (src : Nat) (p : Fin 24) (s : State) : State :=
  journalSlot 8 src p (updSlot p (fun x =>
    { x with locked := false, retries := 0,
             st := match x.st with
               | .tripped | .retryWait | .lockout => .seating
               | st => st }) s)
/-- FET fault clear (R199). -/
def fetClear (src : Nat) (p : Fin 24) (s : State) : State :=
  let x := slot s p
  if x.st != .fetFault then s
  else
    let s1 := updSlot p (fun y => { y with
      reason := 0, flashFet := none, st := if slotForced s p then .forcedOff else if y.locked then .lockout else y.restSt }) s
    let s2 := portEval (slotEntry p) (journalSlot 9 src p s1)
    if x.reason = 7 then groupClose (groupOf p) s2 else s2

/-! ## Limit (R203) -/

/-- A LIMIT value as it takes effect: 1 to CEIL. -/
def limitValue (s : State) (p : Fin 24) (v : Nat) : Nat := min (max 1 v) (max 1 (slotCeil s p))
/-- A raise while a reservation is held fits the budget. -/
def limitFits (s : State) (p : Fin 24) (v : Nat) : Bool :=
  !(slot s p).st.gateOn || limitValue s p v ≤ slotLimit s p ||
    reserved s + (limitValue s p v - slotLimit s p) ≤ budget s
/-- Set LIMIT. -/
def limitSet (p : Fin 24) (v : Nat) (s : State) : State :=
  setReg (spwAddr p 4) (pk [(limitValue s p v, 0, 6), (slotCeil s p, 8, 6)]) s

/-! ## Input watch (R204, R205) -/

/-- Store measured group inputs. -/
def vinPut (v : VinSample) (s : State) : State := eachFin 4 (fun g t => updGroup g (fun x => { x with vin := (Tbl.get v g).toNat }) t) s
/-- Highest group input. -/
def vinMax (s : State) : Nat := (allFin 4).foldl (fun n g => max n (group s g).vin) 0
/-- INPUT_WARNING: the watch measures the inputs; `slope` says the slope condition is true. -/
def inputWarning (v : VinSample) (slope : Bool) (s : State) : State :=
  let s1 := vinPut v s
  let level := vinMin s1 < vwarn s1
  let spread := vinMin s1 + 100 < vinMax s1
  let s2 := { s1 with pow := { s1.pow with level := level, slope := slope, spread := spread } }
  if (level ∨ slope = true ∨ spread) ∧ s.pow.warn = false then
    let s3 := countEv 61 { s2 with pow := { s2.pow with warn := true, warnCnt := min 255 (s2.pow.warnCnt + 1) } }
    lifeInc 8 (journalInput 1 (poweredMap s3) s3)
  else s2
/-- INPUT_WARNING_CLEAR: 10 ms with good input. -/
def inputWarningClear (v : VinSample) (s : State) : State :=
  let s1 := vinPut v s
  if vwarn s1 + 50 ≤ vinMin s1 ∧ vinMax s1 ≤ vinMin s1 + 80 then
    { s1 with pow := { s1.pow with warn := false, level := false, slope := false, spread := false } }
  else s1
/-- INPUT_UNDERVOLTAGE: the lowest input below 18.0 V for 50 us. -/
def inputUndervoltage (v : VinSample) (s : State) : State :=
  let s1 := vinPut v s
  if vinMin s1 < 1800 then
    let m := poweredMap s1
    let s2 := eachFin 24 (fun p t => slotOffTo p 9 t) s1
    if m = 0 then s2 else journalInput 2 m s2
  else s1

/-! ## Settings apply (R209) -/

/-- First slot of a settings fault. -/
def firstSlot (c : Fin 24 → Bool) : Option Nat := ((allFin 24).find? c).map fun p => p.val
/-- R209: code and slot of the settings' fault. -/
def spwCheck (s : State) : Option (Nat × Nat) :=
  match firstSlot fun p => fld (regv s (spwAddr p 0)) 2 1 == 3 with
  | some p => some (1, p)
  | none =>
    match firstSlot fun p => fld (regv s (spwAddr p 8)) 9 0 * fld (regv s (spwAddr p 8)) 24 17 < 40 with
    | some p => some (2, p)
    | none =>
      (firstSlot fun p => fld (regv s (spwAddr p 0xC)) 15 8 < fld (regv s (spwAddr p 0xC)) 23 16 + 10).map fun p => (3, p)
/-- Effects of an accepted SPW apply: settings of a ramp in progress are kept (R207), EN acts at once. -/
def spwApplied (old s : State) : State :=
  eachFin 24 (fun p t =>
    let k := slotSet old p
    let t1 := if (slot t p).st = .ramp ∧ k ≠ slotSet t p ∧ (slot t p).kept = none then
      updSlot p (fun x => { x with kept := some k }) t else t
    slotForceEval p t1) s

/-! ## Restart (R199, R207) -/

/-- SPOFF: the gate of a powered slot is turned off. -/
def slotCommandOff (p : Fin 24) (s : State) : State := slotOffTo p 0 s

end Sys2Proof.Machine
end

