-- ==== Sys2Proof/Machine/Session.lean ====
section
/-!
DEFINITION. The lease, the commissioning level and what ends them (R286 to R290, R319).
-/

namespace Sys2Proof.Machine

open Sys2Proof

/-- The lease is held by this master, and for master 4 by this node (R286). -/
def leaseHeldBy (s : State) (w : Who) : Bool := s.lease.owner = some w.m && (w.m.val ≠ 4 || s.lease.node = w.node)
/-- The commissioning level (R289). -/
def commLevel (s : State) (w : Who) : Bool := leaseHeldBy s w && (!s.od.sealed || s.lease.comm)

/-- Pending shadows of a writer return to the active value (R319). -/
def dropShadowsOf (m : Fin 16) (s : State) : State :=
  { s with regs := { s.regs with shadows := s.regs.shadows.filter fun h => h.writer ≠ m } }
/-- The key unlock of a master and the key its carrying interface holds are cleared (R73, R311). -/
def clearKeysOf (m : Fin 16) (s : State) : State :=
  { s with regs := { s.regs with
    unlock := s.regs.unlock &&& ~~~(BitVec.ofNat 16 (2 ^ m.val))
    heldKey := if h : m.val < 6 then Tbl.put s.regs.heldKey ⟨m.val, h⟩ none else s.regs.heldKey } }
/-- The key held for a master is cleared (R311). -/
def clearHeldKey (m : Fin 16) (s : State) : State :=
  if h : m.val < 6 then { s with regs := { s.regs with heldKey := Tbl.put s.regs.heldKey ⟨m.val, h⟩ none } } else s
/-- An adopt set by this master ends without effect (R323). -/
def adoptDrop (m : Fin 16) (s : State) : State :=
  if s.regs.adopt = some m then { s with regs := { s.regs with adopt := none, passAdopts := false } } else s
/-- An image load of this master ends: the slot becomes INVALID (R58, R73). -/
def imageAbortBy (m : Fin 16) (s : State) : State :=
  match s.img.load with
  | some (k, _, l) =>
    if l = m then { s with img := { s.img with load := none, slot := Tbl.upd s.img.slot k fun x => { x with st := .invalid } } } else s
  | none => s

/-- The lease becomes free: the owner's shadows are discarded, its level and its adopt end (R286, R319, R323). -/
def leaseEnd (s : State) : State :=
  match s.lease.owner with
  | some m =>
    let s1 := adoptDrop m (dropShadowsOf m s)
    { s1 with
      lease := { s1.lease with owner := none, node := 0, comm := false, challenge := none, commFails := 0 }
      od := { s1.od with commSt := 0 } }
  | none => s
/-- Revocation of the lease: as a release, the held key cleared and EV8 (R286, R311, R332). -/
def leaseRevoke (s : State) : State :=
  match s.lease.owner with
  | some m => countEv 8 (clearHeldKey m (leaseEnd s))
  | none => s
/-- Owner loss of a master: the lease, where it holds it, is revoked (R286). -/
def ownerLoss (m : Fin 16) (s : State) : State := if s.lease.owner = some m then leaseRevoke s else s
/-- The lease timer runs for another 10 s. -/
def leaseTimer (s : State) : State := { s with lease := { s.lease with due := s.time.tb + 10000000000 } }
/-- A lease action: 1 acquire, 2 renew, 3 release. The status code and the state (R286). -/
def leaseAction (w : Who) (cmd : Nat) (s : State) : Nat × State :=
  match s.lease.owner with
  | none =>
    if cmd = 1 then
      (0, leaseTimer { s with lease := { s.lease with owner := some w.m, node := if w.m.val = 4 then w.node else 0, comm := false, challenge := none, commFails := 0 } })
    else (3, s)
  | some _ =>
    if !leaseHeldBy s w then (3, s)
    else if cmd = 3 then (0, leaseEnd s)
    else (0, leaseTimer s)

/-! ## Commissioning session (R290) -/

/-- Times of the last `span` ns. -/
def within60 (s : State) (l : List DWord) : List DWord := l.filter fun t => s.time.tb.toNat < t.toNat + 60000000000
/-- A challenge is drawn (OD 0x2F02 sub 3): status code and state. -/
def commChallenge (w : Who) (s : State) : Nat × State :=
  if !leaseHeldBy s w then (3, s)
  else if (match s.od.commLock with | some t => decide (s.time.tb.toNat < t.toNat) | none => false) then (3, s)
  else
    let (n, s1) := s.draw
    (0, { s1 with
      lease := { s1.lease with challenge := some (padTo 32 (Config.challenge n)) }
      od := { s1.od with commSt := 1, commLock := none, commDue := s1.time.tb + 60000000000 } })
/-- An Ed25519 signature verifies: a 64-byte signature under a 32-byte key (R5). -/
def edOk (key msg sig : List Byte) : Bool := key.length == 32 && sig.length == 64 && Config.edVerify key msg sig
/-- The bytes the owner signs: challenge, unique ID, master ID (R290). -/
def commMessage (c : List Byte) (m : Fin 16) : List Byte := c ++ leBytes Config.uniqueId.toNat 8 ++ [BitVec.ofNat 8 m.val]
/-- A response to the challenge (OD 0x2F02 sub 2): status code and state. Without an outstanding challenge, or after
its 60 s, it fails. -/
def commResponse (w : Who) (sig : List Byte) (s : State) : Nat × State :=
  if !leaseHeldBy s w then (3, s)
  else
    let key := odGet s 0x2F12 0
    let ok := match s.lease.challenge with
      | some c => decide (s.time.tb.toNat ≤ s.od.commDue.toNat) && edOk key (commMessage c w.m) sig
      | none => false
    if ok then
      (0, { s with lease := { s.lease with challenge := none, comm := true }, od := { s.od with commSt := 2 } })
    else
      let l := within60 s s.od.commFails ++ [s.time.tb]
      let full := decide (3 ≤ l.length)
      (0, countEv 7 { s with
        lease := { s.lease with challenge := none }
        od := { s.od with commSt := 3, commFails := if full then [] else l, commLock := if full then some (s.time.tb + 60000000000) else s.od.commLock } })

end Sys2Proof.Machine
end

