-- ==== Sys2Proof/Machine/Suspend.lean ====
section
/-!
DEFINITION. Link power states, wakes, resume and upstream resets of a hub tree (R65 to R73).
-/

namespace Sys2Proof.Machine

open Sys2Proof

/-- The tree of upstream `u`. -/
def tree (s : State) (u : Fin 3) : TreeS := Tbl.get s.usb.trees u
/-- Change a tree. -/
def updTree (s : State) (u : Fin 3) (f : TreeS → TreeS) : State :=
  { s with usb := { s.usb with trees := Tbl.upd s.usb.trees u f } }
/-- A logical hub. -/
def hub (s : State) (lh : Fin 6) : HubS := Tbl.get s.usb.hubs lh
/-- Change a logical hub. -/
def updHub (s : State) (lh : Fin 6) (f : HubS → HubS) : State :=
  { s with usb := { s.usb with hubs := Tbl.upd s.usb.hubs lh f } }

/-- The upstream in whose tree entry `e` stands now. -/
def treeOf (s : State) (e : Fin 40) : Option (Fin 3) := (place s e).map fun x => hubUp x.1
/-- Entry `e` stands in the tree of `u`. -/
def inTree (s : State) (u : Fin 3) (e : Fin 40) : Bool := treeOf s e = some u
/-- Change every port of a tree. -/
def updTreePorts (u : Fin 3) (f : PortS → PortS) (s : State) : State :=
  eachFin 40 (fun e t => if inTree s u e then updPort t e f else t) s

/-- R65, row 1: LGO_U1 or LGO_U2 on a tier-1 upstream link. -/
def lgoU12 (u : Fin 3) (u2 : Bool) (s : State) : State :=
  let h := hub s (tier1 u)
  if (if u2 then h.u2en else h.u1en) then
    (updTree s u fun t => { t with link := if u2 then .u2 else .u1 }).answer .lau
  else s.answer .lxu

/-- R72: LGO_U3 opens the U3 entry window. -/
def lgoU3 (u : Fin 3) (s : State) : State := updTree s u fun t => { t with entSS := true }

/-- R65: the tier-1 SuperSpeed upstream link enters U3; the entry window ends. -/
def u3Entry (u : Fin 3) (s : State) : State :=
  updTree (updTreePorts u (fun q =>
    if q.connSS && (q.link == .u0 || q.link == .u1 || q.link == .u2) then
      { q with link := .u3, treeSS := true, st := if q.st == .enabled then .suspended else q.st }
    else q) s) u fun t => { t with link := .u3, susSS := true, entSS := false }

/-- R65: the tier-1 USB 2.0 upstream has been idle for 3 ms. The L2 entry window is open (R72). -/
def l2Idle (u : Fin 3) (s : State) : State :=
  updTree (updTreePorts u (fun q =>
    if q.connHS && q.st == .enabled then
      { q with treeHS := true, st := .suspended, hs := q.hs.set pSuspend, l1 := false }
    else q) s) u fun t => { t with susHS := true, entHS := true }

/-- The LPM condition of a port of a tier-1 tree (R65). -/
def lpmQuiet (q : PortS) : Bool := q.l1 || q.st == .suspended || q.st == .disabled || !q.connHS

/-- R65: LPM transaction to a hub half. -/
def lpmHub (lh : Fin 6) (s : State) : State :=
  if hubTier lh = 2 then s.answer .nyet
  else
    let u := hubUp lh
    let m := Tbl.get s.usb.mf u
    if ((allFin 40).all fun e => !inTree s u e || lpmQuiet (port s e)) && m.resp.isEmpty && m.reports.isEmpty then
      s.answer (.done [])
    else s.answer .nyet

/-- R65: LPM transaction routed to a device on a slot. -/
def lpmDevice (p : Fin 24) (ack : Bool) (s : State) : State :=
  let q := port s (slotEntry p)
  if q.connHS && q.st == .enabled then
    (if ack then (putPort s (slotEntry p) { q with l1 := true }).answer (.done []) else s.answer .nyet)
  else s

/-- Start upstream wake signalling on a half of a tree: the wake window opens (R67). -/
def startWake (u : Fin 3) (hs : Bool) (s : State) : State :=
  let t := tree s u
  if (if hs then t.winHS else t.winSS) then s
  else (updTree s u fun t => if hs then { t with winHS := true } else { t with winSS := true }).emit [.upWake u hs]

/-- The tree's half is suspended. -/
def treeSuspended (s : State) (u : Fin 3) (hs : Bool) : Bool :=
  if hs then (tree s u).susHS else (tree s u).susSS
/-- The tree's entry window on a half is open (R72). -/
def entryWindow (s : State) (u : Fin 3) (hs : Bool) : Bool :=
  if hs then (tree s u).entHS else (tree s u).entSS

/-- DEVICE_REMOTE_WAKEUP of the hub half carrying entry `e`. -/
def halfRw (s : State) (e : Fin 40) : Bool :=
  match place s e with
  | some (lh, _) => (hub s lh).rwHS
  | none => false

/-- A wake from a device (R67, R72): latched in an entry window; propagated in a suspended tree when its
enable is set; otherwise it resumes only a selectively suspended port. -/
def deviceWake (e : Fin 40) (hs : Bool) (s : State) : State :=
  let q := port s e
  match treeOf s e with
  | none => s
  | some u =>
    if q.st != .suspended && !entryWindow s u hs then s
    else if entryWindow s u hs then putPort s e { q with latched := true }
    else if treeSuspended s u hs && (!hs || halfRw s e) then
      startWake u hs (putPort s e { q with waking := true })
    else if q.selSus then
      (putPort s e { q with waking := true, resuming := true }).emit [.portResume e hs]
    else s

/-- A connect (0), disconnect (1) or over-current (2) as a wake source of a suspended tree (R67). -/
def changeWake (e : Fin 40) (hs : Bool) (kind : Fin 3) (s : State) : State :=
  let q := port s e
  match treeOf s e with
  | none => s
  | some u =>
    let en := if hs then halfRw s e else q.rwMask.getLsbD kind.val
    if entryWindow s u hs then putPort s e { q with latched := true }
    else if treeSuspended s u hs && en then startWake u hs (putPort s e { q with waking := true })
    else s

/-- An event change of the MF as a wake (R66, R67). -/
def mfWake (u : Fin 3) (s : State) : State :=
  let t := tree s u
  if t.entHS then updTree s u fun t => { t with mfLatched := true }
  else if t.susHS && t.mfRw then startWake u true s
  else s

/-- R69 to R71: the host's resume governs; every tree-suspended port is resumed, the marks clear, wakes in
progress are satisfied and keep the change bit they will set. -/
def hostResume (u : Fin 3) (hs : Bool) (s : State) : State :=
  let go (e : Fin 40) (t : State) : State :=
    let q := port t e
    if inTree s u e && (if hs then q.treeHS else q.treeSS) then
      (putPort t e { q with resuming := true, treeHS := q.treeHS && !hs, treeSS := q.treeSS && hs,
                            latched := false }).emit [.portResume e hs]
    else if inTree s u e && q.waking && q.selSus && (if hs then q.connHS else q.connSS) then
      (putPort t e { q with resuming := true }).emit [.portResume e hs]
    else t
  let fw := (allFin 40).filter fun e => inTree s u e && (port s e).waking && (port s e).connSS
  let s1 := updTree (eachFin 40 go s) u fun t =>
    if hs then { t with susHS := false, winHS := false, entHS := false, mfLatched := false }
    else { t with susSS := false, winSS := false, entSS := false, link := .u0 }
  if hs then s1 else s1.emit (fw.map fun e => .functionWake u e)

/-- A latched wake of entry `e` is enabled at the end of the window (R72). -/
def replayEnabled (s : State) (e : Fin 40) (hs : Bool) : Bool := !hs || halfRw s e

/-- R72: replay of the wakes latched in an entry window; EV27 counts each. -/
def wakeReplay (u : Fin 3) (hs : Bool) (s : State) : State :=
  if hs || !(tree s u).entSS then
    let s0 := if hs then updTree s u fun t => { t with entHS := false } else s
    let go (e : Fin 40) (t : State) : State :=
      let q := port t e
      if inTree s u e && q.latched && (if hs then q.treeHS || q.connHS else q.treeSS || q.connSS) then
        let t1 := putPort t e { q with latched := false }
        if treeSuspended t u hs && replayEnabled s e hs then
          countEv 27 (startWake u hs (putPort t1 e { q with latched := false, waking := true }))
        else t1
      else t
    let s1 := eachFin 40 go s0
    if hs && (tree s1 u).mfLatched then
      let s2 := updTree s1 u fun t => { t with mfLatched := false }
      if (tree s2 u).mfRw && (tree s2 u).susHS then countEv 27 (startWake u true s2) else s2
    else s1
  else s

/-- PORT_INACTIVITY_TIMEOUT (R65): the slot's link is taken to U1 or U2 while its timeout is set. -/
def inactivity (p : Fin 24) (u2 : Bool) (s : State) : State :=
  updPort s (slotEntry p) fun q =>
    let t := if u2 then q.u2to else q.u1to
    if q.st == .enabled && q.connSS && (q.link == .u0 || (u2 && q.link == .u1)) && t != 0 && t != 0xFF then
      { q with link := if u2 then .u2 else .u1 }
    else q

/-- DEVICE_LGO_U1_U2 (R82): refused with LXU while the link is HELD. -/
def deviceLgo (p : Fin 24) (u2 : Bool) (s : State) : State :=
  let q := port s (slotEntry p)
  if q.held then s.answer .lxu
  else if q.st == .enabled && q.connSS then
    (putPort s (slotEntry p) { q with link := if u2 then .u2 else .u1 }).answer .lau
  else s.answer .lxu

/-! ## Upstream resets and link loss (R73) -/

/-- The SuperSpeed half of a hub in the default state. -/
def HubS.defaultSS (h : HubS) : HubS :=
  { h with cfgSS := false, addrSS := 0, depth := none, u1en := false, u2en := false, rwSS := false, cLocalSS := false,
           cOverSS := false, nrdy := false }
/-- The USB 2.0 half of a hub in the default state. -/
def HubS.defaultHS (h : HubS) : HubS :=
  { h with cfgHS := false, addrHS := 0, alt := false, rwHS := false, cLocalHS := false, cOverHS := false }

/-- A port loses one half: that half's PORT_POWER and status bits go; a device connected through it is
disconnected and attaches again through whichever half accepts it (R73). -/
def PortS.loseHalf (q : PortS) (hs ssOff : Bool) : PortS :=
  let conn := if hs then q.connHS else q.connSS
  let q1 := q.onHalf hs fun h => { h with st := 0 }
  if conn && q.st != .disconnected && q.st != .seating && q1.powered then
    { q1 with treeSS := false, treeHS := false, selSus := false, l1 := false, waking := false,
              latched := false, resuming := false, ovrOff := false }.toPoweredFresh ssOff
  else q1

/-- The ports and hubs of one half of a tree return to the default state. -/
def treeDefault (u : Fin 3) (hs : Bool) (s : State) : State :=
  let s1 := eachFin 40 (fun e t => if inTree s u e then updPort t e (fun q => q.loseHalf hs (topoSsOff s e)) else t) s
  let s1 := eachFin 40 (fun e t =>
    if isAway s e && topoOwner s e = u.val + 1 then
      updPort t e fun q => if hs then { q with awayHS := { q.awayHS with st := 0 } } else { q with awaySS := { q.awaySS with st := 0 } }
    else t) s1
  let f (h : HubS) : HubS := if hs then h.defaultHS else h.defaultSS
  let s2 := updHub (updHub s1 (tier1 u) f) (tier2 u) f
  let s3 := updTree s2 u fun t =>
    if hs then { t with t2hs := { st := 0, chg := 0 }, susHS := false, winHS := false, entHS := false, mfLatched := false }
    else { t with t2ss := { st := 0, chg := 0 }, susSS := false, winSS := false, entSS := false }
  portEvalAll s3

/-- The rows of R73 for the MF master of upstream `u`; `mid` when a vendor request's data stage had not
completed. -/
def mfDefault (u : Fin 3) (mid : Bool) (s : State) : State :=
  let m : Fin 16 := ⟨u.val, by omega⟩
  let s1 := updTree s u fun t => { t with mfAddr := 0, mfCfg := false, mfRw := false }
  let s2 := { s1 with usb := { s1.usb with mf := Tbl.upd s1.usb.mf u fun f =>
    { f with status := if mid then 8 else f.status, resp := [], reports := [], changed := [], lostRep := false } } }
  imageAbortBy m (ownerLoss m (dropShadowsOf m (clearKeysOf m s2)))

/-- UPSTREAM_USB2_RESET; the link then runs at high speed where the host answers the chirp (R12, R54). -/
def upUsb2Reset (u : Fin 3) (hi mid : Bool) (s : State) : State :=
  countEv 23 (mfDefault u mid (treeDefault u true (xptAbortTree u true (updTree s u fun t => { t with hiSpeed := hi }))))
/-- UPSTREAM_HOT_RESET and UPSTREAM_WARM_RESET; the link that was in service stands in U0 after it. -/
def upSsReset (u : Fin 3) (s : State) : State :=
  let awake (l : LinkSt) : LinkSt := if l == .u1 || l == .u2 || l == .u3 || l == .recovery then .u0 else l
  countEv 23 (treeDefault u false (xptAbortTree u false (updTree s u fun t => { t with link := awake t.link })))
/-- The effect of a link loss on both halves and the MF. -/
def upLinkLossTree (u : Fin 3) (mid : Bool) (s : State) : State :=
  countEv 23 (mfDefault u mid (treeDefault u false (treeDefault u true (xptAbortTree u true s))))

end Sys2Proof.Machine
end

