-- ==== Sys2Proof/Machine/Failover.lean ====
section
/-!
DEFINITION. Failover sets, detach and re-attach, bridging and upstream presence (R79 to R89).
-/

namespace Sys2Proof.Machine

open Sys2Proof

/-- The failover machine of set `x`. -/
def fo (s : State) (x : Fin 2) : FoS := Tbl.get s.usb.fo x
/-- Change a failover machine. -/
def updFo (s : State) (x : Fin 2) (f : FoS → FoS) : State :=
  { s with usb := { s.usb with fo := Tbl.upd s.usb.fo x f } }
/-- The other upstream of the pair. -/
def foOther (x : Fin 2) : Fin 2 := if x.val = 0 then 1 else 0
/-- Upstream index of a set owner. -/
def foUp (x : Fin 2) : Fin 3 := ⟨x.val, by omega⟩
/-- Record a refusal (R81). -/
def foRefuse (code : Nat) (s : State) : State := { s with usb := { s.usb with foRefuse := code } }

/-- FAIL_HOLD in ms (USBP_FO_CFG.HOLD, nearer limit applied). -/
def failHold (s : State) : Nat := min 5000 (max 10 (fld (regv s 0x57200) 12 0))
/-- AUTO of set `x`. -/
def foAuto (s : State) (x : Fin 2) : Bool := bit (regv s 0x57200) (13 + x.val)
/-- BRIDGE. -/
def foBridge (s : State) : Bool := bit (regv s 0x57200) 15

/-- A failover is in effect (R40, R81): either set ACTIVE. -/
def failoverInEffect (s : State) : Bool := (fo s 0).st == .active || (fo s 1).st == .active

/-- Hold one slot's link at a detach (R82): the port of the side that detaches goes to DISCONNECTED and
its halves stay with that side; the new side's halves begin cleared, or are those kept for it. -/
def holdPort (bridgeOn : Bool) (ssOff : Bool) (q : PortS) : PortS :=
  let heldHS := q.connHS && (q.st == .enabled || q.st == .suspended)
  let ssLinked := q.connSS && (q.st == .enabled || q.st == .suspended || q.st == .reset)
  let link := if ssLinked && (q.link == .u1 || q.link == .u2 || q.link == .u3) then .u0 else q.link
  let q1 := { q with held := true, heldHS := heldHS, heldSpeed := q.speed, link := link,
                     bridge := q.bridge || (bridgeOn && heldHS), tt := Tbl.fill 4 false }
  let q2 := q1.toDisconnected ssOff
  { q2 with ss := q.awaySS, hs := q.awayHS, awaySS := q2.ss, awayHS := q2.hs }

/-- The detach tick for every entry of the set (R82); a suspended USB 2.0 port is resumed. -/
def detachSet (x : Fin 2) (s : State) : State :=
  (foSet s x).foldl (fun t e =>
    let q := port s e
    let t1 := putPort t e (holdPort (foBridge s) (topoSsOff s e) q)
    let t2 := if h : e.val < 64 then flushQueue ⟨e.val, h⟩ t1 else t1
    if q.connHS && q.st == .suspended then t2.emit [.portResume e true] else t2) s

/-- A FAILOVER record (TYPE 0x05): 1 on loss, 2 handover, 3 failback, with the bitmap of the set and FAIL_HOLD. -/
def journalFailover (x : Fin 2) (sub src hold : Nat) (s : State) : State :=
  let m := (foSet s x).foldl (fun a e => a + 2 ^ e.val) 0
  journal 5 sub src (objUp x.val) 0 (le32 m ++ le16 hold) s

/-- A failover or handover: detach, EV26, journal record, ACTIVE (R81, R82). A hold that has run kept the FAIL_HOLD
with which it started (R40). -/
def failOver (x : Fin 2) (trigger : Nat) (s : State) : State :=
  let s1 := detachSet x s
  let s2 := updFo s1 x fun f => { f with st := .active, reattach := true, cmd := none, startWait := false }
  let s3 := { s2 with usb := { s2.usb with foCnt := min 0xFFFF (s2.usb.foCnt + 1) } }
  let ran := (fo s x).st == .watch || (fo s x).st == .pending
  let hold := if trigger = 1 && ran then (fo s x).holdMs else failHold s
  journalFailover x trigger (if trigger = 2 then (fo s x).cmdBy.val else srcDevice) hold (lifeInc 4 (countEv 26 s3))

/-- FAIL_HOLD_EXPIRED (R81): Y present fails over, Y lost waits. -/
def holdExpired (x : Fin 2) (s : State) : State :=
  if (fo s x).st == .watch then
    (if (tree s (foUp (foOther x))).lost then updFo s x fun f => { f with st := .pending }
     else failOver x 1 s)
  else s

/-- START_WAIT_EXPIRED (R80). -/
def startWaitExpired (x : Fin 2) (s : State) : State :=
  if (fo s x).startWait && !(tree s (foUp x)).everCfg then
    let s1 := updFo s x fun f => { f with startWait := false }
    if (fo s x).st == .normal || (fo s x).st == .watch then
      (if (tree s (foUp (foOther x))).lost then updFo s1 x fun f => { f with st := .pending }
       else failOver x 1 s1)
    else s1
  else s

/-- ALTERNATE_PRESENT (R81, PENDING row). -/
def alternatePresent (x : Fin 2) (s : State) : State :=
  if (fo s x).st == .pending && !(tree s (foUp (foOther x))).lost then failOver x 1 s else s

/-- HANDOVER: the command waiting for set `x` is taken (R81). -/
def handover (x : Fin 2) (s : State) : State :=
  if (fo s x).cmd = some true then
    let s1 := updFo s x fun f => { f with cmd := none }
    match (fo s x).st with
    | .empty => foRefuse 2 s1
    | .normal | .watch => if (tree s (foUp (foOther x))).lost then foRefuse 1 s1 else failOver x 2 s1
    | .pending => foRefuse 1 s1
    | .active => foRefuse 5 s1
  else s

/-- FAILBACK: the command waiting for set `x` is taken (R81, R86). -/
def failback (x : Fin 2) (s : State) : State :=
  if (fo s x).cmd = some false then
    let s1 := updFo s x fun f => { f with cmd := none }
    match (fo s x).st with
    | .empty => foRefuse 2 s1
    | .active =>
      let u := foUp x
      let y := foUp (foOther x)
      let h := hub s (tier1 u)
      if !(tree s u).lost && (h.cfgSS || h.cfgHS) then
        let s2 := updTree s1 y fun t =>
          { t with t2ss := (t.t2ss.clr (pConn ||| pEnable)).mark cConn, t2hs := (t.t2hs.clr (pConn ||| pEnable)).mark cConn }
        let s3 := updHub s2 (tier2 y) fun h => { h.defaultSS.defaultHS with standby := true }
        let s4 := (foSet s x).foldl (fun t e => updPort t e fun q =>
          { q with awaySS := { q.awaySS with st := 0 }, awayHS := { q.awayHS with st := 0 } }) (detachSet x s3)
        let s5 := updFo s4 x fun f => { f with st := .normal, reattach := true }
        let s6 := journalFailover x 3 (fo s x).cmdBy.val (failHold s) (countEv 28 s5)
        if (tree s6 y).susSS || (tree s6 y).susHS then
          let a := if (tree s6 y).susSS then startWake y false s6 else s6
          if (tree s6 y).susHS && (hub s6 (tier1 y)).rwHS then startWake y true a else a
        else s6
      else foRefuse 3 s1
    | _ => foRefuse 4 s1
  else s

/-- REATTACH: the tick after a detach (R83) or a failback (R86). -/
def reattach (x : Fin 2) (s : State) : State :=
  if (fo s x).reattach then
    let s1 := updFo s x fun f => { f with reattach := false }
    if (fo s x).st == .active then
      let y := foUp (foOther x)
      let s2 := updHub s1 (tier2 y) fun h => { h with standby := false }
      (updTree s2 y fun t =>
        { t with t2ss := (t.t2ss.set pConn).mark cConn, t2hs := (t.t2hs.set pConn).mark cConn }).emit [.erdy (tier1 y)]
    else (foSet s1 x).foldl (fun t e => portEval e t) s1
  else s

/-- HELD_RELEASE: a held link leaves Recovery other than in U0 (R83). -/
def heldRelease (p : Fin 24) (s : State) : State :=
  let e := slotEntry p
  let q := port s e
  if q.held then
    (if q.st == .powered then putPort s e (q.toPoweredFresh (topoSsOff s e))
     else putPort s e { q with held := false, heldHS := false, bridge := false, link := .rxDetect })
  else s

/-- BRIDGE_TIMEOUT (R84). -/
def bridgeTimeout (p : Fin 24) (s : State) : State := updPort s (slotEntry p) fun q => { q with bridge := false }

/-- The start-of-frame traffic of bridging ports at a device tick (R84). -/
def bridgeSof (s : State) : State :=
  eachFin 24 (fun p t =>
    let e := slotEntry p
    let q := port t e
    let sp := if q.held then q.heldSpeed else q.speed
    let n := (q.frameNo + 1) % 2048
    if !q.bridge then t
    else if sp == .hs then (putPort t e { q with frameNo := n }).emit [.sof p n]
    else if t.time.tick.toNat % 8 = 0 then
      (if sp == .ls then t.emit [.keepAlive p] else (putPort t e { q with frameNo := n }).emit [.sof p n])
    else t) s

/-- The first row of R81 at set `x`: X lost in NORMAL with AUTO starts the hold, once X's loss counts (R80). -/
def foWatch (x : Fin 2) (s : State) : State :=
  let t := tree s (foUp x)
  if (fo s x).st == .normal && foAuto s x && t.lost && t.everCfg then updFo s x fun f => { f with st := .watch, holdMs := failHold s } else s

/-- An upstream becomes lost (R79): LOST, EV29 for the pair, the tree and MF as on a link loss, and WATCH
when its loss counts (R80, R81). -/
def upLost (u : Fin 3) (mid : Bool) (s : State) : State :=
  if (tree s u).lost then s
  else
    let s1 := updTree s u fun t => { t with lost := true }
    let s2 := if u.val < 2 then countEv 29 s1 else s1
    let s3 := upLinkLossTree u mid s2
    if h : u.val < 2 then foWatch ⟨u.val, h⟩ s3 else s3

/-- The SuperSpeed link state of a lost upstream (R79). -/
def lossLink : LossLink → LinkSt
  | .ssInactive => .ssInactive
  | .ssDisabled => .ssDisabled
  | .rxDetect => .rxDetect
  | .polling => .polling

/-- UPSTREAM_LINK_LOSS: the link stands in one of the states of R79. -/
def upLinkLoss (u : Fin 3) (l : LossLink) (mid : Bool) (s : State) : State :=
  upLost u mid (updTree s u fun t => { t with link := lossLink l })

/-- UPSTREAM_PRESENT (R81): WATCH and PENDING return to NORMAL. -/
def upPresent (u : Fin 3) (ss : Bool) (s : State) : State :=
  if (tree s u).vbus && !coreFault s then
    let s1 := updTree s u fun t => { t with lost := false, link := if ss then .u0 else t.link }
    if h : u.val < 2 then
      let x : Fin 2 := ⟨u.val, h⟩
      if (fo s1 x).st == .watch || (fo s1 x).st == .pending then updFo s1 x fun f => { f with st := .normal } else s1
    else s1
  else s

/-- VBUS_RISE: an enabled upstream then presents its pull-up and termination (R382), unless the core is in
FAULT (R102). -/
def vbusRise (u : Fin 3) (s : State) : State :=
  updTree s u fun t => { t with vbus := true, presents := t.enabled && !coreFault s }

/-- VBUS_FALL (R79). -/
def vbusFall (u : Fin 3) (s : State) : State :=
  upLost u false (updTree s u fun t => { t with vbus := false, presents := false, link := .ssDisabled })

/-- A failover command code of R89 waits for the next tick. -/
def foCommand (m : Fin 16) (code : Nat) (s : State) : State :=
  match code with
  | 1 => updFo s 0 fun f => { f with cmd := some true, cmdBy := m }
  | 2 => updFo s 1 fun f => { f with cmd := some true, cmdBy := m }
  | 3 => updFo s 0 fun f => { f with cmd := some false, cmdBy := m }
  | 4 => updFo s 1 fun f => { f with cmd := some false, cmdBy := m }
  | _ => s

/-- After a topology apply: a set left empty has no machine; a new set begins in NORMAL (R81, R87). -/
def foRefresh (s : State) : State :=
  eachFin 2 (fun x t =>
    if (foSet t x).isEmpty then updFo t x fun f => { f with st := .empty, reattach := false }
    else if (fo t x).st == .empty then updFo t x fun f => { f with st := .normal } else t) s

end Sys2Proof.Machine
end

