-- ==== Sys2Proof/Machine/Topology.lean ====
section
/-!
DEFINITION. Validation of the topology table (R40) and the presentation of a changed layout (R44).
-/

namespace Sys2Proof.Machine

open Sys2Proof

/-- The first entry that satisfies a condition. -/
def firstEntry (c : Fin 40 → Bool) : Option Nat := ((allFin 40).find? c).map fun e => e.val
/-- The lowest upstream that satisfies a condition, coded 24 + u. -/
def firstUp (c : Nat → Bool) : Option Nat := ([0, 1, 2].find? c).map fun u => 24 + u

/-- ERR and ERRENT of R40 for the table as applied in `s`, or none when it is accepted. -/
def topoCheck (s : State) : Option (Nat × Nat) :=
  let alt3 (e : Fin 40) : Bool :=
    let a := topoAlt s e
    let o := topoOwner s e
    a != 0 && (a == 3 || !(o == 1 || o == 2) || a == o)
  match firstEntry fun e => topoOwner s e > 4 with
  | some n => some (1, n)
  | none =>
  match firstEntry fun e => 24 ≤ e.val && topoOwner s e == 4 with
  | some n => some (2, n)
  | none =>
  match firstEntry alt3 with
  | some n => some (3, n)
  | none =>
  match firstUp fun u => fCount s u > 0 && (pCount s u > 14 || fCount s u > 15) with
  | some n => some (4, n)
  | none =>
  match firstUp fun u => pCount s u > 29 with
  | some n => some (5, n)
  | none =>
    if (fo s 0).st == .active then some (6, 24) else if (fo s 1).st == .active then some (6, 25) else none

/-- Entry that stands at a place of the layout. -/
def occupant (s : State) (pl : Fin 6 × Nat) : Option (Fin 40) := (allFin 40).find? fun e => place s e = some pl

/-- The port of an entry that moves in the layout: it reports a disconnect where it stood connected, and the
new place keeps the PORT_POWER its host had set there. -/
def movePort (old s : State) (e : Fin 40) : PortS :=
  let base := (port s e).toDisconnected (topoSsOff s e)
  let base := { base with held := false, heldHS := false, bridge := false, cutOff := false, link := .ssDisabled }
  match place s e with
  | none => { base with ss := { st := 0, chg := 0 }, hs := { st := 0, chg := 0 } }
  | some pl =>
    match occupant old pl with
    | none => { base with ss := { st := 0, chg := 0 }, hs := { st := 0, chg := 0 } }
    | some o =>
      let q := port old o
      { base with
        ss := { st := q.ss.st &&& pPowerSS, chg := if q.connSS then q.ss.chg ||| cConn else q.ss.chg }
        hs := { st := q.hs.st &&& pPowerHS, chg := if q.connHS then q.hs.chg ||| cConn else q.hs.chg } }

/-- R44 for one upstream: `old` holds the layout before the apply, `s` the one after it. -/
def layoutChangeUp (old : State) (u : Fin 3) (s : State) : State :=
  if !old.usb.topoValid || tiers old u.val ≠ tiers s u.val || nSS old (tier1 u) ≠ nSS s (tier1 u) then
    -- the upstream disconnects for 100 ms and connects again; its MF is detached with it
    let s1 := treeDefault u false (treeDefault u true s)
    let s2 := if old.usb.topoValid then mfDefault u false s1 else s1
    updHub s2 (tier2 u) fun h => { h with standby := decide (fCount s u.val > 0) }
  else if nSS old (tier2 u) ≠ nSS s (tier2 u) then
    let s1 := updHub s (tier2 u) fun h => { h.defaultSS.defaultHS with standby := decide (fCount s u.val > 0) }
    updTree s1 u fun t =>
      { t with t2ss := (t.t2ss.clr pEnable).mark cConn, t2hs := (t.t2hs.clr pEnable).mark cConn }
  else s

/-- An accepted table becomes the layout (R44): entries that move report a disconnect and attach again. -/
def layoutChange (old s : State) : State :=
  let s := { s with usb := { s.usb with topoValid := true } }
  let s1 := eachFin 40 (fun e t =>
    if place old e = place s e && topoOwner old e = topoOwner s e then t
    else putPort t e (movePort old s e)) s
  let s2 := eachFin 3 (fun u t => layoutChangeUp old u t) s1
  portEvalAll (foRefresh s2)

end Sys2Proof.Machine
end

