-- ==== Sys2Proof/Machine/Hub.lean ====
section
/-!
DEFINITION. Hub class requests, status-change polls, hub descriptors and the requests of the
management function that need no dictionary (R45 to R63, R78).
-/

namespace Sys2Proof.Machine

open Sys2Proof

/-- A hub half can be addressed: it is in the layout and not a standby hub. -/
def hubReached (s : State) (lh : Fin 6) : Bool := hubPresent s lh && !(hub s lh).standby && (tree s (hubUp lh)).presents

/-- Act on the port a request names (R49): the internal port completes with no effect, a port number
beyond the hub's gets a Request Error. -/
def onPort (s : State) (lh : Fin 6) (hs : Bool) (n : Nat)
    (fe : Fin 40 → State → State) (fa : Fin 40 → State → State) (ft : Fin 3 → State → State) : State :=
  if !hubReached s lh then s
  else match portTarget s lh hs n with
    | .entry e => (fe e s).answer (.done [])
    | .away e => (fa e s).answer (.done [])
    | .tier2 u => (ft u s).answer (.done [])
    | .internal => s.answer (.done [])
    | .bad => s.answer .requestError

/-- Change the half an entry's owner kept (R82). -/
def onAway (hs : Bool) (f : HalfS → HalfS) (e : Fin 40) (s : State) : State :=
  updPort s e fun q => if hs then { q with awayHS := f q.awayHS } else { q with awaySS := f q.awaySS }
/-- Change a half of the tier-1 port that carries the tier-2 hub. -/
def onT2 (hs : Bool) (f : HalfS → HalfS) (u : Fin 3) (s : State) : State :=
  updTree s u fun t => if hs then { t with t2hs := f t.t2hs } else { t with t2ss := f t.t2ss }
/-- A request with no effect on this kind of port. -/
def noEffect {α : Type} (_ : α) (s : State) : State := s

/-! ## Power (R50) -/

/-- PORT_POWER bit of a half. -/
def powerMask (hs : Bool) : BitVec 16 := if hs then pPowerHS else pPowerSS

/-- SetPortFeature(PORT_POWER) on an entry's port: the port is powered logically and FORCE.HOST of a
HOSTPWR slot is released. -/
def setPowerEntry (hs : Bool) (e : Fin 40) (s : State) : State :=
  let s1 := updPort s e fun q => q.setPower hs true
  let s2 := if h : e.val < 24 then
      (if topoHostPwr s e && !isAway s e then slotForceHost ⟨e.val, h⟩ false s1 else s1) else s1
  portEval e s2

/-- ClearPortFeature(PORT_POWER): with HOSTPWR the slot is forced off when neither half stays powered. -/
def clearPowerEntry (hs : Bool) (e : Fin 40) (s : State) : State :=
  let s1 := updPort s e fun q => q.setPower hs false
  let off := !(port s1 e).powered
  let s2 := if h : e.val < 24 then
      (if off && topoHostPwr s e && !isAway s e then slotForceHost ⟨e.val, h⟩ true s1 else s1)
    else if off && (port s e).powered then xptPortPowerOff e s1 else s1
  portEval e s2

/-! ## Resets (R52, R78) -/

/-- A host reset begins on a port: bridging ends (R84). -/
def PortS.beginReset (q : PortS) (k : Fin 3) (hs : Bool) : PortS :=
  let h := if hs then { q with hs := (q.hs.clr pEnable).set pReset } else { q with ss := q.ss.set pReset }
  { h with st := .reset, resetKind := some k, bridge := false, errCount := 0 }

/-- A reset of a cut-off port under BABBLER runs and leaves the port disabled (R78). -/
def PortS.beginBlockedReset (q : PortS) (k : Fin 3) (hs : Bool) : PortS :=
  let h := if hs then { q with hs := (q.hs.clr pEnable).set pReset } else { q with ss := q.ss.set pReset }
  { h with resetKind := some k, bridge := false }

/-- SET_PORT_RESET on an entry's port. -/
def portResetEntry (hs : Bool) (e : Fin 40) (s : State) : State :=
  let q := port s e
  if 24 ≤ e.val then
    (if q.st == .disabled || q.st == .enabled || q.st == .error then
      xptPortReset e 0 (putPort s e (q.beginReset (if hs then 0 else 1) hs)) else s)
  else if hs then
    (if q.st == .disabled && q.babbler then (putPort s e (q.beginBlockedReset 0 true)).emit [.portReset e 0]
     else if (q.st == .disabled || q.st == .enabled) && q.connHS then
      (putPort s e (q.beginReset 0 true)).emit [.portReset e 0]
     else s)
  else if q.st == .enabled && q.connSS then (putPort s e (q.beginReset 1 false)).emit [.portReset e 1]
  else s

/-- SET_BH_PORT_RESET on an entry's port. -/
def portBhResetEntry (e : Fin 40) (s : State) : State :=
  let q := port s e
  if 24 ≤ e.val then
    (if q.st == .disabled || q.st == .enabled || q.st == .error then xptPortReset e 1 (putPort s e (q.beginReset 2 false)) else s)
  else if q.st == .disabled && q.babbler then (putPort s e (q.beginBlockedReset 2 false)).emit [.portReset e 2]
  else if (q.st == .enabled && q.connSS) || q.st == .error || (q.st == .disabled && q.cutOff && q.ovrOff) then
    (putPort s e (q.beginReset 2 false)).emit [.portReset e 2]
  else s

/-- A reset of the tier-1 port that carries the tier-2 hub completes at once: the hub's half returns to the
default state. -/
def t2Reset (hs bh : Bool) (u : Fin 3) (s : State) : State :=
  if (if hs then (tree s u).t2hs.has 0 else (tree s u).t2ss.has 0) then
    let s1 := updHub s (tier2 u) fun h => if hs then h.defaultHS else h.defaultSS
    let s2 := eachFin 40 (fun e t =>
      if (place s e).map (·.1) = some (tier2 u) then updPort t e (fun q => q.loseHalf hs (topoSsOff s e)) else t) s1
    let up : BitVec 16 := if hs && (tree s u).hiSpeed then pEnable ||| pHigh else pEnable
    portEvalAll (onT2 hs (fun h => (h.set up).mark (if bh then cReset ||| cBh else cReset)) u s2)
  else s

/-! ## Link state, suspend and the other port features -/

/-- PORT_LINK_STATE on an entry's port: U3 suspends it selectively, U0 resumes it, Rx.Detect restarts a half in
SS.Disabled unless BABBLER is set (R65, R78). -/
def linkStateEntry (ls : Nat) (e : Fin 40) (s : State) : State :=
  let q := port s e
  if ls = 3 then
    (if q.st == .enabled && q.connSS then
      (let s1 := putPort s e { q with selSus := true }
       if 24 ≤ e.val then xptPortSuspend e s1 else s1) else s)
  else if ls = 0 then
    (if q.st == .suspended && q.connSS then
      (let s1 := (putPort s e { q with resuming := true }).emit [.portResume e false]
       if 24 ≤ e.val then xptPortResume e s1 else s1) else s)
  else if ls = 5 then
    (if q.st == .disabled && q.link == .ssDisabled && !q.babbler && !q.connHS then
      putPort s e ({ q with ovrOff := false, ss := q.ss.clr (pConn ||| pEnable) }.toPoweredFresh (topoSsOff s e))
     else if q.st == .powered && q.link == .ssDisabled && !q.babbler && !topoSsOff s e then
      putPort s e { q with ssdis := false, pollFails := 0, link := .rxDetect }
     else s)
  else s

/-- U1 or U2 timeout, remote wake mask and FORCE_LINKPM_ACCEPT of an entry's port. -/
def timeoutEntry (u2 : Bool) (t : Byte) (e : Fin 40) (s : State) : State :=
  updPort s e fun q => if u2 then { q with u2to := t } else { q with u1to := t }

/-- PORT_SUSPEND on an entry's port. -/
def suspendEntry (e : Fin 40) (s : State) : State :=
  let q := port s e
  if q.st == .enabled && q.connHS then
    (let s1 := putPort s e { q with selSus := true }
     if 24 ≤ e.val then xptPortSuspend e s1 else s1) else s
/-- PORT_SUSPEND cleared on an entry's port. -/
def resumeEntry (e : Fin 40) (s : State) : State :=
  let q := port s e
  if q.st == .suspended && q.connHS then
    (let s1 := (putPort s e { q with resuming := true }).emit [.portResume e true]
     if 24 ≤ e.val then xptPortResume e s1 else s1) else s
/-- PORT_ENABLE cleared on an entry's port (R52). -/
def disableEntry (e : Fin 40) (s : State) : State :=
  let q := port s e
  if q.st == .enabled && q.connHS then
    putPort s e { q with st := .disabled, hs := q.hs.clr pEnable, cutrsn := 3, l1 := false } else s

/-- What the engine of the port does for a feature request. -/
def runPortReq (r : PortReq) (e : Fin 40) (s : State) : State :=
  match r with
  | .power hs true => setPowerEntry hs e s
  | .power hs false => clearPowerEntry hs e s
  | .reset hs => portResetEntry hs e s
  | .bhReset => portBhResetEntry e s
  | .linkState n => linkStateEntry n e s
  | .timeout u2 t => timeoutEntry u2 t e s
  | .wakeMask m => updPort s e fun q => { q with rwMask := m }
  | .forceLpm on => updPort s e fun q => { q with forceLpm := on }
  | .suspend true => suspendEntry e s
  | .suspend false => resumeEntry e s
  | .test mode => updPort s e fun q => { q with test := mode, hs := q.hs.set pTest }
  | .disable => disableEntry e s
/-- A feature request on an entry's port: it waits in the mailbox of the port's engine while that engine is lost
(R169). -/
def portRequest (r : PortReq) (e : Fin 40) (s : State) : State :=
  if (port s e).holding then updPort s e fun q => { q with reqs := q.reqs ++ [r] } else runPortReq r e s

/-! ## The hub requests -/

/-- SET_PORT_POWER. -/
def setPortPower (lh : Fin 6) (hs : Bool) (n : Nat) (s : State) : State :=
  onPort s lh hs n (portRequest (.power hs true)) (onAway hs fun h => h.set (powerMask hs))
    (fun u t =>
      let conn := !(hub t (tier2 u)).standby
      onT2 hs (fun h =>
        let h1 := h.set (powerMask hs)
        if !conn then h1
        else if h.has 0 then h1
        else (h1.set (if hs then pConn else pConn ||| pEnable)).mark cConn) u t)

/-- CLEAR_PORT_POWER. -/
def clearPortPower (lh : Fin 6) (hs : Bool) (n : Nat) (s : State) : State :=
  onPort s lh hs n (portRequest (.power hs false)) (onAway hs fun h => h.clr (powerMask hs))
    (onT2 hs fun h => { h with st := 0 })

/-- SET_PORT_RESET. -/
def setPortReset (lh : Fin 6) (hs : Bool) (n : Nat) (s : State) : State :=
  onPort s lh hs n (portRequest (.reset hs)) noEffect (t2Reset hs false)
/-- SET_BH_PORT_RESET (SuperSpeed half). -/
def setBhPortReset (lh : Fin 6) (n : Nat) (s : State) : State :=
  onPort s lh false n (portRequest .bhReset) noEffect (t2Reset false true)

/-- SET_PORT_LINK_STATE. -/
def setPortLinkState (lh : Fin 6) (n : Nat) (ls : Fin 16) (s : State) : State :=
  onPort s lh false n (portRequest (.linkState ls.val)) noEffect noEffect

/-- SET_PORT_U1_TIMEOUT and SET_PORT_U2_TIMEOUT. -/
def setPortTimeout (u2 : Bool) (lh : Fin 6) (n : Nat) (t : Byte) (s : State) : State :=
  onPort s lh false n (portRequest (.timeout u2 t)) noEffect noEffect

/-- SET_PORT_REMOTE_WAKE_MASK. -/
def setWakeMask (lh : Fin 6) (n : Nat) (m : Byte) (s : State) : State :=
  onPort s lh false n (portRequest (.wakeMask m)) noEffect noEffect

/-- SET_FORCE_LINKPM_ACCEPT. -/
def setForceLpm (lh : Fin 6) (n : Nat) (on : Bool) (s : State) : State :=
  onPort s lh false n (portRequest (.forceLpm on)) noEffect noEffect

/-- SET_PORT_SUSPEND (USB 2.0 half). -/
def setPortSuspend (lh : Fin 6) (n : Nat) (s : State) : State :=
  onPort s lh true n (portRequest (.suspend true)) noEffect noEffect

/-- CLEAR_PORT_SUSPEND (USB 2.0 half). -/
def clearPortSuspend (lh : Fin 6) (n : Nat) (s : State) : State :=
  onPort s lh true n (portRequest (.suspend false)) noEffect noEffect

/-- SET_PORT_TEST (USB 2.0 half), test modes 1 to 5. -/
def setPortTest (lh : Fin 6) (n : Nat) (mode : Fin 5) (s : State) : State :=
  onPort s lh true n (portRequest (.test (mode.val + 1))) noEffect noEffect

/-- CLEAR_PORT_ENABLE (USB 2.0 half). -/
def clearPortEnable (lh : Fin 6) (n : Nat) (s : State) : State :=
  onPort s lh true n (portRequest .disable) noEffect (onT2 true fun h => h.clr pEnable)

/-- CLEAR_PORT_CHANGE: one change bit, by its wPortChange position. -/
def clearPortChange (lh : Fin 6) (hs : Bool) (n : Nat) (b : Fin 8) (s : State) : State :=
  let m : BitVec 16 := BitVec.ofNat 16 (2 ^ b.val)
  onPort s lh hs n (fun e s => updPort s e fun q => q.onHalf hs fun h => h.unmark m)
    (onAway hs fun h => h.unmark m) (onT2 hs fun h => h.unmark m)

/-! ## Status -/

/-- SuperSpeed link state code (PRESUMED: the hub class coding of USB 3.2). -/
def LinkSt.code : LinkSt → Nat
  | .u0 => 0 | .u1 => 1 | .u2 => 2 | .u3 => 3 | .ssDisabled => 4 | .rxDetect => 5 | .ssInactive => 6
  | .polling => 7 | .recovery => 8 | .hotReset => 9 | .compliance => 10 | .loopback => 11

/-- wPortStatus of an entry's half: the kept bits, over-current (R51), and the link state of the SuperSpeed half. -/
def portStatusWord (s : State) (e : Fin 40) (hs : Bool) : BitVec 16 :=
  let q := port s e
  let oc : BitVec 16 := if overCurrentNow s e then cOver else 0
  if hs then q.hs.st ||| oc else q.ss.st ||| oc ||| BitVec.ofNat 16 (q.link.code * 32)

/-- GET_PORT_STATUS. The extended status of a SuperSpeed half adds the sublink word on Gen 2 links. -/
def getPortStatus (lh : Fin 6) (hs : Bool) (n : Nat) (ext : Bool) (s : State) : State :=
  if !hubReached s lh then s
  else
    let ans (st chg : BitVec 16) (tail : List Byte) := s.answer (.done (le16 st.toNat ++ le16 chg.toNat ++ tail))
    match portTarget s lh hs n with
    | .entry e =>
      let q := port s e
      ans (portStatusWord s e hs) (if hs then q.hs.chg else q.ss.chg)
        (if ext && !hs && q.speed == .gen2 then [0, 0, 0, 0] else [])
    | .away e =>
      let q := port s e
      if hs then ans q.awayHS.st q.awayHS.chg [] else ans (q.awaySS.st ||| BitVec.ofNat 16 (4 * 32)) q.awaySS.chg []
    | .tier2 u =>
      let t := tree s u
      if hs then ans t.t2hs.st t.t2hs.chg [] else ans t.t2ss.st t.t2ss.chg []
    | .internal =>
      if hubTier lh = 1 then
        ans (pConn ||| pEnable ||| pPowerHS ||| (if (tree s (hubUp lh)).hiSpeed then pHigh else 0)) 0 []
      else ans pPowerHS 0 []
    | .bad => s.answer .requestError

/-- GET_HUB_STATUS: HUB_LOCAL_POWER is 1 while VIN24 is below 18 V (R49). -/
def getHubStatus (lh : Fin 6) (hs : Bool) (s : State) : State :=
  if !hubReached s lh then s
  else
    let h := hub s lh
    let st := if vinUnder s then 1 else 0
    let c := (if (if hs then h.cLocalHS else h.cLocalSS) then 1 else 0) + (if (if hs then h.cOverHS else h.cOverSS) then 2 else 0)
    s.answer (.done (le16 st ++ le16 c))

/-- CLEAR_HUB_FEATURE: C_HUB_LOCAL_POWER or C_HUB_OVER_CURRENT. -/
def clearHubFeature (lh : Fin 6) (hs ovc : Bool) (s : State) : State :=
  if !hubReached s lh then s
  else (updHub s lh fun h =>
    match hs, ovc with
    | false, false => { h with cLocalSS := false }
    | true, false => { h with cLocalHS := false }
    | false, true => { h with cOverSS := false }
    | true, true => { h with cOverHS := false }).answer (.done [])

/-- GET_PORT_ERR_COUNT. -/
def getPortErrCount (lh : Fin 6) (n : Nat) (s : State) : State :=
  if !hubReached s lh then s
  else match portTarget s lh false n with
    | .entry e => s.answer (.done (le16 (port s e).errCount.toNat))
    | .bad => s.answer .requestError
    | _ => s.answer (.done [0, 0])

/-- Change bits of a port number, for the status-change bitmap. -/
def changeOf (s : State) (lh : Fin 6) (hs : Bool) (n : Nat) : Bool :=
  match portTarget s lh hs n with
  | .entry e => (if hs then (port s e).hs.chg else (port s e).ss.chg) != 0
  | .away e => (if hs then (port s e).awayHS.chg else (port s e).awaySS.chg) != 0
  | .tier2 u => (if hs then (tree s u).t2hs.chg else (tree s u).t2ss.chg) != 0
  | _ => false

/-- Status-change bitmap of a hub half (R56). -/
def changeBitmap (s : State) (lh : Fin 6) (hs : Bool) : Nat :=
  let h := hub s lh
  let hubBit := if (if hs then h.cLocalHS || h.cOverHS else h.cLocalSS || h.cOverSS) then 1 else 0
  (List.range (nSS s lh)).foldl (fun a i => if changeOf s lh hs (i + 1) then a + 2 ^ (i + 1) else a) hubBit

/-- k of R45. -/
def hsBytes (s : State) (lh : Fin 6) : Nat := nHS s lh / 8 + 1

/-- STATUS_CHANGE_POLL (R56). -/
def statusChangePoll (lh : Fin 6) (hs : Bool) (s : State) : State :=
  if !hubReached s lh then s
  else
    let b := changeBitmap s lh hs
    if b = 0 then (if hs then s.answer .nak else (updHub s lh fun h => { h with nrdy := true }).answer .nrdy)
    else s.answer (.done (leBytes b (if hs then hsBytes s lh else 2)))

/-- ERDY in the tick in which a change bit is set, to a host that was answered NRDY (R56). -/
def erdyTick (s : State) : State :=
  eachFin 6 (fun lh t =>
    if (hub t lh).nrdy && hubReached t lh && changeBitmap t lh false ≠ 0 then
      (updHub t lh fun h => { h with nrdy := false }).emit [.erdy lh] else t) s

/-- GET_HUB_DESCRIPTOR (R46). -/
def getHubDescriptor (lh : Fin 6) (hs : Bool) (s : State) : State :=
  if !hubReached s lh then s
  else
    let n := nSS s lh
    let t2 := if hubTier lh = 1 && tiers s (hubUp lh).val = 2 then 2 ^ n else 0
    let k := hsBytes s lh
    let one := hubTier lh = 1
    if hs then
      s.answer (.done ([BitVec.ofNat 8 (7 + 2 * k), 0x29, BitVec.ofNat 8 (n + 1)] ++ le16 0x000D ++ [13, 0]
        ++ leBytes (t2 + 2 ^ (n + 1)) k ++ List.replicate k 0xFF))
    else
      s.answer (.done ([12, 0x2A, BitVec.ofNat 8 n] ++ le16 (if t2 = 0 then 0x0009 else 0x000D) ++ [13, 0]
        ++ [if one then 1 else 0] ++ le16 (if one then 220 else 0) ++ le16 t2))

/-! ## Configuration, depth, address, translators -/

/-- A USB function of an upstream: a hub half or the MF. -/
def configureFn (f : UsbFn) (on : Bool) (s : State) : State :=
  match f with
  | .mf u => (updTree s u fun t => { t with mfCfg := on }).answer (.done [])
  | .hub lh hs =>
    if !hubReached s lh then s
    else
      let s1 := updHub s lh fun h => if hs then { h with cfgHS := on } else { h with cfgSS := on }
      let clr (q : PortS) : PortS := q.setPower hs false
      let s2 := eachFin 40 (fun e t =>
        if (place s e).map (·.1) = some lh then updPort t e clr
        else if isAway s e && hubTier lh = 1 && topoOwner s e = (hubUp lh).val + 1 then onAway hs (fun h => h.clr (powerMask hs)) e t
        else t) s1
      let s3 := if hubTier lh = 1 then
          updTree s2 (hubUp lh) fun t =>
            { t with everCfg := t.everCfg || on
                     t2hs := if hs then { st := 0, chg := t.t2hs.chg } else t.t2hs
                     t2ss := if hs then t.t2ss else { st := 0, chg := t.t2ss.chg } }
        else s2
      (portEvalAll s3).answer (.done [])

/-- SET_HUB_DEPTH (R43). -/
def setHubDepth (lh : Fin 6) (d : BitVec 16) (s : State) : State :=
  if !hubReached s lh then s
  else if h : d.toNat < 5 then (updHub s lh fun x => { x with depth := some ⟨d.toNat, h⟩ }).answer (.done [])
  else s.answer .requestError

/-- SET_ADDRESS (R92). -/
def setAddress (f : UsbFn) (a : BitVec 7) (s : State) : State :=
  match f with
  | .mf u => (updTree s u fun t => { t with mfAddr := a }).answer (.done [])
  | .hub lh hs =>
    if !hubReached s lh then s
    else (updHub s lh fun h => if hs then { h with addrHS := a } else { h with addrSS := a }).answer (.done [])

/-- SET_INTERFACE on a USB 2.0 hub half (R55). -/
def setInterface (lh : Fin 6) (alt : Bool) (s : State) : State :=
  if !hubReached s lh then s else (updHub s lh fun h => { h with alt := alt }).answer (.done [])

/-- SET_FEATURE or CLEAR_FEATURE of DEVICE_REMOTE_WAKEUP (R67). -/
def remoteWakeup (f : UsbFn) (on : Bool) (s : State) : State :=
  match f with
  | .mf u => (updTree s u fun t => { t with mfRw := on }).answer (.done [])
  | .hub lh hs =>
    if !hubReached s lh then s
    else (updHub s lh fun h => if hs then { h with rwHS := on } else { h with rwSS := on }).answer (.done [])

/-- SET_U1_U2_ENABLE (R65). -/
def setU12Enable (lh : Fin 6) (u2 on : Bool) (s : State) : State :=
  if !hubReached s lh then s
  else (updHub s lh fun h => if u2 then { h with u2en := on } else { h with u1en := on }).answer (.done [])

/-- CLEAR_TT_BUFFER (R55). -/
def clearTtBuffer (lh : Fin 6) (n : Nat) (b : Fin 4) (s : State) : State :=
  onPort s lh true n (fun e s => updPort s e fun q => { q with tt := Tbl.put q.tt b false }) noEffect noEffect
/-- RESET_TT (R55). -/
def resetTt (lh : Fin 6) (n : Nat) (s : State) : State :=
  onPort s lh true n (fun e s => updPort s e fun q => { q with tt := Tbl.fill 4 false }) noEffect noEffect
/-- A class request the hub does not carry (R49). -/
def hubRequestError (lh : Fin 6) (s : State) : State := if !hubReached s lh then s else s.answer .requestError

/-! ## Type-C (R26) -/

/-- CC_ATTACH: orientation taken and routed. -/
def ccAttach (cc2 : Bool) (rp : Fin 4) (s : State) : State :=
  if rp.val = 0 then s
  else { s with usb := { s.usb with ccAttached := true, ccOrient := cc2, ccRp := rp.val } }
/-- CC_DETACH. -/
def ccDetach (s : State) : State :=
  { s with usb := { s.usb with ccAttached := false, ccOrient := false, ccRp := 0 } }

/-! ## MF requests that need no dictionary -/

/-- The MF of upstream `u` answers: the port presents a connection, or the boot ROM waits on UP_S (R63). -/
def mfReached (s : State) (u : Fin 3) : Bool := (tree s u).presents
/-- A transfer of upstream `u`'s MF: none reaches a node that presents no connection; while the core halts or rebuilds, XP31
is held off (R10, R101). -/
def mfGate (u : Fin 3) (f : State → State) (s : State) : State :=
  if !mfReached s u then s
  else if s.xb.st = .halt || s.xb.st = .rebuild then s.answer .nak
  else f s
/-- A transfer of a bulk or interrupt endpoint, which a configured MF answers (R57). -/
def mfPipe (u : Fin 3) (f : State → State) (s : State) : State := mfGate u (fun s => if (tree s u).mfCfg then f s else s) s

/-- Record the status of a refused vendor request (R58). -/
def mfError (u : Fin 3) (code : Nat) (s : State) : State :=
  ({ s with usb := { s.usb with mf := Tbl.upd s.usb.mf u fun f => { f with status := code } } }).answer .requestError

/-- GET_INFO (R58). -/
def getInfo (u : Fin 3) (s : State) : State :=
  mfGate u (fun s =>
    s.answer (.done (leBytes Config.uniqueId.toNat 8 ++ leBytes (firmwareRelease s) 4 ++ leBytes (nodeAddress s) 2
      ++ [BitVec.ofNat 8 u.val, BitVec.ofNat 8 (tiers s u.val), if bootWait s then 1 else 0] ++ List.replicate 15 0))) s

/-- GET_STATUS_CODE: the code is returned and cleared (R58). -/
def getStatusCode (u : Fin 3) (s : State) : State :=
  mfGate u (fun s =>
    let c := (Tbl.get s.usb.mf u).status
    ({ s with usb := { s.usb with mf := Tbl.upd s.usb.mf u fun f => { f with status := 0 } } }).answer
      (.done [BitVec.ofNat 8 c, 0, 0, 0])) s

/-- EVENT_REPORT_POLL (R62): the oldest report, or NAK. A suspended MF sends none until resumed (R66). -/
def eventReportPoll (u : Fin 3) (s : State) : State :=
  mfPipe u (fun s =>
  let f := Tbl.get s.usb.mf u
  if bootWait s || (tree s u).susHS then s.answer .nak
  else match f.reports with
    | [] => s.answer .nak
    | r :: l =>
      ({ s with usb := { s.usb with mf := Tbl.put s.usb.mf u { f with reports := l, lostRep := false } } }).answer
        (.done ([BitVec.ofNat 8 r.ev.val, if f.lostRep then 1 else 0] ++ le16 r.cnt.toNat ++ leBytes r.tb.toNat 4
          ++ leBytes r.sec.toNat 4 ++ [0, 0, 0, 0]))) s

/-- One report for each changed event at the tick (R62); beyond 64 the oldest is discarded. -/
def queueReports (s : State) : State :=
  eachFin 3 (fun u t =>
    let f := Tbl.get t.usb.mf u
    let add := f.changed.map fun (x : Fin 64 × DWord) =>
      ({ ev := x.1, cnt := Tbl.get t.ev.cnt x.1, tb := BitVec.ofNat 32 x.2.toNat, sec := calendarSeconds t } : Report)
    let all := f.reports ++ add
    let drop := all.length - 64
    let f1 : MfS := { f with changed := [], reports := all.drop drop, lostRep := f.lostRep || decide (drop > 0) }
    { t with usb := { t.usb with mf := Tbl.put t.usb.mf u f1 } }) s

/-- DICT_RESPONSE_READ (R61): the oldest response, in request order, or NAK. -/
def dictResponseRead (u : Fin 3) (s : State) : State :=
  mfPipe u (fun s =>
  let f := Tbl.get s.usb.mf u
  match f.resp with
  | [] => s.answer .nak
  | r :: l =>
    ({ s with usb := { s.usb with mf := Tbl.put s.usb.mf u { f with resp := l } } }).answer
      (.done ([r.opcode ||| 0x80, r.tag] ++ le16 r.index.toNat ++ [r.sub, BitVec.ofNat 8 r.status]
        ++ le16 r.data.length ++ r.data))) s

end Sys2Proof.Machine
end

