-- ==== Sys2Proof/Machine/Export.lean ====
section
/-!
DEFINITION. The export and import proxies: enumeration, eligibility, binding, control requests, CTRL messages
and peer loss (R247 to R260, R270).
-/

namespace Sys2Proof.Machine

open Sys2Proof

/-! ## Descriptors (R248, R249) -/

/-- Cut a descriptor byte string into its descriptors: type and bytes. -/
def cutDescs : Nat → List Byte → List (Byte × List Byte)
  | 0, _ => []
  | n + 1, l =>
    match l with
    | len :: typ :: _ => if len.toNat < 2 then [] else (typ, l.take len.toNat) :: cutDescs n (l.drop len.toNat)
    | _ => []
/-- A byte of a descriptor, 0 beyond its end. -/
def dbyte (d : List Byte) (k : Nat) : Nat := (d.getD k 0).toNat
/-- The descriptors inside a configuration descriptor. -/
def configParts (d : Desc) : List (Byte × List Byte) := cutDescs d.bytes.length d.bytes
/-- The configuration descriptors of a cache. -/
def configsOf (c : List Desc) : List Desc := c.filter fun d => d.typ = 2
/-- Every descriptor with the one that follows it. -/
def withNext {α : Type} : List α → List (α × Option α)
  | [] => []
  | [a] => [(a, none)]
  | a :: b :: l => (a, some b) :: withNext (b :: l)
/-- Transfer type of an endpoint descriptor. -/
def epKind (d : List Byte) : Nat := dbyte d 3 % 4
/-- The companion that follows a SuperSpeed endpoint descriptor. -/
def companion (n : Option (Byte × List Byte)) : Option (List Byte) :=
  match n with
  | some (t, b) => if t = 0x30 then some b else none
  | none => none
/-- Some endpoint of the device meets a condition on it and its companion. -/
def anyEndpoint (c : List Desc) (f : List Byte → Option (List Byte) → Bool) : Bool :=
  (configsOf c).any fun d => (withNext (configParts d)).any fun x => x.1.1 = 5 && f x.1.2 (companion x.2)
/-- Endpoints by interface and alternate setting of a configuration: (interface, alternate, endpoint descriptor). -/
def endpointsOf : List (Byte × List Byte) → Byte × Byte → List (Byte × Byte × List Byte)
  | [], _ => []
  | (t, d) :: l, (i, a) =>
    if t = 4 then endpointsOf l (d.getD 2 0, d.getD 3 0)
    else if t = 5 then (i, a, d) :: endpointsOf l (i, a)
    else endpointsOf l (i, a)
/-- Alternate setting of an interface with the most endpoints: its endpoints. -/
def widest (es : List (Byte × Byte × List Byte)) (i : Byte) : List (List Byte) :=
  let alts := (es.filter fun e => e.1 = i).map fun e => e.2.1
  let of (a : Byte) := (es.filter fun e => e.1 = i && e.2.1 = a).map fun e => e.2.2
  alts.foldl (fun b a => if b.length < (of a).length then of a else b) []
/-- R249 ENDPOINTS of one configuration. -/
def tooManyEndpoints (d : Desc) : Bool :=
  let es := endpointsOf (configParts d) (0, 0)
  let ifs := (es.map fun e => e.1).eraseDups
  let all := ifs.flatMap fun i => widest es i
  let isIn (e : List Byte) : Bool := 128 ≤ dbyte e 2
  let bulkOut := all.filter fun e => epKind e = 2 || (epKind e = 3 && !isIn e)
  let intIn := all.filter fun e => epKind e = 3 && isIn e
  8 < bulkOut.length || 4 < intIn.length
/-- R249: the first condition that fails, 0 when eligible. -/
def refuseCode (failed : Bool) (sp : Speed) (c : List Desc) : Nat :=
  let dev := ((c.find? fun d => d.typ = 1).map fun d => d.bytes).getD []
  if failed then 7
  else if anyEndpoint c fun e _ => epKind e = 1 then 1
  else if dbyte dev 4 = 9 || (configsOf c).any (fun d => (configParts d).any fun x => x.1 = 4 && dbyte x.2 5 = 9) then 2
  else if sp.isSS && anyEndpoint c (fun e k => epKind e = 2 && (match k with | some b => 0 < dbyte b 3 % 32 | none => false)) then 3
  else if anyEndpoint c (fun e k => epKind e = 3 &&
      ((sp = .hs && 0 < dbyte e 5 / 8 % 4) || (match k with | some b => 0 < dbyte b 2 || 0 < dbyte b 3 % 4 | none => false))) then 4
  else if 4096 < c.foldl (fun n d => n + d.bytes.length) 0 then 5
  else if (configsOf c).any tooManyEndpoints then 6
  else 0

/-! ## Channels of an entry (R262) -/

/-- Close a channel or relay: its BIND.EN clears. -/
def unbindChan (n : Fin 48) (s : State) : State :=
  if bindEn s n then chanClose n (setReg (bindAddr n.val) (bindReg s n &&& ~~~(1 : Word)) s) else s
/-- Channels and relays of a topology entry. -/
def chansOf (s : State) (e : Nat) : List (Fin 48) := (allFin 48).filter fun n => bindEn s n && fld (epReg s n) 5 0 == e
/-- Close every channel and relay of an entry. -/
def closeEntry (e : Nat) (s : State) : State := (chansOf s e).foldl (fun t n => unbindChan n t) s
/-- Relay memory in use, 64-byte units: four reports of wMaxPacketSize rounded up (R268). -/
def relayUsed (s : State) : Nat :=
  ((List.range 32).map fun k => if h : k + 16 < 48 then
    (if bindEn s ⟨k + 16, h⟩ then 4 * ((epMps s ⟨k + 16, h⟩ + 63) / 64) else 0) else 0).foldl (· + ·) 0
/-- Lowest free channel, or relay with buffer for `mps`, outside a list of taken ones. -/
def freeChan (s : State) (relay : Bool) (mps : Nat) (taken : List (Fin 48)) : Option (Fin 48) :=
  if relay && 1024 < relayUsed s + 4 * ((mps + 63) / 64) then none
  else (allFin 48).find? fun n => (decide (16 ≤ n.val) == relay) && !bindEn s n && !taken.contains n
/-- Open a channel or relay towards a peer. -/
def bindChan (n : Fin 48) (recv paced : Bool) (peer : BitVec 12) (pchan entry : Nat) (ep : List Byte) (s : State) : State :=
  let epw := pk [(entry, 0, 6), (dbyte ep 2 % 16, 8, 4), ((dbyte ep 4 + 256 * dbyte ep 5) % 2048, 16, 11), (min 15 (dbyte ep 6), 27, 4)]
  let bw := pk [(1, 0, 1), (b2n recv, 1, 1), (b2n (paced && n.val < 16), 2, 1), (peer.toNat, 4, 12), (pchan, 16, 6)]
  chanOpen n (setReg (bindAddr n.val) bw (setReg (bindAddr n.val + 4) epw s))
/-- A channel word of R262. -/
def chanWord (ep : Nat) (n : Nat) : List Byte := leBytes (ep + 2 ^ 8 * n) 8
/-- Words of a list. -/
def wordList (b : List Byte) : List (Nat × Nat) :=
  (List.range (b.length / 8)).map fun k => let w := ofLe ((b.drop (8 * k)).take 8); (w % 256, w / 256 % 64)

/-- Endpoints that a SET_CONFIGURATION or SET_INTERFACE opens. -/
def opened (c : List Desc) (config : Byte) (setup : List Byte) : List (List Byte) :=
  let val := setup.getD 2 0
  let idx := setup.getD 4 0
  let conf (v : Byte) := match (configsOf c).find? fun d => d.bytes.getD 5 0 = v with
    | some d => endpointsOf (configParts d) (0, 0)
    | none => []
  if setup.getD 1 0 = 9 then ((conf val).filter fun e => e.2.1 = 0).map fun e => e.2.2
  else if setup.getD 1 0 = 11 then ((conf config).filter fun e => e.1 = idx && e.2.1 = val).map fun e => e.2.2
  else []
/-- Endpoints of an interface, every alternate setting. -/
def ofInterface (c : List Desc) (config idx : Byte) : List (List Byte) :=
  match (configsOf c).find? fun d => d.bytes.getD 5 0 = config with
  | some d => ((endpointsOf (configParts d) (0, 0)).filter fun e => e.1 = idx).map fun e => e.2.2
  | none => []
/-- The request is a standard SET_CONFIGURATION or SET_INTERFACE. -/
def opensChannels (setup : List Byte) : Bool :=
  dbyte setup 0 / 32 % 4 = 0 && (dbyte setup 1 = 9 || dbyte setup 1 = 11)
/-- An endpoint is served by a relay. -/
def usesRelay (ep : List Byte) : Bool := epKind ep = 3 && 128 ≤ dbyte ep 2
/-- Close the channels of the settings a request replaces. -/
def closeReplaced (entry : Nat) (c : List Desc) (config : Byte) (setup : List Byte) (s : State) : State :=
  if dbyte setup 1 = 9 then closeEntry entry s
  else
    let eps := (ofInterface c config (setup.getD 4 0)).map fun e => dbyte e 2 % 16
    ((chansOf s entry).filter fun n => eps.contains (fld (epReg s n) 11 8)).foldl (fun t n => unbindChan n t) s
/-- Choose a channel or relay for each endpoint; none when one is lacking. -/
def allot (s : State) : List (List Byte) → List (Fin 48) → Option (List (List Byte × Fin 48))
  | [], _ => some []
  | ep :: l, taken =>
    match freeChan s (usesRelay ep) ((dbyte ep 4 + 256 * dbyte ep 5) % 2048) taken with
    | some n => (allot s l (taken ++ [n])).map fun r => (ep, n) :: r
    | none => none

/-! ## Export records (R247 to R251) -/

/-- The slot's port reports a connection. -/
def slotConnected (s : State) (p : Fin 24) : Bool := (port s (slotEntry p)).connSS || (port s (slotEntry p)).connHS
/-- The entry is EXPORT in the accepted topology. -/
def isExport (s : State) (p : Fin 24) : Bool := topoOwner s (slotEntry p) == 4 && s.usb.topoValid
/-- An EXPORT record (TYPE 0x09). -/
def journalExport (sub obj reason : Nat) (peer : BitVec 12) (vid pid : Half) (s : State) : State :=
  journal 9 sub srcDevice obj reason (le16 peer.toNat ++ le16 vid.toNat ++ le16 pid.toNat) s
/-- EXPORT_PORT_POWER (R247). -/
def exportPortPower (p : Fin 24) (s : State) : State :=
  let e := slotEntry p
  if roleRuns s 27 && isExport s p && (port s e).st == .disconnected then
    portEval e (updPort s e fun q => (q.setPower false true).setPower true true)
  else s
/-- Reset the device of a slot's port: 0 USB 2.0, 1 hot, 2 warm. -/
def devicePortReset (p : Fin 24) (kind : Fin 3) (s : State) : State :=
  (updPort s (slotEntry p) fun q => q.beginReset kind (kind.val = 0)).emit [.portReset (slotEntry p) kind.val]
/-- The reset that fits the half the device uses. -/
def deviceReset (p : Fin 24) (s : State) : State := devicePortReset p (if (port s (slotEntry p)).connSS then 1 else 0) s
/-- Empty fields of a record. -/
def ExpS.cleared (x : ExpS) (st : ExpSt) : ExpS :=
  { x with st := st, refuse := 0, vid := 0, pid := 0, importer := 0, vslot := 0, cache := [], req := none, resetOf := none,
           answer := none, suspended := false }
/-- EXPORT_ENUM_START (R248): on USB 2.0 the port is reset. -/
def exportEnumStart (p : Fin 24) (s : State) : State :=
  if roleRuns s 27 && isExport s p && (exps s p).st = .empty && slotConnected s p then
    let s1 := updExp p (fun x => { (x.cleared .enum) with speed := (port s (slotEntry p)).speed, breason := 0 }) s
    if (port s (slotEntry p)).connHS then devicePortReset p 0 s1 else s1
  else s
/-- A record becomes REFUSED. -/
def exportRefuse (p : Fin 24) (code : Nat) (s : State) : State :=
  let s1 := countEv 35 (updExp p (fun x => { x with st := .refused, refuse := code }) s)
  journalExport 1 (objSlot p.val) code 0 (exps s1 p).vid (exps s1 p).pid s1
/-- EXPORT_ENUM_COMPLETE (R249): `failed` when a request of R248 failed. -/
def exportEnumComplete (p : Fin 24) (failed : Bool) (descs : List Desc) (s : State) : State :=
  if roleRuns s 27 && (exps s p).st = .enum then
    let dev := ((descs.find? fun d => d.typ = 1).map fun d => d.bytes).getD []
    let sp := (port s (slotEntry p)).speed
    let s1 := updExp p (fun x => { x with
      speed := sp, vid := BitVec.ofNat 16 (dbyte dev 8 + 256 * dbyte dev 9), pid := BitVec.ofNat 16 (dbyte dev 10 + 256 * dbyte dev 11) }) s
    let code := refuseCode failed sp descs
    if code = 0 then updExp p (fun x => { x with st := .ready, cache := descs }) s1 else exportRefuse p code s1
  else s
/-- EXPORT_ENUM_TIMEOUT. -/
def exportEnumTimeout (p : Fin 24) (s : State) : State := if (exps s p).st = .enum then exportRefuse p 7 s else s
/-- The device has gone, lost its power, or its entry has left EXPORT (first row of R250). -/
def exportGone (p : Fin 24) (s : State) : State :=
  let x := exps s p
  if x.st = .empty || (isExport s p && slotConnected s p && slotPowered s p) then s
  else
    let s1 := closeEntry p.val s
    let s2 := if x.st = .bound then (ctrlSend x.importer 0x40 (p.val + 1) [[]] s1).2 else s1
    updExp p (fun x => x.cleared .empty) s2
/-- The bound row of R250: unbind, or peer lost. -/
def exportUnbind (p : Fin 24) (s : State) : State :=
  deviceReset p (updExp p (fun x => { (x.cleared .enum) with breason := 0 }) (closeEntry p.val s))

/-- Bind value of OD 0x4804. -/
def bindImporter (v : Word) : BitVec 12 := BitVec.ofNat 12 (fld v 11 0)
/-- BIND (R251): the status of the command and its effect. -/
def bindCommand (w : Who) (p : Fin 24) (importer : BitVec 12) (v : Fin 16) (s : State) : Nat × State :=
  let x := exps s p
  let perm := odNum s 0x4802 (p.val + 1)
  if w.m = 4 ∧ w.node ≠ importer then (2, s)
  else if x.st = .bound ∧ x.importer ≠ importer then (5, updExp p (fun x => { x with breason := 2 }) s)
  else if x.st ≠ .ready then (5, updExp p (fun x => { x with breason := 1 }) s)
  else if perm ≠ 0 ∧ perm ≠ importer.toNat then (5, updExp p (fun x => { x with breason := 3 }) s)
  else (0, updExp p (fun x => { x with st := .bound, importer := importer, vslot := v, breason := 0 }) s)
/-- UNBIND (R251): from master 4 of the bound importer, and from any local master. -/
def unbindCommand (w : Who) (p : Fin 24) (s : State) : Nat × State :=
  let x := exps s p
  if w.m = 4 ∧ w.node ≠ x.importer then (2, s)
  else if x.st ≠ .bound then (5, s)
  else (0, exportUnbind p s)
/-- A write of OD 0x4804: command 1 binds, 2 unbinds. -/
def bindWrite (w : Who) (p : Fin 24) (v : Word) (s : State) : Nat × State :=
  if fld v 31 24 = 1 then bindCommand w p (bindImporter v) ⟨fld v 15 12 % 16, Nat.mod_lt _ (by decide)⟩ s
  else if fld v 31 24 = 2 then unbindCommand w p s
  else (5, s)

/-! ## Imports (R252, R253) -/

/-- Topology entry of a virtual slot. -/
def virtEntry (v : Fin 16) : Fin 40 := ⟨24 + v.val, by omega⟩
/-- The half that would present the device is configured and fast enough (R253). -/
def speedServed (s : State) (v : Fin 16) : Bool :=
  let e := virtEntry v
  match place s e with
  | some (lh, _) =>
    if (imp s v).speed.isSS then (hub s lh).cfgSS
    else (hub s lh).cfgHS && !((imp s v).speed = .hs && fullSpeedTree s e)
  | none => false
/-- Present a bound device on its virtual port, or report NOSPEED. -/
def impPresent (v : Fin 16) (s : State) : State :=
  if !importBound s v.val then s
  else
    let e := virtEntry v
    let s0 := portEval e s
    if !speedServed s0 v then updImp v (fun i => { i with st := .noSpeed }) s0
    else
      let s1 := updImp v (fun i => { i with st := .bound }) s0
      let sp := (imp s v).speed
      updPort s1 e fun q =>
        if q.st != .powered then q
        else if sp.isSS then
          { q with st := .enabled, link := .u0, farTerm := true, speed := sp, ss := (q.ss.set (pConn ||| pEnable)).mark cConn }
        else
          { q with st := .disabled, speed := if sp = .hs then .fs else sp,
                   hs := (q.hs.set (if sp = .ls then pConn ||| pLow else pConn)).mark cConn }
/-- IMPORT_BIND_ATTEMPT (R252): the bind goes to the exporter's OD 0x4804. -/
def importBindAttempt (v : Fin 16) (s : State) : State :=
  let o := topoOwner s (virtEntry v)
  if roleRuns s 27 && impOn s v && decide (1 ≤ o) && decide (o ≤ 3) && !importBound s v.val then
    let tag := s.fab.gateTag + 1
    let val := s.fab.addr.toNat + 2 ^ 12 * v.val + 2 ^ 24
    let s1 := updImp v (fun i => { i with st := .binding, bindTag := some tag }) { s with fab := { s.fab with gateTag := tag } }
    odxSend (impAddr s v) 0x02 tag 0x4804 (BitVec.ofNat 8 (impSlot s v)) 0 (le32 val) s1
  else s
/-- The answer to a bind: on status 0 the device is presented with what the exporter recorded of it. -/
def bindAnswer (v : Fin 16) (status : Nat) (info : BindInfo) (s : State) : State :=
  if status = 0 then
    impPresent v (updImp v (fun i => { i with
      st := .bound, bindTag := none, speed := info.speed.toSpeed, cache := info.cache, breason := 0, config := 0,
      alts := [], rwEnable := false, halts := [], req := none, resetOf := none }) s)
  else updImp v (fun i => { i with st := .refused, bindTag := none, breason := info.breason.val }) s
/-- The import ends: its port takes the Disconnect row (R270). -/
def importEnd (v : Fin 16) (st : ImpSt) (s : State) : State :=
  let e := virtEntry v
  let s1 := updImp v (fun i => { i with st := st, req := none, resetOf := none, cache := [] }) (closeEntry e.val s)
  portEval e (updPort s1 e fun q =>
    if q.st == .disconnected || q.st == .seating then q else q.toUnplugged (topoSsOff s e))
/-- The entry of a bound virtual slot has left its upstream: unbind sent (R270). -/
def importLeft (v : Fin 16) (s : State) : State :=
  let tag := s.fab.gateTag + 1
  let val := s.fab.addr.toNat + 2 ^ 12 * v.val + 2 * 2 ^ 24
  importEnd v .off (odxSend (impAddr s v) 0x02 tag 0x4804 (BitVec.ofNat 8 (impSlot s v)) 0 (le32 val)
    { s with fab := { s.fab with gateTag := tag } })
/-- What a topology apply or a change of OD 0x4810 does to exports and imports. -/
def xptFollow (s : State) : State :=
  let s1 := eachFin 24 exportGone s
  eachFin 16 (fun v t =>
    let o := topoOwner t (virtEntry v)
    if importBound t v.val && !(decide (1 ≤ o) && decide (o ≤ 3) && impOn t v) then importLeft v t else t) s1

/-! ## Control requests at the importer (R254, R255) -/

/-- Class of a request (R254). -/
inductive ReqClass where
  | local_ | noData | sIn | classVendor | refused
deriving DecidableEq, Repr

/-- The cached descriptor a GET_DESCRIPTOR names. -/
def cached (c : List Desc) (setup : List Byte) : Option Desc := c.find? fun d => d.typ = setup.getD 3 0 && d.index = setup.getD 2 0
/-- R254. -/
def classify (c : List Desc) (setup data : List Byte) : ReqClass :=
  let rq := dbyte setup 1
  let rcpt := dbyte setup 0 % 32
  if 4096 < data.length then .refused
  else if dbyte setup 0 / 32 % 4 ≠ 0 then .classVendor
  else if rq = 12 then .refused
  else if rq = 6 then (if (cached c setup).isSome then .local_ else .sIn)
  else if rq = 0 then (if rcpt = 0 then .local_ else .sIn)
  else if rq = 8 ∨ rq = 10 ∨ rq = 0x30 ∨ rq = 0x31 then .local_
  else if rq = 5 ∨ rq = 9 ∨ rq = 11 ∨ rq = 3 ∨ rq = 1 then .noData
  else .classVendor
/-- wLength. -/
def wLength (setup : List Byte) : Nat := dbyte setup 6 + 256 * dbyte setup 7
/-- The importer's answer to a LOCAL request. -/
def localAnswer (i : ImpS) (setup : List Byte) : List Byte :=
  let rq := dbyte setup 1
  let d : List Byte :=
    if rq = 6 then ((cached i.cache setup).map fun d => d.bytes).getD []
    else if rq = 0 then
      let self := match (configsOf i.cache).find? fun d => d.bytes.getD 5 0 = i.config with
        | some d => (d.bytes.getD 7 0).getLsbD 6
        | none => false
      [BitVec.ofNat 8 (b2n self + 2 * b2n i.rwEnable), 0]
    else if rq = 8 then [i.config]
    else if rq = 10 then [((i.alts.find? fun a => a.1 = setup.getD 4 0).map fun a => a.2).getD 0]
    else []
  d.take (wLength setup)
/-- The setup packet as forwarded: an IN request asks for at most 4,096 bytes (R255). -/
def forwarded (setup : List Byte) : List Byte :=
  if 128 ≤ dbyte setup 0 ∧ 4096 < wLength setup then setup.take 6 ++ le16 4096 else padTo 8 setup
/-- VIRTUAL_CONTROL_REQUEST. -/
def virtualControl (v : Fin 16) (setup data : List Byte) (s : State) : State :=
  let i := imp s v
  let e := virtEntry v
  if !importBound s v.val || (port s e).st == .disconnected || (port s e).st == .seating || (port s e).st == .powered || i.resetOf.isSome then
    s.answer .requestError
  else
    let s0 := if i.req.isSome then impAbort v s else s
    match classify i.cache setup data with
    | .refused => s0.answer .requestError
    | .local_ => s0.answer (.done (localAnswer i setup))
    | .noData | .sIn | .classVendor =>
      let st := forwarded setup
      let eps := if opensChannels st then opened i.cache i.config st else []
      match allot (closeReplaced e.val i.cache i.config st s0) eps [] with
      | none => s0.answer .requestError
      | some l =>
        let words := l.flatMap fun x => chanWord (dbyte x.1 2) x.2.val
        let payload := if opensChannels st then words else data
        let (t, s1) := impSend v 0x01 (partFrames 2008 st payload) s0
        (updImp v (fun i => { i with req := some { tag := t, setup := st, data := payload } }) s1).answer
          (if i.speed.isSS then .nrdy else .nak)
/-- The import that a message from a peer names. -/
def importOf (s : State) (peer : BitVec 12) (slot : Nat) : Option (Fin 16) :=
  (allFin 16).find? fun v => importBound s v.val && impAddr s v == peer && impSlot s v == slot
/-- State an importer keeps from an accepted forwarded request (R254). -/
def ImpS.keep (i : ImpS) (setup : List Byte) : ImpS :=
  let rq := dbyte setup 1
  let rcpt := dbyte setup 0 % 32
  let val := setup.getD 2 0
  let idx := setup.getD 4 0
  if dbyte setup 0 / 32 % 4 ≠ 0 then i
  else if rq = 9 then { i with config := val, alts := [], halts := [] }
  else if rq = 11 then { i with alts := (i.alts.filter fun a => a.1 ≠ idx) ++ [(idx, val)] }
  else if rq = 3 ∧ rcpt = 0 ∧ val = 1 then { i with rwEnable := true }
  else if rq = 1 ∧ rcpt = 0 ∧ val = 1 then { i with rwEnable := false }
  else if rq = 3 ∧ rcpt = 2 ∧ val = 0 then { i with halts := (i.halts.filter (· ≠ idx)) ++ [idx] }
  else if rq = 1 ∧ rcpt = 2 ∧ val = 0 then { i with halts := i.halts.filter (· ≠ idx) }
  else i
/-- Close and reopen the channel or relay of an endpoint whose halt is cleared (R270). -/
def reopenEp (entry : Nat) (setup : List Byte) (s : State) : State :=
  if dbyte setup 0 / 32 % 4 = 0 ∧ dbyte setup 1 = 1 ∧ dbyte setup 0 % 32 = 2 ∧ dbyte setup 2 = 0 then
    ((chansOf s entry).filter fun n => fld (epReg s n) 11 8 == dbyte setup 4 % 16).foldl (fun t n => chanOpen n (chanClose n t)) s
  else s
/-- Channels of the importer open with the exporter's words (R262). -/
def openImporter (v : Fin 16) (r : HostReq) (words : List Byte) (s : State) : State :=
  let e := (virtEntry v).val
  let i := imp s v
  let s1 := closeReplaced e i.cache i.config r.setup s
  let mine := wordList r.data
  let theirs := wordList words
  (opened i.cache i.config r.setup).foldl (fun t ep =>
    match mine.lookup (dbyte ep 2), theirs.lookup (dbyte ep 2) with
    | some n, some c => if h : n < 48 then bindChan ⟨n, h⟩ (128 ≤ dbyte ep 2) (epKind ep = 3) (impAddr s v) c e ep t else t
    | _, _ => t) s1
/-- CTRL_RSP at the importer: the host is offered the answer, STALL for any other status than OK (R259). -/
def ctrlRsp (peer : BitVec 12) (slot : Nat) (tag : Half) (status : Nat) (data : List Byte) (s : State) : State :=
  let s0 := ctrlAnswered peer 0x01 slot tag s
  match importOf s peer slot with
  | none => s0
  | some v =>
    match (imp s v).req with
    | none => s0
    | some r =>
      if r.tag ≠ tag then s0
      else
        let s1 := updImp v (fun i => { i with req := none }) s0
        if status ≠ 0 then s1.answer .requestError
        else
          let s2 := if opensChannels r.setup then openImporter v r data s1 else reopenEp (virtEntry v).val r.setup s1
          (updImp v (fun i => i.keep r.setup) s2).answer (.done (if opensChannels r.setup then [] else data))
/-- IMPORT_LIMIT_EXPIRED (R257). -/
def importLimit (v : Fin 16) (s : State) : State :=
  match (imp s v).req with
  | some _ => (countEv 37 (impAbort v s)).answer .requestError
  | none => s

/-! ## Control requests at the exporter (R256 to R260, R74) -/

/-- Keep the answer of a completed TAG and send it. -/
def answerKeep (p : Fin 24) (src : BitVec 12) (tag : Half) (op : Byte) (status : Nat) (fs : List (List Byte)) (s : State) : State :=
  ctrlReply src op (p.val + 1) tag status fs
    (updExp p (fun x => { x with req := none, answer := some { src := src, tag := tag, op := op, status := status, content := fs.flatten } }) s)
/-- R74: an aborted request makes the exporter reset the device when it was SET_ADDRESS, SET_CONFIGURATION or a
stateful class request. -/
def abortResets (s : State) (p : Fin 24) (setup : List Byte) : Bool :=
  let rq := dbyte setup 1
  let ty := dbyte setup 0 / 32 % 4
  (ty = 0 && (rq = 5 || rq = 9)) || (ty = 1 && rq < 64 && (odNum s 0x4803 (p.val + 1)).testBit rq)
/-- The device has answered: RSP, channels opened, a cleared halt reopens its channel. -/
def deviceDone (p : Fin 24) (r : DevReq) (stall : Bool) (data : List Byte) (s : State) : State :=
  if stall then answerKeep p r.src r.tag 0x01 1 (partFrames 2016 [] []) s
  else if opensChannels r.setup then
    let x := exps s p
    let conf : Byte := ((configsOf x.cache).head?.map fun d => d.bytes.getD 5 0).getD 0
    let s1 := closeReplaced p.val x.cache conf r.setup s
    let eps := opened x.cache conf r.setup
    match allot s1 eps [] with
    | none => answerKeep p r.src r.tag 0x01 3 (partFrames 2016 [] []) s
    | some l =>
      let theirs := wordList r.words
      let s2 := l.foldl (fun t y => bindChan y.2 (dbyte y.1 2 < 128) (epKind y.1 = 3) r.src ((theirs.lookup (dbyte y.1 2)).getD 0) p.val y.1 t) s1
      answerKeep p r.src r.tag 0x01 0 (partFrames 2016 [] (l.flatMap fun y => chanWord (dbyte y.1 2) y.2.val)) s2
  else answerKeep p r.src r.tag 0x01 0 (partFrames 2016 [] data) (reopenEp p.val r.setup s)
/-- CTRL_REQ: the exporter runs the request; `res` is the device's answer when it completes within D(h): stalled, data. -/
def ctrlReq (p : Fin 24) (src : BitVec 12) (tag : Half) (setup data : List Byte) (res : Option (Bool × List Byte)) (s : State) : State :=
  let x := exps s p
  if x.st ≠ .bound ∨ x.importer ≠ src then ctrlReply src 0x01 (p.val + 1) tag 4 (partFrames 2016 [] []) s
  else match x.answer with
    | some a =>
      if a.tag = tag ∧ a.src = src ∧ a.op = 0x01 then ctrlReply src 0x01 (p.val + 1) tag a.status [a.content] s
      else run x s
    | none => run x s
where
  run (x : ExpS) (s : State) : State :=
    if x.req.any (fun r => r.tag = tag) then s
    else
      let ch := opensChannels setup
      let r : DevReq := { src := src, tag := tag, setup := setup, words := if ch then data else [] }
      let s1 := (updExp p (fun x => { x with req := some r }) s).emit [.device p setup (if ch then [] else data)]
      match res with
      | some (stall, d) => deviceDone p r stall d s1
      | none => s1
/-- CTRL_ABORT (R74). -/
def ctrlAbort (p : Fin 24) (src : BitVec 12) (tag : Half) (s : State) : State :=
  match (exps s p).req with
  | some r =>
    if r.tag = tag ∧ r.src = src then
      let s1 := if abortResets s p r.setup then deviceReset p (closeEntry p.val s) else s
      answerKeep p src tag 0x10 0 [[]] s1
    else ctrlReply src 0x10 (p.val + 1) tag 0 [[]] s
  | none => ctrlReply src 0x10 (p.val + 1) tag 0 [[]] s
/-- DEVICE_ALLOWANCE_EXPIRED (R257): RSP with TIMEOUT, then as for an ABORT. -/
def deviceAllowance (p : Fin 24) (s : State) : State :=
  match (exps s p).req with
  | some r =>
    let s1 := countEv 37 (answerKeep p r.src r.tag 0x01 2 (partFrames 2016 [] []) s)
    if abortResets s p r.setup then deviceReset p (closeEntry p.val s1) else s1
  | none => s
/-- The exporter serves a message of the bound importer. -/
def fromImporter (s : State) (p : Fin 24) (src : BitVec 12) : Bool := (exps s p).st = .bound && (exps s p).importer = src
/-- The device of a slot is suspended or resumed by the proxy. -/
def deviceSuspend (p : Fin 24) (on : Bool) (s : State) : State :=
  updPort (updExp p (fun x => { x with suspended := on }) s) (slotEntry p) fun q =>
    if on then (if q.st == .enabled then { q with st := .suspended } else q)
    else (if q.st == .suspended then { q with st := .enabled } else q)
/-- CTRL_RESET (R270): channels closed, the device reset with the kind; kind 3 suspends the device. -/
def ctrlReset (p : Fin 24) (src : BitVec 12) (tag : Half) (kind : Fin 4) (s : State) : State :=
  if !fromImporter s p src then ctrlReply src 0x20 (p.val + 1) tag 4 [[]] s
  else if h : kind.val < 3 then
    devicePortReset p ⟨kind.val, h⟩
      (updExp p (fun x => { x with req := none, resetOf := some (src, tag), suspended := false }) (closeEntry p.val s))
  else answerKeep p src tag 0x20 0 [word2 0] (deviceSuspend p true s)
/-- The port of an exported device has completed the reset: 0xA0 with the speed. -/
def exportResetDone (p : Fin 24) (s : State) : State :=
  match (exps s p).resetOf with
  | some (src, tag) =>
    if (port s (slotEntry p)).st == .enabled && (port s (slotEntry p)).resetKind.isNone then
      answerKeep p src tag 0x20 0 [word2 (port s (slotEntry p)).speed.code] (updExp p (fun x => { x with resetOf := none }) s)
    else s
  | none => s
/-- CTRL_SUSPEND and CTRL_RESUME (R270). -/
def ctrlSuspend (p : Fin 24) (src : BitVec 12) (tag : Half) (s : State) : State :=
  if fromImporter s p src then answerKeep p src tag 0x30 0 [[]] (deviceSuspend p true s) else ctrlReply src 0x30 (p.val + 1) tag 4 [[]] s
def ctrlResume (p : Fin 24) (src : BitVec 12) (tag : Half) (s : State) : State :=
  if fromImporter s p src then
    (answerKeep p src tag 0x31 0 [[]] (deviceSuspend p false s)).emit [.portResume (slotEntry p) (port s (slotEntry p)).connHS]
  else ctrlReply src 0x31 (p.val + 1) tag 4 [[]] s

/-! ## Other messages (R258, R270) -/

/-- CTRL_RESET_ANSWER: the virtual port completes its reset at the speed of the answer (R52). -/
def ctrlResetAnswer (peer : BitVec 12) (slot : Nat) (tag : Half) (speed : Speed) (s : State) : State :=
  let s0 := ctrlAnswered peer 0x20 slot tag s
  match importOf s peer slot with
  | none => s0
  | some v =>
    match (imp s v).resetOf with
    | none => s0
    | some (t, kind) =>
      if t ≠ tag then s0
      else
        let s1 := updImp v (fun i => { i with resetOf := none, speed := speed }) s0
        updPort s1 (virtEntry v) fun q =>
          if q.st != .reset then q
          else if kind.val = 0 then
            { q with st := .enabled, resetKind := none, speed := speed
                     hs := ((q.hs.clr (pReset ||| pHigh)).set (if speed = .hs then pEnable ||| pHigh else pEnable)).mark cReset }
          else
            { q with st := .enabled, resetKind := none, speed := speed, link := .u0
                     ss := ((q.ss.clr pReset).set (pConn ||| pEnable)).mark (if kind.val = 2 then cReset ||| cBh else cReset) }
/-- VIRTUAL_RESET_TIMEOUT: 300 ms without 0xA0. -/
def virtualResetTimeout (v : Fin 16) (s : State) : State :=
  match (imp s v).resetOf with
  | some (_, kind) =>
    updPort (updImp v (fun i => { i with resetOf := none }) s) (virtEntry v) fun q =>
      { q with st := .disabled, resetKind := none }.onHalf (kind.val = 0) fun h => (h.clr (pReset ||| pEnable)).mark cReset
  | none => s
/-- CTRL_WAKE: a wake of the virtual port (R67). -/
def ctrlWake (peer : BitVec 12) (slot : Nat) (tag : Half) (s : State) : State :=
  let s0 := ctrlReply peer 0x32 slot tag 0 [[]] s
  match importOf s peer slot with
  | some v => deviceWake (virtEntry v) (!(imp s v).speed.isSS) s0
  | none => s0
/-- CTRL_DETACH. -/
def ctrlDetach (peer : BitVec 12) (slot : Nat) (tag : Half) (s : State) : State :=
  let s0 := ctrlReply peer 0x40 slot tag 0 [[]] s
  match importOf s peer slot with
  | some v => importEnd v .binding s0
  | none => s0
/-- CTRL_CHFAIL: the channel or relay of the endpoint fails at this end. -/
def ctrlChfail (peer : BitVec 12) (slot : Nat) (tag : Half) (ep : Byte) (s : State) : State :=
  let s0 := ctrlReply peer 0x41 slot tag 0 [[]] s
  ((allFin 48).filter fun n =>
    bindEn s n && bindPeer s n == peer && chanSlot s n == slot && fld (epReg s n) 11 8 == ep.toNat % 16 &&
      (((fld (epReg s n) 5 0 < 24) != receives s n) == decide (128 ≤ ep.toNat))).foldl
    (fun t n => updChan n (fun c => if c.st = .closed then c else { c with st := .failed }) t) s0
/-- CTRL_PING. -/
def ctrlPing (peer : BitVec 12) (slot : Nat) (tag : Half) (s : State) : State := ctrlReply peer 0x50 slot tag 0 [[]] s
/-- PING_SEND. -/
def pingSend (peer : BitVec 12) (slot : Nat) (s : State) : State := (ctrlSend peer 0x50 slot [[]] s).2
/-- PEER_LOST (R270): imports from the peer and exports to it end. -/
def peerLost (peer : BitVec 12) (s : State) : State :=
  let s0 := { s with xpt := { s.xpt with msgs := s.xpt.msgs.filter fun m => m.peer ≠ peer } }
  let s1 := eachFin 16 (fun v t =>
    if importBound t v.val && impAddr t v == peer then
      journalExport 2 (objVirt v.val) 0 peer 0 0 (countEv 38 (importEnd v .lost t))
    else t) s0
  eachFin 24 (fun p t =>
    if fromImporter t p peer then
      let x := exps t p
      journalExport 2 (objSlot p.val) 0 peer x.vid x.pid (countEv 38 (exportUnbind p t))
    else t) s1

end Sys2Proof.Machine
end

