-- ==== Sys2Proof/Machine/FabNet.lean ====
section
/-!
DEFINITION. Fabric discovery, the link-state database, addresses and routes (R222 to R229).
-/

namespace Sys2Proof.Machine

open Sys2Proof

/-! ## Sending (R212, R217, R230) -/

/-- A broadcast frame of TC0 on one port. -/
def sendOn (f : Fin 4) (h : FHdr) (body : List Byte) (s : State) : State := (tc0Put f (frameBytes h body) s).2
/-- Header of a TC0 broadcast sent by this node. -/
def bcast (s : State) (fclass : Nat) (body : List Byte) : FHdr :=
  { fclass := fclass, tc := 0, dst := 0xFFF, src := s.fab.addr.toNat, ttl := 32, len := body.length / 8, alt := false }
/-- A broadcast on every UP port except `but`. -/
def flood (but : Option (Fin 4)) (h : FHdr) (body : List Byte) (s : State) : State :=
  eachFin 4 (fun f t => if fabUp t f && but ≠ some f then sendOn f h body t else t) s
/-- Send a broadcast of this node's own on every UP port. -/
def broadcast (fclass : Nat) (body : List Byte) (s : State) : State := flood none (bcast s fclass body) body s
/-- PE5 floods a record that arrived on `f` with `ttl` (R224). -/
def floodOn (f : Fin 4) (src : BitVec 12) (ttl fclass : Nat) (body : List Byte) (s : State) : State :=
  if 1 < ttl then
    flood (some f) { fclass := fclass, tc := 0, dst := 0xFFF, src := src.toNat, ttl := ttl - 1, len := body.length / 8, alt := false } body s
  else s

/-! ## Time master election (R232) -/

/-- `a` is better than `b` (R232). -/
def CandS.better (a b : CandS) : Bool :=
  if a.notref ≠ b.notref then !a.notref
  else if a.tprio ≠ b.tprio then a.tprio.toNat < b.tprio.toNat
  else if a.uid ≠ b.uid then a.uid.toNat < b.uid.toNat
  else a.dist < b.dist
/-- This node's own candidate; none in core FAULT. -/
def ownCand (s : State) : Option CandS :=
  if s.xb.st == .fault then none
  else some { notref := !s.fab.trefValid, tprio := BitVec.ofNat 8 (odNum s 0x4001 2), dist := 0, uid := Config.uniqueId }
/-- Candidates the neighbours advertise, each one hop further, by port. -/
def nbrCands (s : State) : List (CandS × Fin 4) :=
  (allFin 4).filterMap fun f =>
    match (fport s f).cand with
    | some c => if fabUp s f && c.dist + 1 ≤ 32 then some ({ c with dist := c.dist + 1 }, f) else none
    | none => none
/-- The best candidate of a list, the first among equals. -/
def bestCand : List (CandS × Option (Fin 4)) → Option (CandS × Option (Fin 4))
  | [] => none
  | a :: l => match bestCand l with
    | none => some a
    | some b => if b.1.better a.1 then some b else some a
/-- The best candidate this node knows, with its port. -/
def bestKnown (s : State) : Option (CandS × Option (Fin 4)) :=
  bestCand ((ownCand s).toList.map (fun c => (c, none)) ++ (nbrCands s).map fun x => (x.1, some x.2))

/-- Address of a node of the database. -/
def addrOf (s : State) (uid : DWord) : BitVec 12 :=
  match s.fab.db.find? fun r => r.lsr.uid = uid with
  | some r => r.lsr.origin
  | none => if uid = Config.uniqueId then s.fab.addr else 0

/-- A change of master (R235): EV34 and a record. -/
def masterChange (uid : DWord) (s : State) : State :=
  match s.fab.master with
  | none => { s with fab := { s.fab with master := some uid, masterAddr := addrOf s uid } }
  | some m =>
    if m = uid then s
    else journalFabric 6 0 0 (addrOf s uid) uid 0
      (countEv 34 { s with fab := { s.fab with master := some uid, masterAddr := addrOf s uid } })
/-- The election by PE5 (R232, R235). -/
def elect (s : State) : State :=
  if s.xb.st == .fault || !peRuns s 5 then s
  else match bestKnown s with
    | none => s
    | some (c, none) =>
      masterChange c.uid { s with fab := { s.fab with
        tst := .master, tup := none, hops := 0
        trefStepped := if s.fab.tst == .master then s.fab.trefStepped else false } }
    | some (c, some f) =>
      masterChange c.uid { s with fab := { s.fab with
        tst := if s.fab.tst == .master then .acquire else s.fab.tst
        goodSync := if s.fab.tst == .master then 0 else s.fab.goodSync
        tup := some f, hops := c.dist } }

/-! ## Hellos (R222) -/

/-- HELLO_DEAD in ns. -/
def helloDeadNs (s : State) : Nat := min 100 (max 2 (fld (regv s 0x90010) 15 9)) * 1000000
/-- FWOK: PE5 has refreshed the template within 100 ms. -/
def fwOk (s : State) : Bool := peRuns s 5 || s.time.tb.toNat ≤ s.fab.fwTb.toNat + 100000000
/-- SEEN: a valid hello arrived within HELLO_DEAD. -/
def seenBit (s : State) (f : Fin 4) : Bool :=
  match (fport s f).helloTb with
  | some t => s.time.tb.toNat ≤ t.toNat + helloDeadNs s
  | none => false
/-- STATIC of this node. -/
def isStatic (s : State) : Bool := s.fab.asrc = 1
/-- The hello this node sends on a port. -/
def ownHello (s : State) (f : Fin 4) : Hello :=
  let c := match bestKnown s with
    | some (c, _) => c
    | none => { notref := true, tprio := 255, dist := 32, uid := Config.uniqueId }
  { port := f, static := isStatic s, tref := s.fab.trefValid, cfault := s.xb.st == .fault, fwok := fwOk s,
    seen := seenBit s f, addr := s.fab.addr, lsSeq := s.fab.lsSeq, uid := Config.uniqueId,
    notref := c.notref, tprio := c.tprio, dist := BitVec.ofNat 6 c.dist, candUid := c.uid }
/-- Body of a hello. -/
def helloBody (h : Hello) : List Byte :=
  le32 (1 + 2 ^ 8 * h.port.val + 2 ^ 10 * b2n h.static + 2 ^ 11 * b2n h.tref + 2 ^ 12 * b2n h.cfault +
    2 ^ 13 * b2n h.fwok + 2 ^ 14 * b2n h.seen + 2 ^ 16 * h.addr.toNat) ++ le32 h.lsSeq.toNat ++
  leBytes h.uid.toNat 8 ++ leBytes (b2n h.notref + 2 ^ 8 * h.tprio.toNat + 2 ^ 16 * h.dist.toNat) 8 ++
  leBytes h.candUid.toNat 8
/-- A 64-bit word of a body. -/
def bodyWord (b : List Byte) (k : Nat) : Nat := ofLe ((b.drop (8 * k)).take 8)
/-- A hello from its body. -/
def helloOfBody (b : List Byte) : Hello :=
  let w := bodyWord b 0
  let c := bodyWord b 2
  { port := ⟨w / 2 ^ 8 % 4, Nat.mod_lt _ (by decide)⟩, static := w.testBit 10, tref := w.testBit 11, cfault := w.testBit 12,
    fwok := w.testBit 13, seen := w.testBit 14, addr := BitVec.ofNat 12 (w / 2 ^ 16), lsSeq := BitVec.ofNat 32 (w / 2 ^ 32),
    uid := BitVec.ofNat 64 (bodyWord b 1), notref := c.testBit 0, tprio := BitVec.ofNat 8 (c / 2 ^ 8),
    dist := BitVec.ofNat 6 (c / 2 ^ 16), candUid := BitVec.ofNat 64 (bodyWord b 3) }
/-- HELLO_SEND. -/
def helloSend (f : Fin 4) (s : State) : State :=
  if tc0Sends s f then
    let body := helloBody (ownHello s f)
    sendOn f (bcast s 3 body) body s
  else s
/-- The content that decides whether a hello is copied: W1 [15:14] left out. -/
def helloKey (h : Hello) : List Byte := helloBody { h with seen := false }
/-- HELLO_RECEIVE (R220, R222). -/
def helloReceive (f : Fin 4) (h : Hello) (s : State) : State :=
  let p := fport s f
  if !tc0Sends s f then s
  else
    let differs := p.helloLast ≠ some (helloKey h)
    let s1 := if differs then (qEnqueue 53 (27 + f.val) true true 0
      (frameBytes { fclass := 3, tc := 0, dst := 0xFFF, src := h.addr.toNat, ttl := 32, len := 4, alt := false } (helloBody h)) false s).2 else s
    if p.st == .up && h.uid ≠ p.nbrUid then leaveUp f 4 false s1
    else if p.st == .up && !h.seen && 1 ≤ p.seen0 then leaveUp f 4 false s1
    else if p.st == .probe && h.uid = Config.uniqueId then fabFault f 6 s1
    else elect (updFport f (fun p =>
      { p with helloOk := true, partnerSeen := p.partnerSeen || (p.st == .probe && h.seen)
               seen0 := if h.seen then 0 else p.seen0 + 1, helloTb := some s.time.tb, helloLast := some (helloKey h)
               nbrFwok := h.fwok, nbrCf := h.cfault, nbrAddr := h.addr, nbrPort := h.port, nbrUid := h.uid
               cand := some { notref := h.notref, tprio := h.tprio, dist := h.dist.toNat, uid := h.candUid } }) s1)

/-! ## Link-state database (R223, R224) -/

/-- This node's link-state record. -/
def ownLsr (s : State) : Lsr :=
  { origin := s.fab.addr, seq := s.fab.lsSeq, uid := Config.uniqueId, static := isStatic s, tref := s.fab.trefValid,
    cfault := s.xb.st == .fault
    ports := Vector.ofFn fun f =>
      let p := fport s f
      { nbrAddr := p.nbrAddr, nbrPort := p.nbrPort, up := fabUp s f, cost := BitVec.ofNat 16 (fabCost s f), nbrUid := p.nbrUid } }
/-- Body of a link-state record. -/
def lsrBody (l : Lsr) : List Byte :=
  le32 (2 + 2 ^ 16 * l.origin.toNat) ++ le32 l.seq.toNat ++ leBytes l.uid.toNat 8 ++
  leBytes (b2n l.static + 2 * b2n l.tref + 4 * b2n l.cfault) 8 ++
  (allFin 4).flatMap fun f =>
    let p := Tbl.get l.ports f
    leBytes (p.nbrAddr.toNat + 2 ^ 12 * p.nbrPort.val + 2 ^ 14 * b2n p.up + 2 ^ 16 * p.cost.toNat) 8 ++ leBytes p.nbrUid.toNat 8
/-- A database change PE5 has not used yet (R228). -/
def dbChanged (s : State) : State :=
  { s with fab := { s.fab with dbDirty := some (s.fab.dbDirty.getD s.time.tb) } }
/-- Install a record in place of an earlier one of its origin. -/
def dbInstall (l : Lsr) (s : State) : State :=
  dbChanged { s with fab := { s.fab with
    db := s.fab.db.filter (fun r => r.lsr.uid ≠ l.uid) ++ [{ lsr := l, at_ := s.time.tb }] } }
/-- Send this node's record with SEQ `n`. -/
def lsrSendSeq (n : Word) (s : State) : State :=
  let s1 := { s with fab := { s.fab with lsSeq := n, lsDue := false } }
  let l := ownLsr s1
  broadcast 3 (lsrBody l) (dbInstall l s1)
/-- LSR_SEND: within one tick of a change of the port states. -/
def lsrSend (s : State) : State := if peRuns s 5 && s.fab.lsDue then lsrSendSeq (s.fab.lsSeq + 1) s else s
/-- LSR_REFRESH: every LS_REFRESH. -/
def lsrRefresh (s : State) : State := if peRuns s 5 then lsrSendSeq (s.fab.lsSeq + 1) s else s
/-- LSR_EXPIRE: a record not refreshed within LS_MAXAGE is removed. -/
def lsrExpire (uid : DWord) (s : State) : State :=
  if peRuns s 5 && uid ≠ Config.uniqueId && s.fab.db.any (fun r => r.lsr.uid = uid) then
    dbChanged { s with fab := { s.fab with db := s.fab.db.filter fun r => r.lsr.uid ≠ uid } }
  else s
/-- The steward: lowest unique ID among the nodes whose STATIC is 0 (R225). -/
def steward (s : State) : Option DWord :=
  let own := if isStatic s then [] else [Config.uniqueId]
  let all := own ++ (s.fab.db.filter fun r => !r.lsr.static).map fun r => r.lsr.uid
  all.foldl (fun m u => match m with
    | none => some u
    | some v => if u.toNat < v.toNat then some u else some v) none

/-! ## Addresses (R225 to R227) -/

/-- R227: this node loses its address to another holder. -/
def addrConflict (l : Lsr) (s : State) : State :=
  let own := isStatic s
  let loses :=
    s.fab.addr ≠ 0 && l.origin = s.fab.addr && l.uid ≠ Config.uniqueId &&
    ((l.static && !own) || (l.static == own && l.uid.toNat < Config.uniqueId.toNat))
  if loses then
    let s1 := { s with fab := { s.fab with addr := 0, asrc := if own then 3 else 0, pref := if own then s.fab.pref else 0, lsDue := true } }
    journalFabric 5 0 0 s.fab.addr Config.uniqueId 0 (countEv 32 s1)
  else s

/-- LSR_RECEIVE (R223, R224, R227). -/
def lsrReceive (f : Fin 4) (src : BitVec 12) (ttl : BitVec 6) (l : Lsr) (s : State) : State :=
  if !peRuns s 5 then s
  else if l.uid = Config.uniqueId then
    (if s.fab.lsSeq.toNat < l.seq.toNat then lsrSendSeq (l.seq + 1) s
     else if l.seq = s.fab.lsSeq then s else sendOn f (bcast s 3 (lsrBody (ownLsr s))) (lsrBody (ownLsr s)) s)
  else match s.fab.db.find? fun r => r.lsr.uid = l.uid with
    | some r =>
      if l.seq = r.lsr.seq then s
      else if l.seq.toNat < r.lsr.seq.toNat then sendOn f (bcast s 3 (lsrBody r.lsr)) (lsrBody r.lsr) s
      else floodOn f src ttl.toNat 3 (lsrBody l) (addrConflict l (dbInstall l s))
    | none => floodOn f src ttl.toNat 3 (lsrBody l) (addrConflict l (dbInstall l s))

/-- A flooded record other than an LSR is new for its identity. -/
def isNew (s : State) (kind : Nat) (uid : DWord) (n : Word) : Bool := !s.fab.seen.contains (kind, uid, n)
/-- Remember an identity. -/
def markSeen (kind : Nat) (uid : DWord) (n : Word) (s : State) : State :=
  { s with fab := { s.fab with seen := s.fab.seen ++ [(kind, uid, n)] } }

/-- DYN_BASE and DYN_LAST. -/
def dynBase (s : State) : Nat := odNum s 0x4103 1
def dynLast (s : State) : Nat := odNum s 0x4103 2
/-- Another unique ID holds an address in the database or in a grant of the last 10 s (R226). -/
def addrTaken (s : State) (uid : DWord) (a : Nat) : Bool :=
  s.fab.db.any (fun r => r.lsr.origin.toNat = a && r.lsr.uid ≠ uid) ||
  (s.fab.addr.toNat = a && uid ≠ Config.uniqueId) ||
  s.fab.grants.any (fun g => g.1.toNat = a && g.2.1 ≠ uid && s.time.tb.toNat < g.2.2.toNat + 10000000000)
/-- The address the steward grants (R226). -/
def grantAddr (s : State) (uid : DWord) (pref : BitVec 12) : Option (BitVec 12) :=
  if dynBase s ≤ pref.toNat ∧ pref.toNat ≤ dynLast s ∧ addrTaken s uid pref.toNat = false then some pref
  else ((List.range (dynLast s + 1 - dynBase s)).map (· + dynBase s)).find? (fun a => !addrTaken s uid a) |>.map fun a =>
    BitVec.ofNat 12 a
/-- The steward grants: kept for 10 s; the node's own grant is taken at the next tick. -/
def grant (uid : DWord) (pref : BitVec 12) (s : State) : Option (BitVec 12 × State) :=
  (grantAddr s uid pref).map fun a =>
    (a, { s with fab := { s.fab with
      grants := s.fab.grants ++ [(a, uid, s.time.tb)]
      granted := if uid = Config.uniqueId then some a else s.fab.granted } })
/-- The steward without an address grants itself one first (R226). -/
def grantSelf (s : State) : State :=
  if s.fab.addr = 0 ∧ s.fab.asrc ≠ 3 ∧ s.fab.granted = none then
    (match grant Config.uniqueId s.fab.pref s with
     | some (_, t) => t
     | none => s)
  else s
/-- Body of an ADDRREQ. -/
def addrReqBody (pref : BitVec 12) (seq : Word) (uid : DWord) : List Byte :=
  le32 (3 + 2 ^ 16 * pref.toNat) ++ le32 seq.toNat ++ leBytes uid.toNat 8
/-- Body of an ADDR. -/
def addrBody (a : BitVec 12) (seq : Word) (target stew : DWord) : List Byte :=
  le32 (4 + 2 ^ 16 * a.toNat) ++ le32 seq.toNat ++ leBytes target.toNat 8 ++ leBytes stew.toNat 8
/-- ADDRREQ_SEND: an unaddressed node asks. -/
def addrReqSend (s : State) : State :=
  if peRuns s 5 && s.fab.addr = 0 && s.fab.asrc ≠ 3 then
    (if steward s = some Config.uniqueId then grantSelf s
     else
       let s1 := { s with fab := { s.fab with reqSeq := s.fab.reqSeq + 1 } }
       broadcast 3 (addrReqBody s1.fab.pref s1.fab.reqSeq Config.uniqueId) s1)
  else s
/-- ADDRREQ_RECEIVE: flooded, and answered by the steward. -/
def addrReqReceive (f : Fin 4) (src : BitVec 12) (ttl : BitVec 6) (uid : DWord) (pref : BitVec 12) (seq : Word) (s : State) : State :=
  if !peRuns s 5 || !isNew s 3 uid seq then s
  else
    let s1 := floodOn f src ttl.toNat 3 (addrReqBody pref seq uid) (markSeen 3 uid seq s)
    if steward s1 = some Config.uniqueId then
      (match grant uid pref (grantSelf s1) with
       | some (a, t) =>
         let t1 := { t with fab := { t.fab with gSeq := t.fab.gSeq + 1 } }
         broadcast 3 (addrBody a t1.fab.gSeq uid Config.uniqueId) t1
       | none => s1)
    else s1
/-- ADDR_RECEIVE: flooded; the requester takes the address at the next device tick. -/
def addrReceive (f : Fin 4) (src : BitVec 12) (ttl : BitVec 6) (target : DWord) (a : BitVec 12) (seq : Word) (stew : DWord) (s : State) : State :=
  if !peRuns s 5 || !isNew s 4 target seq then s
  else
    let s1 := floodOn f src ttl.toNat 3 (addrBody a seq target stew) (markSeen 4 target seq s)
    if target = Config.uniqueId ∧ s.fab.addr = 0 ∧ s.fab.asrc ≠ 3 then { s1 with fab := { s1.fab with granted := some a } } else s1
/-- At a device tick the granted address is taken, stored as PREF, and an LSR follows (R226). -/
def takeAddress (s : State) : State :=
  match s.fab.granted with
  | some a =>
    if peRuns s 5 then
      { s with fab := { s.fab with granted := none, addr := a, asrc := 2, pref := a, lsDue := true } }
    else s
  | none => s

/-! ## Routes (R228, R229) -/

/-- Record of a node. -/
def recOf (db : List Lsr) (uid : DWord) : Option Lsr := db.find? fun r => r.uid = uid
/-- The links of a node that count for routing: port, cost, neighbour; both records list them UP, each naming the other. -/
def linksOf (db : List Lsr) (a : Lsr) : List (Fin 4 × Nat × DWord) :=
  (allFin 4).filterMap fun p =>
    let x := Tbl.get a.ports p
    match recOf db x.nbrUid with
    | some b =>
      let y := Tbl.get b.ports x.nbrPort
      if x.up && y.up && y.nbrUid = a.uid && y.nbrPort = p then some (p, max 1 x.cost.toNat, b.uid) else none
    | none => none
/-- A path cost with its hops. -/
abbrev PathCost := Nat × Nat
/-- Order of path costs: cost, then hops. -/
def PathCost.less (a b : PathCost) : Bool := a.1 < b.1 || (a.1 = b.1 && a.2 < b.2)
/-- The least of a list of path costs. -/
def leastCost : List PathCost → Option PathCost
  | [] => none
  | a :: l => match leastCost l with
    | none => some a
    | some b => if PathCost.less b a then some b else some a
/-- Distances of every node to `d`: one relaxation round. -/
def relax (db : List Lsr) (d : DWord) (t : List (DWord × PathCost)) : List (DWord × PathCost) :=
  db.filterMap fun a =>
    if a.uid = d then some (a.uid, (0, 0))
    else
      let cs := (linksOf db a).filterMap fun l =>
        match recOf db l.2.2, t.lookup l.2.2 with
        | some n, some c => if n.cfault then none else some (l.2.1 + c.1, c.2 + 1)
        | _, _ => none
      (leastCost cs).map fun c => (a.uid, c)
/-- Distances to `d` after `n` rounds. -/
def distances (db : List Lsr) (d : DWord) : Nat → List (DWord × PathCost)
  | 0 => [(d, (0, 0))]
  | n + 1 => relax db d (distances db d n)
/-- A usable first hop: port, cost of the port, distance of the neighbour. -/
structure Hop where
  port : Fin 4
  cost : Nat
  nbr : DWord
  dist : PathCost
deriving DecidableEq, Repr
/-- First hops of this node towards `d`. -/
def firstHops (db : List Lsr) (self : Lsr) (t : List (DWord × PathCost)) : List Hop :=
  (linksOf db self).filterMap fun l =>
    match recOf db l.2.2, t.lookup l.2.2 with
    | some n, some c => if n.cfault then none else some { port := l.1, cost := l.2.1, nbr := l.2.2, dist := c }
    | _, _ => none
/-- The least hop under a key, lowest port among equals (the list is in port order). -/
def leastHop (key : Hop → PathCost) : List Hop → Option Hop
  | [] => none
  | a :: l => match leastHop key l with
    | none => some a
    | some b => if PathCost.less (key b) (key a) then some b else some a
/-- Route entry towards a node (R228). -/
def routeTo (db : List Lsr) (self d : Lsr) : Word :=
  if d.cfault then routeReset 0
  else
    let n := db.length
    let t := distances db d.uid n
    let hops := firstHops db self t
    match leastHop (fun h => (h.cost + h.dist.1, h.dist.2 + 1)) hops with
    | none => routeReset 0
    | some h =>
      let dist := h.cost + h.dist.1
      let back := distances db self.uid n
      let alts := hops.filter fun q => q.port ≠ h.port &&
        (match back.lookup q.nbr with
         | some b => q.dist.1 < b.1 + dist
         | none => false)
      let alt := match leastHop (fun q => (q.dist.1 + q.cost, 0)) alts with
        | some q => q.port.val
        | none => 7
      pk [(h.port.val, 0, 3), (alt, 3, 3), (1, 6, 1), (min 63 (h.dist.2 + 1), 8, 6), (min 0xFFFF dist, 16, 16)]
/-- ROUTE_RECOMPUTE: PE5 computes the table from the database into the shadow bank. -/
def routeRecompute (s : State) : State :=
  if !peRuns s 5 || s.fab.dbDirty = none then s
  else
    let self := ownLsr s
    let db := self :: ((s.fab.db.map fun r => r.lsr).filter fun l => l.uid ≠ self.uid)
    let own := if s.fab.addr = 0 then [] else [(s.fab.addr.toNat, pk [(4, 0, 3), (7, 3, 3), (1, 6, 1)])]
    let rest := db.filterMap fun d =>
      if d.uid = self.uid || d.origin = 0 || d.origin = 0xFFF || d.origin = s.fab.addr then none else some (d.origin.toNat, routeTo db self d)
    let bank := (own ++ rest).foldl (fun b x => Sparse.put routeReset b x.1 x.2) []
    let s1 := { s with fab := { s.fab with dbDirty := none } }
    if s1.fab.rtActive then { s1 with fab := { s1.fab with rt0 := bank } } else { s1 with fab := { s1.fab with rt1 := bank } }
/-- FAB_RT_CTL.SWAP (R229). -/
def routeSwap (s : State) : State := { s with fab := { s.fab with rtActive := !s.fab.rtActive } }

end Sys2Proof.Machine
end

