-- ==== Sys2Proof/Machine/FabTime.lean ====
section
/-!
DEFINITION. Fabric time: delay measurement, SYNC, the time states and TIMEREF_IN (R233 to R236), and scheduled
snapshot targets (R237, R238).
-/

namespace Sys2Proof.Machine

open Sys2Proof

/-! ## Rate and steps of TB (R19) -/

/-- Nominal increment per core cycle, 8.24 fixed point: 5 ns on the PLL, the trimmed value on FIRC. -/
def incNominal (s : State) : Nat := if s.ao.onPll then 5 * 2 ^ 24 else Config.fircInc.toNat
/-- Steer at -200 ppm. -/
def steerBack (s : State) : State :=
  { s with time := { s.time with inc := BitVec.ofNat 32 (incNominal s - incNominal s / 5000) } }
/-- Nominal rate. -/
def steerNominal (s : State) : State := { s with time := { s.time with inc := BitVec.ofNat 32 (incNominal s) } }
/-- Steer within 200 ppm; the spec does not say by how much: a free value. -/
def steerFree (s : State) : State :=
  let n := incNominal s
  let d := (Config.steer s.free).toNat % (2 * (n / 5000) + 1)
  { s with time := { s.time with inc := BitVec.ofNat 32 (n - n / 5000 + d) }, free := s.free + 1 }

/-! ## Delay measurement (R233) -/

/-- ASYMn, signed, 1/16 ns. -/
def fabAsym (s : State) (f : Fin 4) : Int := (BitVec.ofNat 16 (fld (regv s (0x90114 + 0x40 * f.val)) 15 0)).toInt
/-- Mean of the last measurements. -/
def delayMean (p : FPortS) : Int := if p.delays.isEmpty then 0 else p.delays.foldl (· + ·) 0 / (p.delays.length : Int)
/-- Body of a DREQ. -/
def dreqBody (q : Byte) (t1 : DWord) : List Byte := leBytes (2 + 256 * q.toNat) 8 ++ leBytes t1.toNat 8
/-- Body of a DRESP. -/
def drespBody (q : Byte) (t1 t2 t3 : DWord) : List Byte :=
  leBytes (3 + 256 * q.toNat) 8 ++ leBytes t1.toNat 8 ++ leBytes t2.toNat 8 ++ leBytes t3.toNat 8
/-- A time frame on one port. -/
def timeFrame (f : Fin 4) (body : List Byte) (s : State) : State := sendOn f (bcast s 4 body) body s
/-- DREQ_SEND: a port in PROBE or UP measures; `t1` is the departure it inserts. -/
def dreqSend (f : Fin 4) (t1 : DWord) (s : State) : State :=
  match (fport s f).st with
  | .probe | .up =>
    let q := (fport s f).dreqSeq + 1
    timeFrame f (dreqBody q t1) (updFport f (fun p => { p with dreqSeq := q, dreqT1 := some t1 }) s)
  | _ => s
/-- TRAIN_COMPLETE: 16 valid credit blocks and a valid hello; the port sends a DREQ. -/
def trainComplete (f : Fin 4) (t1 : DWord) (s : State) : State :=
  let p := fport s f
  if p.st == .train && 16 ≤ p.creditRun && p.helloOk then
    dreqSend f t1 (updFport f (fun p => { p with st := .probe, partnerSeen := false, delays := [] }) s)
  else s
/-- DREQ_RECEIVE: answered within 2 us; T2 and T3 are the port's timestamps. -/
def dreqReceive (f : Fin 4) (q : Byte) (t1 t2 t3 : DWord) (s : State) : State :=
  if tc0Sends s f then timeFrame f (drespBody q t1 t2 t3) s else s
/-- DRESP_RECEIVE: the measurement of an outstanding DREQ; above 1.5 us in PROBE the link is refused (R220). -/
def drespReceive (f : Fin 4) (q : Byte) (t1 t2 t3 t4 : DWord) (s : State) : State :=
  let p := fport s f
  if q = p.dreqSeq ∧ p.dreqT1 = some t1 then
    let d := ((t4 - t1).toInt - (t3 - t2).toInt) / 2 + fabAsym s f
    let l := p.delays ++ [d]
    let s1 := updFport f (fun p => { p with dreqT1 := none, delays := l.drop (l.length - 8) }) s
    if p.st == .probe && decide (24000 < d) then fabFault f 5 s1 else s1
  else s

/-! ## SYNC and time states (R234, R235) -/

/-- Body of a SYNC. -/
def syncBody (m : BitVec 12) (sseq : Word) (t : DWord) (corr : DWord) : List Byte :=
  le32 (1 + 2 ^ 16 * m.toNat) ++ le32 sseq.toNat ++ leBytes t.toNat 8 ++ leBytes corr.toNat 8
/-- At a tick boundary the time master sends a SYNC on every UP port. -/
def syncSend (s : State) : State :=
  if s.fab.tst == .master && s.xb.st != .fault then
    broadcast 4 (syncBody s.fab.addr s.time.tick (s.time.tb * 16) 0) s
  else s
/-- Entry to LOCKED: record; TB_ESTIMATED clears (R359). -/
def timeLocked (s : State) : State :=
  journalFabric 3 0 0 s.fab.masterAddr (s.fab.master.getD 0) 0
    { s with fab := { s.fab with tst := .locked, goodSync := 0 }, time := { s.time with tbEst := false, tbUnc := 0 } }
/-- Time leaves LOCKED, or ACQUIRE for want of SYNC: EV31 and a record. -/
def timeLeft (t : TimeSt) (s : State) : State :=
  journalFabric 4 0 0 s.fab.masterAddr (s.fab.master.getD 0) 0
    (countEv 31 { s with fab := { s.fab with tst := t, goodSync := 0 } })
/-- The time state after an accepted SYNC with the offset `o`, 1/16 ns. -/
def timeSync (o : Int) (s : State) : State :=
  let set (t : TimeSt) (n : Nat) (s : State) : State := { s with fab := { s.fab with tst := t, goodSync := n } }
  match s.fab.tst with
  | .free | .holdover => set .acquire 0 s
  | .acquire =>
    if o < -16000 then set .acquire 0 { s with fab := { s.fab with step := (-o).toNat / 16 } }
    else if 16000 < o then set .acquire 0 (steerBack s)
    else if o.natAbs ≤ 1600 then
      (if 16 ≤ s.fab.goodSync + 1 then timeLocked s else set .acquire (s.fab.goodSync + 1) s)
    else set .acquire 0 s
  | .locked => if 16000 < o.natAbs then timeLeft .acquire s else steerFree s
  | .master => s
/-- SYNC_RECEIVE: accepted on TUP only; repeated on every other UP port with CORR increased (R234). -/
def syncReceive (f : Fin 4) (m : BitVec 12) (sseq : Word) (origin corr trx : DWord) (ttx : Tbl 4 DWord) (s : State) : State :=
  if s.fab.tup ≠ some f ∨ s.fab.tst = .master ∨ s.xb.st = .fault ∨ fabUp s f = false then s
  else
    let d := delayMean (fport s f)
    let o : Int := trx.toInt - (origin.toInt + corr.toInt + d)
    let s1 := eachFin 4 (fun g t =>
      if g ≠ f && fabUp t g then
        timeFrame g (syncBody m sseq origin (BitVec.ofInt 64 (corr.toInt + d + ((Tbl.get ttx g).toInt - trx.toInt)))) t
      else t) s
    timeSync o { s1 with fab := { s1.fab with ofs := o, masterAddr := m } }
/-- SYNC_LOSS: no SYNC for 64 ticks. -/
def syncLoss (s : State) : State :=
  match s.fab.tst with
  | .acquire | .locked => timeLeft .holdover s
  | _ => s
/-- HOLDOVER_EXPIRED: 60 s. -/
def holdoverExpired (s : State) : State :=
  if s.fab.tst == .holdover then steerNominal { s with fab := { s.fab with tst := .free } } else s
/-- PE5 is reset: time goes to HOLDOVER at the held rate. -/
def pe5Lost (s : State) : State := { s with fab := { s.fab with tst := .holdover, goodSync := 0 } }

/-- TIMEREF_IN_EDGE (R232, R235): four consecutive edges 1 s apart within 100 us make it valid; a master steps TB
forward at its first edge, then steers. -/
def trefEdge (s : State) : State :=
  let good := match s.fab.trefLast with
    | some t =>
      let d := s.time.tb.toNat - t.toNat
      999900000 ≤ d && d ≤ 1000100000
    | none => false
  let run := if good then min 4 (s.fab.trefRun + 1) else 1
  let valid := run = 4 || (s.fab.trefValid && good)
  let s1 := elect { s with fab := { s.fab with trefRun := run, trefLast := some s.time.tb, trefValid := valid } }
  if valid && s1.fab.tst == .master then
    (if s1.fab.trefStepped then steerFree s1
     else
       { s1 with fab := { s1.fab with trefStepped := true, step := (1000000000 - s1.time.tb.toNat % 1000000000) % 1000000000 }
                 time := { s1.time with tbEst := false, tbUnc := 0 } })
  else s1
/-- TIMEREF_IN_LOSS: two missing edges. -/
def trefLoss (s : State) : State :=
  elect { s with fab := { s.fab with trefValid := false, trefRun := 0, trefLast := none, trefStepped := false } }

/-! ## Scheduled snapshots (R237, R238) -/

/-- A target rounded up to the next tick boundary. -/
def snapRound (t : DWord) : DWord := BitVec.ofNat 64 ((t.toNat + 124999) / 125000 * 125000)
/-- The lowest free target of the snapshot block. -/
def snapFree (s : State) : Option (Fin 4) := (allFin 4).find? fun n => !(Tbl.get s.snap.tgt n).armed
/-- Arm a target: past targets and a fifth are missed, EV33. -/
def snapArm (id : Word) (origin : BitVec 12) (t : DWord) (s : State) : State :=
  match snapFree s with
  | some n =>
    if t.toNat ≤ s.time.tb.toNat then journalFabric 7 0 0 origin 0 id (countEv 33 s)
    else { s with snap := { s.snap with tgt := Tbl.put s.snap.tgt n { armed := true, target := t, id := id } } }
  | none => journalFabric 7 0 0 origin 0 id (countEv 33 s)
/-- Body of a SNAPT. -/
def snaptBody (id : Word) (origin : BitVec 12) (t : DWord) : List Byte :=
  leBytes (id.toNat + 2 ^ 32 * origin.toNat) 8 ++ leBytes t.toNat 8
/-- SNAPSHOT_SCHEDULE: command 1 of OD 0x4030 sub 3 (R237). -/
def snapSchedule (s : State) : State :=
  let t := snapRound s.fab.snapTarget
  let d := s.fab.snapTarget.toNat - s.time.tb.toNat
  if d < 20000000 ∨ 600000000000 < d then { s with fab := { s.fab with snapStat := 3 } }
  else if (snapFree s).isNone then
    journalFabric 7 0 0 s.fab.addr Config.uniqueId s.fab.snapId (countEv 33 { s with fab := { s.fab with snapStat := 5 } })
  else
    let s1 := snapArm s.fab.snapId s.fab.addr t { s with fab := { s.fab with snapStat := 1 } }
    broadcast 5 (snaptBody s.fab.snapId s.fab.addr t) (markSeen 5 (BitVec.ofNat 64 s.fab.addr.toNat) s.fab.snapId s1)
/-- SNAPT_RECEIVE: flooded and armed (R224, R237). -/
def snaptReceive (f : Fin 4) (src : BitVec 12) (ttl : BitVec 6) (id : Word) (origin : BitVec 12) (t : DWord) (s : State) : State :=
  if !peRuns s 5 || !isNew s 5 (BitVec.ofNat 64 origin.toNat) id then s
  else
    snapArm id origin t
      (floodOn f src ttl.toNat 5 (snaptBody id origin t) (markSeen 5 (BitVec.ofNat 64 origin.toNat) id s))

end Sys2Proof.Machine
end

