-- ==== Sys2Proof/Machine/FrameRx.lean ====
section
/-!
DEFINITION. Reception of fabric frames: checks, delivery by class, forwarding, and the ingress FIFOs
(R213 to R217, R230, R241).
-/

namespace Sys2Proof.Machine

open Sys2Proof

/-- Outcome of handing a frame on. -/
inductive Handed where
  /-- taken, or discarded -/
  | done
  /-- no credit: the frame stays in its ingress FIFO -/
  | wait
deriving DecidableEq, Repr

/-- Place a frame for an engine in a queue. -/
def toQueue (f : Fin 4) (q : Fin 64) (b : List Byte) (s : State) : Handed × State :=
  let (st, s1) := qEnqueue q (27 + f.val) true true 0 b false s
  (if st = qNOCREDIT then .wait else .done, s1)
/-- A frame for this node whose FCRC is wrong: its queue item ends with an ABORT tail. -/
def toQueueBad (q : Fin 64) (f : Fin 4) (b : List Byte) (s : State) : State :=
  itemAbort q (qEnqueue q (27 + f.val) true false 0 b false s).2
/-- Count a CRC error at the crosspoint port (R97, R213). -/
def fabCrcErr (f : Fin 4) (s : State) : State := updXp (fabXp f) (fun c => { c with crcErr := sat16 c.crcErr }) s
/-- A TIME frame at the port hardware (R214). -/
def timeReceive (f : Fin 4) (body : List Byte) (t : Stamps) (s : State) : State :=
  let w := bodyWord body 0
  let q := BitVec.ofNat 8 (w / 256)
  let d (k : Nat) : DWord := BitVec.ofNat 64 (bodyWord body k)
  if w % 256 = 1 then syncReceive f (BitVec.ofNat 12 (w / 2 ^ 16)) (BitVec.ofNat 32 (w / 2 ^ 32)) (d 1) (d 2) t.rx t.tx s
  else if w % 256 = 2 then dreqReceive f q (d 1) t.rx (Tbl.get t.tx f) s
  else if w % 256 = 3 then drespReceive f q (d 1) (d 2) (d 3) t.rx s
  else s

/-- Delivery to this node by class (R214). -/
def deliver (f : Fin 4) (h : FHdr) (b : List Byte) (t : Stamps) (s : State) : Handed × State :=
  let body := frameBody b
  let ok := fcrcOk b
  let s0 := if ok then s else fabCrcErr f s
  let w := bodyWord body 0
  let src : BitVec 12 := BitVec.ofNat 12 h.src
  let viaQueue (q : Fin 64) : Handed × State := if ok then toQueue f q b s0 else (.done, toQueueBad q f b s0)
  match h.fclass with
  | 0 =>
    if h.tc = 3 then viaQueue 58
    else (match boundTo s0 src (w / 256 % 256) with
      | some n =>
        (.done, dataReceive n (BitVec.ofNat 8 w) ((body.drop 8).take (w / 2 ^ 16 % 2048)) ok false s0)
      | none => (.done, updFport f (fun p => { p with unbound := sat8 p.unbound }) s0))
  | 1 =>
    if !ok then (.done, s0)
    else (match boundTo s0 src (w / 256 % 256) with
      | some n => (.done, ackReceive n src (BitVec.ofNat 8 w) (w.testBit 16) (BitVec.ofNat 6 (w / 2 ^ 24)) s0)
      | none => (.done, updFport f (fun p => { p with unbound := sat8 p.unbound }) s0))
  | 2 => viaQueue 54
  | 3 => if w % 256 = 1 then (.done, if ok then helloReceive f (helloOfBody body) s0 else s0) else viaQueue 53
  | 4 =>
    if !ok then (.done, s0)
    else
      let s1 := timeReceive f body t s0
      if w % 256 = 1 then toQueue f 53 b s1 else (.done, s1)
  | 5 => viaQueue 53
  | 6 =>
    if !peRuns s0 0 then
      (.done, if ok && w % 256 < 0x80 then
        odxSend src (BitVec.ofNat 8 w ||| 0x80) (BitVec.ofNat 8 (w / 256)) (BitVec.ofNat 16 (w / 2 ^ 16)) (BitVec.ofNat 8 (w / 2 ^ 32)) 8 [] s0
       else s0)
    else viaQueue 48
  | _ => (.done, s0)

/-- A transit frame (R213, R217, R230). -/
def forward (f : Fin 4) (h : FHdr) (b : List Byte) (s : State) : Handed × State :=
  if h.ttl ≤ 1 then (.done, updFport f (fun p => { p with ttlDrop := sat8 p.ttlDrop }) s)
  else match lookup s h.dst h.alt with
    | .port g alt =>
      let b1 := ({ h with ttl := h.ttl - 1, alt := alt } : FHdr).bytes ++ b.drop 8
      let (st, s1) := fabEnqueue g h.tc (27 + f.val) b1 false s
      if st = qNOCREDIT then (.wait, s)
      else
        let s2 := if alt && !h.alt then altCount h.dst s1 else s1
        (.done, if fcrcOk b then s2 else fabCrcErr f s2)
    | .here | .none => (.done, updFport f (fun p => { p with noRoute := sat8 p.noRoute }) s)

/-- A frame with a good header goes to this node or on; while the core is not in RUN only the port hardware's
frames are taken (R215, R102). -/
def hand (f : Fin 4) (h : FHdr) (b : List Byte) (t : Stamps) (s : State) : Handed × State :=
  let here := h.dst = 0xFFF || (h.dst = s.fab.addr.toNat && h.dst ≠ 0)
  let hw := h.fclass = 4 || (h.fclass = 3 && bodyWord (frameBody b) 0 % 256 = 1)
  if s.xb.st != .run && !hw then (.wait, s)
  else if here then deliver f h b t s
  else forward f h b s

/-- The frame is malformed (R213). -/
def badHeader (h : FHdr) (b : List Byte) : Bool :=
  h.dst = 0 || 254 < h.len || !tcPermitted h.fclass h.tc || !srcPermitted h.fclass (bodyWord (frameBody b) 0 % 256) h.src ||
    b.length ≠ 8 * (h.len + 2) || (3 ≤ h.fclass && h.fclass ≤ 5 && h.dst ≠ 0xFFF) ||
    ((h.fclass = 6 || h.fclass = 2 || h.fclass = 1) && h.dst = 0xFFF)

/-- FRAME_RECEIVE. `aborted`: a block error ended the frame. A class with frames held in its FIFO keeps its order. -/
def frameReceive (f : Fin 4) (b : List Byte) (aborted : Bool) (t : Stamps) (s : State) : State :=
  if (fport s f).st == .off || (fport s f).st == .down then s
  else if aborted then updFport f (fun p => { p with blkErr := sat8 p.blkErr }) s
  else if b.length < 16 then updFport f (fun p => { p with badHdr := sat8 p.badHdr }) s
  else if !hcrcOk b then updFport f (fun p => { p with hcrcErr := sat8 p.hcrcErr }) s
  else
    let h := FHdr.ofBytes b
    if badHeader h b then updFport f (fun p => { p with badHdr := sat8 p.badHdr }) s
    else
      let tc : Fin 4 := ⟨h.tc % 4, Nat.mod_lt _ (by decide)⟩
      let keep (s : State) : State := updFport f (fun p => { p with fifo := p.fifo ++ [{ tc := tc, bytes := b }] }) s
      if (fport s f).fifo.any (fun x => x.tc = tc) then keep s
      else match hand f h b t s with
        | (.done, s1) => s1
        | (.wait, s1) => keep s1

/-- The heads of the ingress FIFOs enter the core: frames in order, a class that waits blocking only itself (R215). -/
def fifoDrain (f : Fin 4) (s : State) : State :=
  let z : Stamps := { rx := s.time.tb * 16, tx := Tbl.fill 4 (s.time.tb * 16) }
  let r := (fport s f).fifo.foldl (fun (a : List HeldFrame × State) x =>
    if a.1.any (fun y => y.tc = x.tc) then (a.1 ++ [x], a.2)
    else match hand f (FHdr.ofBytes x.bytes) x.bytes z a.2 with
      | (.done, s1) => (a.1, s1)
      | (.wait, s1) => (a.1 ++ [x], s1)) ([], s)
  updFport f (fun p => { p with fifo := r.1 }) r.2

end Sys2Proof.Machine
end

