-- ==== Sys2Proof/Machine/Xbar.lean ====
section
/-!
DEFINITION. The forwarding core: route resolution, ingress and egress of packets, the Keystone points
and the lockstep pair (R90 to R107, R142 to R154).
-/

namespace Sys2Proof.Machine

open Sys2Proof

/-! ## Resolution map (R92 to R94) -/

/-- UPDEST of an entry: where its upstream-direction packets go; 63 discarded. -/
def upDest (s : State) (e : Fin 40) : Nat :=
  let p := port s e
  if topoOwner s e = 4 then (if s.usb.topoValid then 32 else 63)
  else match treeOf s e with
    | some u => if p.held then 63 else 24 + u.val
    | none => 63

/-- XBAR_RMAPn. -/
def rmapWord (s : State) (e : Fin 40) : Word :=
  match place s e with
  | some (lh, n) =>
    let u := hubUp lh
    let t1 := if hubTier lh = 1 then n else nSS s (tier1 u)
    let t2 := if hubTier lh = 1 then 0 else n
    pk [(upDest s e, 0, 6), (t1, 8, 4), (t2, 12, 4), (u.val, 16, 2)]
  | none => pk [(upDest s e, 0, 6), (3, 16, 2)]

/-- Where the core sends a packet (R92). -/
inductive Dest where
  | discard
  /-- a crosspoint port's egress -/
  | xp (x : Fin 33)
  /-- a slot port, with its entry -/
  | slot (e : Fin 40)
  /-- an engine behind XP32: a mailbox or frame queue -/
  | engine (q : Fin 64)
  /-- the repeater lanes of a tree -/
  | lanes (u : Fin 3)
deriving DecidableEq, Repr

/-- The mailbox queue of the lowest engine that holds a role bit of SYS_PEn_PORTS, PE6 or PE0 by default. -/
def roleMailbox (s : State) (b : Nat) : Fin 64 :=
  match (allFin 8).find? fun n => bit (regv s (0x920 + 4 * n.val)) b with
  | some n => ⟨fld (regv s (0x804 + 0x20 * n.val)) 29 24 % 64, Nat.mod_lt _ (by decide)⟩
  | none => 48
/-- Requests for hub halves go to the engine that serves them (HUBS). -/
def hubsQueue (s : State) : Fin 64 := roleMailbox s 28
/-- Virtual-slot and export traffic goes to the engine that serves them (VSLOT). -/
def vslotQueue (s : State) : Fin 64 := roleMailbox s 27

/-- Nibble `d` of a route string. -/
def nibble (r : BitVec 20) (d : Nat) : Nat := r.toNat / 16 ^ d % 16

/-- The entry on a port of a hub as a destination. -/
def entryDest (s : State) (lh : Fin 6) (n : Nat) : Dest :=
  match portTarget s lh false n with
  | .entry e => if e.val < 24 then .slot e else .engine (vslotQueue s)
  | _ => .discard

/-- SuperSpeed packets from an upstream (R92 rows 1 to 7). -/
def ssDest (s : State) (u : Fin 3) (route : BitVec 20) (addr : BitVec 7) : Dest :=
  let h1 := hub s (tier1 u)
  if !hubPresent s (tier1 u) then .discard
  else match h1.depth with
    | none => if addr = h1.addrSS then .engine (hubsQueue s) else .discard
    | some d =>
      let n := nibble route d.val
      if n = 0 then .engine (hubsQueue s)
      else match portTarget s (tier1 u) false n with
        | .tier2 _ =>
          let h2 := hub s (tier2 u)
          if h2.standby then .discard
          else (match h2.depth with
            | none => if addr = h2.addrSS then .engine (hubsQueue s) else .discard
            | some d2 =>
              let m := nibble route d2.val
              if m = 0 then .engine (hubsQueue s) else entryDest s (tier2 u) m)
        | .entry e => if e.val < 24 then .slot e else .engine (vslotQueue s)
        | _ => .discard

/-- USB 2.0 packets from an upstream (R92 rows 8 and 9). -/
def usb2Dest (s : State) (u : Fin 3) (addr : BitVec 7) : Dest :=
  let t := tree s u
  if addr = t.mfAddr then .xp 31
  else if hubPresent s (tier1 u) && addr = (hub s (tier1 u)).addrHS then .engine (hubsQueue s)
  else if hubPresent s (tier2 u) && !(hub s (tier2 u)).standby && addr = (hub s (tier2 u)).addrHS then .engine (hubsQueue s)
  else .lanes u

/-- Packets from a slot (R92 rows 10 to 12). -/
def slotDest (s : State) (e : Fin 40) : Dest :=
  let p := port s e
  if topoOwner s e = 4 && s.usb.topoValid then .engine (vslotQueue s)
  else match treeOf s e with
    | some u => if !p.held && (p.st == .enabled || p.st == .suspended) then .xp ⟨24 + u.val, by omega⟩ else .discard
    | none => .discard

/-! ## Ingress (R92, R93, R105, R123) -/

/-- A port whose link cannot take a packet: answered as the hub class prescribes and not queued (R92). -/
def linkClosed (p : PortS) : Bool := p.link == .u3 || p.link == .ssDisabled || p.link == .rxDetect

/-- A packet as it reaches an ingress port with its header valid. -/
def sendHeader (src dst : Fin 33) (b : List Byte) (s : State) : State :=
  let s1 := { s with xb := { s.xb with hdrs := s.xb.hdrs ++ [{ src := src, dst := dst, bytes := b }] } }
  raiseReq (egressPoint dst) ⟨src.val, by omega⟩ s1

/-- Begin a stored payload in an egress queue; without credit the ingress port is held off (R105), and a disabled
queue discards (R116). A crosspoint port learns the length as the payload arrives: of one longer than `lim` or
ITEM_MAX the item keeps the first bytes and ends with an ABORT tail (R76, R126). -/
def storeBegin (src : Fin 33) (q : Fin 64) (whole : Bool) (lim : Nat) (b : List Byte) (poison : Bool) (s : State) : State :=
  if !qEn s q then unroute src s
  else
    let n := min lim (qItemMax s q)
    let long := decide (n < b.length)
    let (st, s0) := qEnqueue q src.val true (whole && !long) (BitVec.ofNat 16 src.val) (b.take n) poison s
    let s1 := if st = qOK && long then itemAbort q s0 else s0
    if st = qOK then (if h : q.val < 33 then raiseEgress ⟨q.val, h⟩ s1 else s1)
    else if st = qDROPPED then s1
    else s1.answer .nak

/-- PACKET_INGRESS. -/
def packetIngress (x : Fin 33) (k : Packet) (s : State) : State :=
  if s.xb.st != .run then s.answer .nak
  else
    let lim := if x.val < 24 && k.kind == .ssData then 1024 else 65528
    let toXp (d : Fin 33) (stored : Bool) : State :=
      if stored then storeBegin x ⟨d.val, by omega⟩ false lim k.bytes k.poison s else sendHeader x d k.bytes s
    let go (d : Dest) (stored : Bool) : State :=
      match d with
      | .discard => unroute x s
      | .xp d => toXp d (stored || d.val = 31)
      | .slot e =>
        let p := port s e
        if linkClosed p || p.st == .disconnected then s.answer .requestError
        else if p.link == .u1 || p.link == .u2 then (putPort s e { p with link := .u0 }).answer .nrdy
        else toXp ⟨e.val % 33, Nat.mod_lt _ (by decide)⟩ stored
      | .engine q => storeBegin x q true lim k.bytes k.poison s
      | .lanes u =>
        s.emit ((allFin 24).filterMap fun p =>
          let e := slotEntry p
          let q := port s e
          if inTree s u e && q.st == .enabled && q.connHS && !q.hs.has 2 then some (.packet ⟨p.val, by omega⟩ k.bytes false) else none)
    if h : 24 ≤ x.val ∧ x.val ≤ 26 then
      let u : Fin 3 := ⟨x.val - 24, by omega⟩
      match k.kind with
      | .ssHeader => go (ssDest s u k.route k.addr) false
      | .ssData => go (ssDest s u k.route k.addr) true
      | .usb2 => go (usb2Dest s u k.addr) true
      | _ => unroute x s
    else if hs : x.val < 24 then
      let d := slotDest s ⟨x.val, by omega⟩
      match k.kind with
      | .usb2 =>
        (match d with
         | .xp d => s.emit [.packet d k.bytes false]
         | d => go d true)
      | .ssHeader => go d false
      | .ssData => if 1024 < k.bytes.length then overrun ⟨x.val, hs⟩ (go d true) else go d true
      | .engine => go d true
    else if x.val ≤ 30 then s
    else if x.val = 31 then toXp ⟨24 + k.up.val, by omega⟩ true
    else toXp k.dest true

/-- PAYLOAD_COMPLETE (R97, R123): the last data of the payload a crosspoint port is storing in a queue arrive; the
CRC-32 is checked and the item committed. A SuperSpeed payload that has grown beyond 1,024 bytes is the overrun of
R76. -/
def payloadComplete (x : Fin 33) (q : Fin 64) (rest : List Byte) (poison crcBad abort : Bool) (s : State) : State :=
  match (queue s q).cur with
  | some c =>
    if c.prod = x.val then
      let ss := x.val < 24 && (port s ⟨x.val, by omega⟩).connSS
      let long := ss && decide (1024 < c.len + rest.length)
      let s1 := if crcBad then updXp x (fun c => { c with crcErr := sat16 c.crcErr }) s else s
      let s2 := itemData q (if long then rest.take (1024 - c.len) else rest) poison s1
      let s3 := if abort || long then itemAbort q s2 else if (queue s2 q).cur.isSome then itemCommit q true s2 else s2
      let s4 := qSettle q s3
      let s5 := if h : q.val < 33 then raiseEgress ⟨q.val, h⟩ s4 else s4
      if h : x.val < 24 then (if long then overrun ⟨x.val, h⟩ s5 else s5) else s5
    else s
  | none => s

/-! ## Decisions of the arbiter (R144 to R149) -/

/-- AGE_N, nearer limit applied. -/
def ageN (s : State) : Nat := min 64 (max 2 (fld (regv s 0x20004) 6 0))
/-- Priority of a requester at a point (R147). -/
def reqPri (s : State) (pt : Fin 49) (r : Fin 48) : Nat :=
  let v := regv s (0x20100 + 4 * r.val)
  if pt.val < 16 then fld v 2 0 else fld v 6 4
/-- Age of a waiting request, saturating. -/
def reqAge (s : State) (w : ReqS) : Nat := min 65535 (s.arb.cyc - w.raised)

/-- `a` precedes `b` by age, then by lower number. -/
def olderThan (s : State) (a b : ReqS) : Bool :=
  reqAge s b < reqAge s a || (reqAge s a = reqAge s b && a.req.val < b.req.val)
/-- `a` precedes `b` by priority, then by age, then by lower number. -/
def priBefore (s : State) (a b : ReqS) : Bool :=
  let pa := reqPri s a.point a.req
  let pb := reqPri s b.point b.req
  pb < pa || (pa = pb && olderThan s a b)

/-- The element that precedes every other one. -/
def bestBy (lt : ReqS → ReqS → Bool) : List ReqS → Option ReqS
  | [] => none
  | a :: l => match bestBy lt l with
    | none => some a
    | some b => if lt b a then some b else some a

/-- Requests waiting at a point. -/
def waitsAt (s : State) (pt : Fin 49) : List ReqS := s.arb.waits.filter fun w => w.point = pt

/-- The queue of a fabric port has a frame at its head whose class the partner has stopped (R215). -/
def headStopped (s : State) (pt : Fin 49) : Bool :=
  if h : 43 ≤ pt.val ∧ pt.val ≤ 46 then
    let q : Fin 64 := ⟨pt.val - 16, by omega⟩
    let (b, pos) := readPos (queue s q)
    (headAt s q).isSome && tcStopped s ⟨pt.val - 43, by omega⟩ ((pmGet s ((qBase s q b + pos + 8) / 8)).data.toNat / 16 % 4)
  else false
/-- The request a free point grants now (R144). -/
def decide1 (s : State) (pt : Fin 49) : Option ReqS :=
  let ws := (waitsAt s pt).filter fun w => !(w.req.val = 43 && headStopped s pt)
  if (Tbl.get s.arb.points pt).ctr = ageN s - 1 then bestBy (olderThan s) ws else bestBy (priBefore s) ws

/-- Forecast of a waiting request (R148): AHEAD and EST, given the cycles the current grant still holds. -/
def forecast (s : State) (w : ReqS) (hold : Nat) : Nat × Nat :=
  let ws := waitsAt s w.point
  let before := ws.filter fun v => v.req ≠ w.req && priBefore s v w
  let p := before.length
  let g := ageN s - 1 - (Tbl.get s.arb.points w.point).ctr
  let oldest := bestBy (olderThan s) ws
  let isOldest := oldest.any fun o => o.req = w.req
  let ahead := if isOldest then min p g
    else if g < p ∧ !(before.any fun v => oldest.any fun o => o.req = v.req) then p + 1
    else if g < p then p else p
  let a := min 15 ahead
  (a, min 4095 (hold + a))

/-- The packet an egress grant starts: the header that waited, or the head item of the port's queue. -/
def startTx (x : Fin 33) (r : Fin 48) (s : State) : State :=
  if r.val < 33 then
    match s.xb.hdrs.find? fun h => h.dst = x && h.src.val = r.val with
    | some h =>
      { s with xb := { s.xb with tx := Tbl.put s.xb.tx x (.bytes h.bytes),
                                 hdrs := s.xb.hdrs.erase h } }
    | none => s
  else if r.val = 43 then { s with xb := { s.xb with tx := Tbl.put s.xb.tx x .item } }
  else s

/-- A crosspoint egress port skips committed ABORT items without transmitting them (R126), and finds a bad header
(R127), before it starts; at most `n` words are passed. -/
def skipAborted (q : Fin 64) : Nat → State → State
  | 0, s => s
  | n + 1, s =>
    let s1 := swapIfDue q s
    match headAt s1 q with
    | some (h, inProg) => if !inProg && (h.bad || hType h.data = 2) then skipAborted q n (qDequeue q 0 s1).2 else s1
    | none => s1

/-- POINT_DECISION: `dc` core cycles have passed and the requests in `raised` have been raised since the last one;
a bank point's hold has ended; an egress point decides only when it is free. -/
def pointDecision (pt : Fin 49) (raised : List (Fin 48)) (dc : Nat) (s : State) : State :=
  let s0 := raised.foldl (fun t r => raiseReq pt r t) { s with arb := { s.arb with cyc := s.arb.cyc + dc } }
  let p := Tbl.get s0.arb.points pt
  let bank := decide (pt.val < 16)
  if !bank && (p.holder.isSome || s0.xb.st != .run) then s0
  else if bank && !bankOn s0 pt.val then
    { s0 with arb := { s0.arb with waits := s0.arb.waits.filter fun w => w.point ≠ pt } }
  else match decide1 s0 pt with
    | none => { s0 with arb := { s0.arb with points := Tbl.put s0.arb.points pt { p with holder := none } } }
    | some w =>
      let ctr := if p.ctr + 1 ≥ ageN s0 then 0 else p.ctr + 1
      let wait := min 0xFFFF (s0.arb.cyc - w.raised)
      let s1 := { s0 with arb := { s0.arb with
        waits := s0.arb.waits.filter fun v => !(v.point = pt && v.req = w.req)
        points := Tbl.put s0.arb.points pt { p with ctr := ctr, holder := some w.req, maxWait := max p.maxWait wait } } }
      let s2 := if h : 33 ≤ w.req.val ∧ w.req.val ≤ 40 then wakeGated ⟨w.req.val - 33, by omega⟩ s1 else s1
      if h : 16 ≤ pt.val then
        let x : Fin 33 := ⟨pt.val - 16, by omega⟩
        let q : Fin 64 := ⟨x.val, by omega⟩
        if w.req.val = 43 then
          let s3 := skipAborted q 64 s2
          if (headAt s3 q).isSome then startTx x w.req s3
          else { s3 with arb := { s3.arb with points := Tbl.upd s3.arb.points pt fun p => { p with holder := none } } }
        else startTx x w.req s2
      else s2

/-- PACKET_TRANSMITTED (R98, R145): the egress link layer has accepted the last beat. The item is consumed; a
poisoned or aborted one was closed with an inverted CRC. -/
def packetTransmitted (x : Fin 33) (s : State) : State :=
  let q : Fin 64 := ⟨x.val, by omega⟩
  let free (t : State) : State :=
    { t with xb := { t.xb with tx := Tbl.put t.xb.tx x .idle }
             arb := { t.arb with points := Tbl.upd t.arb.points (egressPoint x) fun p => { p with holder := none } } }
  let leave (b : List Byte) (bad : Bool) (t : State) : State :=
    if h : 27 ≤ x.val ∧ x.val ≤ 30 then
      (if bad then t.emit [.packet x b true] else t.emit [.frame ⟨x.val - 27, by omega⟩ b])
    else t.emit [.packet x b bad]
  match Tbl.get s.xb.tx x with
  | .idle => s
  | .bytes b => free (leave b false s)
  | .item =>
    match headAt s q with
    | some (_, true) => s
    | _ =>
      let (d, s1) := qDequeue q 65528 s
      if d.status = qEMPTY || d.status = qDISABLED then free s1
      else
        let bad := d.poison || d.status = qABORTED
        let s2 := free (leave d.data bad s1)
        raiseEgress x (if bad && wirePort x then stompCount x (if d.status = qABORTED then 1 else 0) s2 else s2)

/-- ARB_WAIT_WARN (R153): the wait of a request has reached WARN. -/
def arbWaitWarn (pt : Fin 49) (r : Fin 48) (s : State) : State :=
  if fld (regv s 0x20004) 31 16 = 0 then s
  else if s.arb.waits.any fun w => w.point = pt && w.req = r && !w.warned then
    countEv 45 { s with arb := { s.arb with
      waits := s.arb.waits.map fun w => if w.point = pt && w.req = r then { w with warned := true } else w
      points := Tbl.upd s.arb.points pt fun p => { p with warnCnt := sat16 p.warnCnt } } }
  else s

/-- MAXWAIT_RESET. -/
def maxWaitReset (pt : Fin 49) (s : State) : State :=
  { s with arb := { s.arb with points := Tbl.upd s.arb.points pt fun p => { p with maxWait := 0 } } }

/-- An apply of AGE_N sets every grant counter to 0 (R146). -/
def ageCountersReset (s : State) : State :=
  eachFin 49 (fun pt t => { t with arb := { t.arb with points := Tbl.upd t.arb.points pt fun p => { p with ctr := 0 } } }) s

/-! ## Lockstep (R100 to R103) -/

/-- LS_LIMIT, 0 acts as 1. -/
def lsLimit (s : State) : Nat := max 1 (fld (regv s 0x40008) 13 10)

/-- R101: outcomes of the halt. -/
def lockstepHalt (s : State) : State :=
  let s1 := eachFin 33 (fun x t => stompTx x 1 t) s
  let s2 := { s1 with xb := { s1.xb with hdrs := [] }
                      arb := { s1.arb with
                        waits := s1.arb.waits.filter fun w => w.point.val < 16 && 33 ≤ w.req.val } }
  eachFin 64 (fun q t => match (queue t q).cur with
    | some c => if c.prod ≤ 32 || (48 ≤ c.prod && c.prod ≤ 63) then itemAbort q t else t
    | none => t) s2

/-- Entry to FAULT (R102): every upstream presents no connect and counts as lost. -/
def enterFault (g : Nat) (injected : Bool) (s : State) : State :=
  let s1 := journalForward 2 objXbar g 0 0 injected { s with xb := { s.xb with st := .fault } }
  eachFin 3 (fun u t => upLost u false (updTree t u fun x => { x with presents := false })) s1

/-- LOCKSTEP_MISMATCH in comparison group `g`. -/
def lockstepMismatch (g : Fin 35) (injected : Bool) (s : State) : State :=
  if s.xb.st == .run then
    let recent := if injected then s.xb.recent else s.xb.recent ++ [s.time.tb]
    let s1 := countEv 20 { s with xb := { s.xb with
      st := .halt, group := g.val, recent := recent, total := sat16 s.xb.total,
      lsTime := BitVec.ofNat 32 s.time.tb.toNat, haltTb := s.time.tb, injected := injected } }
    let s2 := lifeInc 5 (lockstepHalt s1)
    if lsLimit s ≤ recent.length then enterFault g.val injected s2 else s2
  else s

/-- HALT_DRAIN_COMPLETE: both copies reset and the comparator test pattern runs; a mismatch of the pattern counts
EV20 and returns to HALT. -/
def haltDrain (patternOk : Bool) (s : State) : State :=
  if s.xb.st == .halt then
    if patternOk then { s with xb := { s.xb with st := .rebuild } } else countEv 20 s
  else s

/-- REBUILD_COMPLETE. -/
def rebuildComplete (s : State) : State :=
  if s.xb.st == .rebuild then
    let s1 := { s with xb := { s.xb with st := .run } }
    let s2 := eachFin 33 (fun x t => raiseEgress x t) s1
    journalForward 1 objXbar s.xb.group (s.time.tb.toNat - s.xb.haltTb.toNat) 0 s.xb.injected s2
  else s

/-- LOCKSTEP_RECENT_EXPIRY. -/
def lockstepRecentExpiry (s : State) : State := { s with xb := { s.xb with recent := s.xb.recent.drop 1 } }

end Sys2Proof.Machine
end

