-- ==== Sys2Proof/Machine/RegRead.lean ====
section
/-!
DEFINITION. Reading a register: the status words packed from the state behind them, and the stored value of every
other register (R304, R308, R315).
-/

namespace Sys2Proof.Machine

open Sys2Proof

/-! ## Indices -/

/-- Index of an address in a family of `count` registers. -/
def famIndex (base stride count a : Nat) : Option Nat :=
  if base ≤ a ∧ (a - base) % stride = 0 ∧ (a - base) / stride < count then some ((a - base) / stride) else none
/-- A number as an index below `n`. -/
def finOf (n k : Nat) : Option (Fin n) := if h : k < n then some ⟨k, h⟩ else none
/-- Index in a family, as a `Fin`. -/
def famFin (base stride count a : Nat) : Option (Fin count) :=
  match famIndex base stride count a with
  | some k => finOf count k
  | none => none
/-- A value where the index exists. -/
def atFam (base stride count a : Nat) (f : Fin count → Word) : Option Word := (famFin base stride count a).map f
/-- The first value of a list of readings. -/
def firstOf (l : List (Option Word)) : Option Word := l.findSome? id
/-- Low and high halves of a 64-bit value. -/
def lo32 (d : DWord) : Word := BitVec.ofNat 32 d.toNat
def hi32 (d : DWord) : Word := BitVec.ofNat 32 (d.toNat / 2 ^ 32)

/-! ## SYS -/

/-- Remaining milliseconds until a TB value. -/
def remainMs (s : State) (due : DWord) : Nat := (due.toNat - s.time.tb.toNat + 999999) / 1000000
/-- SYS_LEASE_TIME. -/
def leaseRemain (s : State) : Nat := match s.lease.owner with | some _ => min 10000 (remainMs s s.lease.due) | none => 0
/-- The pending shadow of a register. -/
def shadowAt (s : State) (a : Nat) : Option Shadow := s.regs.shadows.find? fun h => h.addr = a
/-- Shadow value of a register: its pending shadow, else its active value. -/
def shadowValue (s : State) (a : Nat) : Word := match shadowAt s a with | some h => h.val | none => regv s a
/-- Apply group of a register by its selector (R316). -/
def groupNo (s : State) (a : Nat) : Nat := match regRow a with | some r => if r.rs = 0 then 0 else fld (regv s r.sel) 3 0 | none => 0
/-- A register has shadowed fields. -/
def hasShadow (a : Nat) : Bool := match regRow a with | some r => r.rs ≠ 0 | none => false
/-- Code of an engine state. -/
def EngSt.code : EngSt → Nat
  | .reset => 0 | .check => 1 | .init => 2 | .idle => 3 | .tick => 4 | .handler => 5 | .halted => 6
/-- The clock of an engine is gated: idle, WAITG or TWAIT. -/
def EngS.gated (e : EngS) : Bool := e.st = .idle || (match e.sleep with | .awake => false | _ => true)
/-- SYS_PEn_STAT. -/
def peStat (e : EngS) : Word :=
  pk [(e.st.code, 0, 3), (b2n e.gated, 3, 1), (b2n e.late, 4, 1), (e.ovrSeq, 5, 2), (b2n e.busErr, 7, 1), (e.lastCause, 8, 4),
      (b2n e.conflict, 12, 1), (e.tickNo.toNat, 16, 16)]
/-- GPIOs a pin feature takes: feature number, alternate (GPIO secondary functions). -/
def pinsOf (k : Nat) (alt : Bool) : Nat :=
  match k with
  | 0 => if alt then 2 ^ 8 else 2 ^ 0
  | 1 => if alt then 2 ^ 9 + 2 ^ 10 else 2 ^ 1 + 2 ^ 2
  | 2 => if alt then 2 ^ 11 else 2 ^ 2
  | 3 => if alt then 2 ^ 11 else 2 ^ 3
  | _ => if alt then 2 ^ 8 else 2 ^ 3
/-- A feature holds its pins: its EN field is 1. -/
def pinHeld (s : State) (k : Nat) : Bool := bit (regv s 0x400) (2 * k)
/-- SYS_PINCONF.OWNED. -/
def pinsOwned (s : State) : Nat :=
  (List.range 5).foldl (fun n k => if pinHeld s k then n ||| pinsOf k (bit (regv s 0x400) (2 * k + 1)) else n) 0
/-- EV_STATUS as 64 bits. -/
def evStatusAll (s : State) : Nat := (allFin 64).foldl (fun n k => n + (if evStatus s k then 2 ^ k.val else 0)) 0
/-- INT_N (m = 0) or INT2_N (m = 1) is asserted (R328). -/
def intLine (s : State) (m : Nat) : Bool :=
  (allFin 64).any (fun n => evStatus s n && routed s m n.val) && (m = 0 || pinHeld s 4)
/-- Status registers of SYS. -/
def readSys (s : State) (a : Nat) : Option Word :=
  if a < 0x110 then
    match a with
    | 0x00 => some (pk [(0x2404, 0, 16), (Config.stepping.toNat, 16, 4)])
    | 0x10 => some 0
    | 0x14 => some (pk [(if s.regs.locked then 8 else s.regs.fails, 0, 4), (b2n s.regs.locked, 4, 1), (s.regs.unlock.toNat, 16, 16)])
    | 0x20 => some 0
    | 0x24 => some (toWord s.regs.armed.toNat)
    | 0x30 => some (pk [(b2n s.regs.posted.isSome, 0, 1), (b2n s.regs.locked, 1, 1), (b2n s.regs.testmod, 2, 1)])
    | 0x40 => some (pk [((match s.lease.owner with | some m => m.val | none => 0xFF), 8, 8), (s.lease.node.toNat, 16, 12)])
    | 0x44 => some (toWord (leaseRemain s))
    | 0x50 => some s.regs.shaddr
    | 0x54 => some (shadowValue s s.regs.shaddr.toNat)
    | 0x58 =>
      let b := s.regs.shaddr.toNat
      some (pk [(b2n (hasShadow b), 0, 1), (b2n (shadowAt s b).isSome, 1, 1), (groupNo s b, 2, 4),
        ((match shadowAt s b with | some h => h.writer.val | none => 0xFF), 8, 8)])
    | 0x60 => some 0
    | 0x64 => some (pk [(s.start.kind, 0, 3), (s.start.src, 3, 5), (b2n s.start.image, 8, 1), (b2n s.start.fallback, 9, 1),
        (b2n s.start.unclean, 10, 1), (b2n s.start.defaults, 11, 1), (s.start.phase, 16, 4)])
    | 0x104 => some s.regs.crcCur
    | 0x108 => some (toWord (b2n s.regs.adopt.isSome))
    | 0x10C => some (pk [(s.regs.miss, 0, 8), (b2n s.regs.matched, 8, 1), (b2n s.regs.stale, 9, 1), (s.regs.passes, 16, 16)])
    | _ => none
  else if a < 0x800 then
    (if a = 0x408 then some (pk [(s.pin.conflict.toNat, 0, 5), (pinsOwned s, 16, 16)])
     else if a = 0x418 then some (toWord s.pin.gpioIn.toNat)
     else if a = 0x41C then some (toWord s.pin.strap.toNat)
     else none)
  else if a < 0x900 then
    (match finOf 8 ((a - 0x800) / 0x20) with
     | none => none
     | some n =>
       let e := eng s n
       match a % 0x20 with
       | 0x08 => some (if domainOn s ⟨n.val, by omega⟩ then peStat e else setFld (peStat e) 2 0 0)
       | 0x0C => some (pk [(e.cntOvr, 0, 16), (e.cntSkip, 16, 16)])
       | 0x10 => some (pk [(e.resets, 0, 8), (e.ecc1, 8, 16), (e.ecc2, 24, 8)])
       | 0x14 => some e.isig
       | 0x18 => some e.fault
       | 0x1C => some e.fpc
       | _ => none)
  else if a < 0x1300 then
    firstOf [atFam 0x1000 4 64 a fun n => toWord (Tbl.get s.ev.cnt n).toNat,
      atFam 0x1100 4 64 a fun n => toWord (Tbl.get s.ev.seen n).toNat,
      if a = 0x1200 then some (toWord (evStatusAll s)) else if a = 0x1204 then some (toWord (evStatusAll s / 2 ^ 32))
      else if a = 0x1208 then some (lo32 s.ev.ovf) else if a = 0x120C then some (hi32 s.ev.ovf) else none]
  else none

/-! ## AO and TIME -/

/-- Code of a domain state. -/
def DomSt.code : DomSt → Nat
  | .on => 0 | .entering => 1 | .retention => 2 | .off => 3 | .exiting => 4
/-- AO_AVS.VTARGET: the fuse, within its range. -/
def vtarget : Nat := min 840 (max 760 Config.vtargetFuse.toNat)
/-- Status registers of AO. -/
def readAo (s : State) (a : Nat) : Option Word :=
  let o := s.ao
  if 0x10100 ≤ a then
    firstOf [atFam 0x10100 0x10 31 a fun n =>
        let d := Tbl.get o.dom n
        pk [(d.st.code, 0, 3), (b2n d.rlost, 3, 1), (b2n d.wlat, 4, 1), (d.entries, 16, 16)],
      atFam 0x10108 0x10 31 a fun n => (Tbl.get o.dom n).sig.getD 0]
  else match a - 0x10000 with
    | 0x04 => some (pk [(o.resCode, 0, 4), (o.resDom, 4, 5)])
    | 0x10 => some (pk [(b2n o.onPll, 0, 1), (b2n o.pllEn, 1, 1), (b2n o.pllLock, 2, 1), (o.ftrim.toNat, 16, 16)])
    | 0x14 => some (toWord vtarget)
    | 0x20 => some (toWord o.vout)
    | 0x24 => some (pk [(b2n o.pmBusy, 0, 1), (b2n o.pmAck, 1, 1), (b2n o.pmTimeout, 2, 1), (b2n o.pg, 3, 1), (o.vnow, 4, 10), (o.statusw.toNat, 16, 16)])
    | 0x30 => some (toWord o.wakeLast.toNat)
    | 0x50 => some (toWord o.calSub)
    | 0x54 => some o.calSec
    | 0x58 => some (pk [(o.calQual, 0, 2), (b2n o.onVbat, 2, 1), (b2n o.vbatLow, 3, 1), (min 0x3FFF (o.ageSec / 3600), 16, 14)])
    | 0x5C => some o.alarm
    | 0x60 => some (lo32 o.tbCopy)
    | 0x64 => some (hi32 o.tbCopy)
    | 0x68 => some (toWord o.sleep)
    | 0x6C => some (toWord (o.sleep / 2 ^ 32 % 2 ^ 16))
    | _ => none
/-- Remaining time of a timer in µs. -/
def timerRemain (s : State) (t : TimerS) : Nat := if t.run then (t.due.toNat - s.time.tb.toNat + 999) / 1000 else 0
/-- Status registers of TIME. -/
def readTime (s : State) (a : Nat) : Option Word :=
  match a - 0xC0000 with
  | 0x00 => some (lo32 s.time.tb)
  | 0x04 => some (hi32 s.time.tb)
  | 0x08 => some s.time.tick
  | 0x0C => some (pk [(b2n s.time.tbEst, 0, 1), (if s.time.tbEst then s.time.tbUnc else 0, 8, 16)])
  | 0x10 => some s.time.inc
  | 0x18 => some (lo32 s.time.calTb)
  | 0x1C => some (hi32 s.time.calTb)
  | _ =>
    firstOf [atFam 0xC0200 0x10 16 a fun n => regv s a ||| pk [(b2n (Tbl.get s.eng.tm n).conflict, 4, 1)],
      atFam 0xC0204 0x10 16 a fun n =>
        let t := Tbl.get s.eng.tm n
        pk [(timerRemain s t, 0, 24), (b2n t.run, 24, 1), (b2n t.periodic, 25, 1), (b2n t.pend, 26, 1)]]

/-! ## ARB, QM, XBAR -/

/-- The request of an engine that waits at a point. -/
def peRequest (s : State) (n : Fin 8) : Option ReqS := s.arb.waits.find? fun w => w.req.val = 33 + n.val
/-- Cycles the current grant of a point still holds; the model keeps no bank or link timing, so of a held point a free
value (log entry 3). -/
def holdLeft (s : State) (pt : Fin 49) : Nat :=
  match (Tbl.get s.arb.points pt).holder with
  | some _ => (Config.word s.free).toNat % 4096
  | none => 0
/-- ARB_PEn_FC (R148). -/
def peForecast (s : State) (n : Fin 8) : Word :=
  match peRequest s n with
  | some w =>
    let f := forecast s w (holdLeft s w.point)
    pk [(f.1, 0, 4), (f.2, 4, 12), (w.point.val, 16, 6), (1, 22, 1)]
  | none => pk [(0x3F, 16, 6)]
/-- Status registers of ARB. -/
def readArb (s : State) (a : Nat) : Option Word :=
  let w (p : PointS) : Word := pk [(p.maxWait, 0, 16), (p.warnCnt, 16, 16)]
  firstOf [atFam 0x20200 4 16 a fun k => w (Tbl.get s.arb.points ⟨k.val, by omega⟩),
    atFam 0x20300 4 33 a fun k => w (Tbl.get s.arb.points ⟨16 + k.val, by omega⟩),
    atFam 0x20400 4 8 a fun n => peForecast s n]
/-- QM_Qn_STAT. -/
def qStat (s : State) (q : Fin 64) : Word :=
  let x := queue s q
  pk [(b2n x.wm, 0, 1), (b2n x.mark.isSome, 1, 1), (b2n x.markLost, 2, 1), (b2n x.held.isSome, 3, 1),
    ((match x.prod with | some b => b.val | none => 0), 4, 1),
    (b2n (match x.prod with | some b => (Tbl.get x.banks b).closed | none => false), 5, 1), (b2n (qEn s q && qCredit s q), 6, 1),
    (b2n x.cur.isSome, 7, 1), (b2n x.mid.isSome, 8, 1)]
/-- Status registers of QM. -/
def readQm (s : State) (a : Nat) : Option Word :=
  if a < 0x31000 then
    (match finOf 64 ((a - 0x30000) / 0x40) with
     | none => none
     | some q =>
       let x := queue s q
       match a % 0x40 with
       | 0x00 => some (regv s a ||| pk [(b2n (mboxConflict s q), 14, 1)])
       | 0x18 => some (pk [(x.rwstat, 4, 4)])
       | 0x1C => some (qStat s q)
       | 0x20 => some (toWord (if qEn s q then qLevel s q else 0))
       | 0x24 => some (toWord x.wmCross)
       | 0x28 => some (toWord x.drops)
       | 0x2C => some (pk [(x.poisonRd, 0, 16), (x.hdrErr, 16, 8), (x.aborts, 24, 8)])
       | _ => none)
  else if a = 0x31004 then
    some (pk [(b2n s.qm.carveOk, 0, 1), (s.qm.carveErr, 1, 3), (s.qm.carveRow, 4, 6), (b2n s.qm.carveEpb, 10, 1)])
  else if a = 0x31240 then some (toWord (s.qm.parAddr / 8 * 8))
  else atFam 0x31200 4 16 a fun k => pk [(Tbl.get s.qm.parErr k, 0, 16), (b2n (s.qm.rlost.getLsbD k.val), 16, 1)]
/-- Code of the lockstep state. -/
def XbSt.code : XbSt → Nat
  | .run => 0 | .halt => 1 | .rebuild => 2 | .fault => 3
/-- Status registers of XBAR. -/
def readXbar (s : State) (a : Nat) : Option Word :=
  let x := s.xb
  if a = 0x40000 then some (pk [(x.st.code, 0, 2), (b2n s.usb.topoValid, 2, 1)])
  else if a = 0x40010 then some (pk [(x.group, 0, 6), (min 15 x.recent.length, 6, 4), (x.total, 16, 16)])
  else if a = 0x40014 then some x.lsTime
  else if a = 0x40018 then some (toWord (fld (regv s a) 5 0))
  else firstOf [atFam 0x40100 0x10 33 a fun n => let c := Tbl.get x.cnt n; pk [(c.unroute, 0, 16), (c.stomp, 16, 16)],
    atFam 0x40104 0x10 33 a fun n => let c := Tbl.get x.cnt n; pk [(c.crcErr, 0, 16), (c.stall, 16, 16)],
    atFam 0x40400 4 40 a fun e => rmapWord s e]

/-! ## USBP -/

/-- Code of a port state. -/
def PortSt.code : PortSt → Nat
  | .disconnected => 0 | .seating => 1 | .powered => 2 | .disabled => 3 | .reset => 4 | .enabled => 5 | .suspended => 6 | .error => 7
/-- Code of a failover state. -/
def FoSt.code : FoSt → Nat
  | .empty => 0 | .normal => 1 | .watch => 2 | .pending => 3 | .active => 4
/-- USBP_Pn_STATE of a slot. -/
def slotState (s : State) (p : Fin 24) : Word :=
  let q := port s (slotEntry p)
  let pl := place s (slotEntry p)
  pk [(q.st.code, 0, 4), (q.speed.code, 4, 3), (q.link.code, 8, 4), ((match pl with | some (lh, _) => lh.val | none => 15), 12, 4),
    ((match pl with | some (_, n) => n | none => 0), 16, 4), (q.cutrsn, 20, 4), (b2n q.ssdis, 24, 1)]
/-- USBP_Pn_STATE of an upstream port. The rate of its SuperSpeed link is known to no command: a free value (log
entry 3). -/
def upState (s : State) (u : Fin 3) : Word :=
  let h := hub s (tier1 u)
  let speed := if h.cfgSS then 4 + (Config.word s.free).toNat % 2 else if h.cfgHS then (if (tree s u).hiSpeed then 3 else 2) else 0
  pk [(if h.cfgSS || h.cfgHS then 5 else 0, 0, 4), (speed, 4, 3), ((tree s u).link.code, 8, 4), (15, 12, 4)]
/-- USBP_Pn_XST. -/
def slotXst (s : State) (p : Fin 24) : Word :=
  let q := port s (slotEntry p)
  pk [(q.babbleCnt, 0, 8), (q.ovrCnt, 8, 8), (min 15 q.recent.length, 16, 4), (b2n q.babbler, 20, 1), (b2n q.held, 21, 1), (b2n q.bridge, 22, 1)]
/-- USBP_FO_STAT. -/
def foStat (s : State) : Word :=
  pk [((fo s 0).st.code, 0, 3), ((fo s 1).st.code, 3, 3), (b2n (tree s 0).lost, 6, 1), (b2n (tree s 1).lost, 7, 1), (s.usb.foRefuse, 8, 4),
    (s.usb.foCnt, 16, 16)]
/-- USBP_TOPO_STAT. -/
def topoStat (s : State) : Word :=
  pk [(b2n s.usb.topoOk, 0, 1), (s.usb.topoErr, 1, 3), (s.usb.topoEnt, 4, 6), (tiers s 0, 10, 2), (tiers s 1, 12, 2), (tiers s 2, 14, 2)]
/-- USBP_LHn_STAT. -/
def lhStat (s : State) (lh : Fin 6) : Word :=
  let h := hub s lh
  let on := hubPresent s lh
  pk [(b2n on, 0, 1), (b2n h.cfgSS, 1, 1), (b2n h.cfgHS, 2, 1), (b2n (on && h.standby), 3, 1), (if on then hubTier lh else 0, 4, 2),
    (if on then nSS s lh else 0, 6, 4), (nHS s lh, 10, 5), ((match h.depth with | some d => d.val | none => 7), 15, 3),
    (if on then (hubUp lh).val else 0, 18, 2)]
/-- Status registers of USBP. -/
def readUsbp (s : State) (a : Nat) : Option Word :=
  if a = 0x56840 then some (pk [(b2n s.usb.ccAttached, 0, 1), (b2n s.usb.ccOrient, 1, 1), (s.usb.ccRp, 2, 2)])
  else if a = 0x570A4 then some (topoStat s)
  else if a = 0x57208 then some (foStat s)
  else firstOf [atFam 0x50000 0x400 27 a fun p =>
      if h : p.val < 24 then slotState s ⟨p.val, h⟩ else upState s ⟨p.val - 24, by omega⟩,
    atFam 0x50020 0x400 24 a fun p => slotXst s p,
    atFam 0x57100 0x10 6 a fun lh => lhStat s lh]

/-! ## SPW -/

/-- A signed value as an 11-bit field. -/
def int11 (i : Int) : Nat := (BitVec.ofInt 11 i).toNat
/-- SPW_Sn_STAT. -/
def spwStat (s : State) (p : Fin 24) : Word :=
  let x := slot s p
  pk [(x.st.code, 0, 4), (x.reason, 4, 4), (x.ssub, 8, 2), (waitField s p, 10, 3), (b2n (!slotEn s p), 13, 1), (b2n x.forceHost, 14, 1),
    (b2n x.forceFw, 15, 1), (b2n x.pinA, 16, 1), (b2n x.pinB, 17, 1), (b2n x.skew, 18, 1), (b2n x.locked, 19, 1),
    (b2n (s.pow.warn && x.st.gateOn), 20, 1), (b2n x.st.gateOn, 21, 1), (x.retries, 22, 4)]
/-- SPW_Gg_STAT. -/
def grpStat (s : State) (g : Fin 4) : Word :=
  let x := group s g
  pk [(b2n x.closed, 0, 1), (b2n x.gfault, 1, 1), (b2n x.isol, 2, 1), (x.islot, 3, 3), (int11 x.tsense, 8, 11)]
/-- Current of a group, mA: its slots' output currents (log entry 29). -/
def groupCurrent (s : State) (g : Fin 4) : Nat :=
  (allFin 24).foldl (fun n p => if groupOf p = g then n + (slot s p).iout else n) 0
/-- SPW_Gg_MEAS. -/
def grpMeas (s : State) (g : Fin 4) : Word := pk [((group s g).vin, 0, 13), (min 8191 (groupCurrent s g / 2), 16, 13)]
/-- SPW_VIN_STAT. -/
def vinStat (s : State) : Word :=
  let w := s.pow
  pk [(vinMin s, 0, 13), (b2n w.warn, 16, 1), (b2n w.level, 17, 1), (b2n w.slope, 18, 1), (b2n w.spread, 19, 1), (b2n (vinUnder s), 20, 1), (w.warnCnt, 24, 8)]
/-- SPW_BUDGET. -/
def budgetWord (s : State) : Word := pk [(budget s, 0, 10), (reserved s, 16, 10)]
/-- Status registers of SPW. -/
def readSpw (s : State) (a : Nat) : Option Word :=
  if a < 0x81800 then
    (match finOf 24 ((a - 0x80000) / 0x100) with
     | none => none
     | some p =>
       let x := slot s p
       match a % 0x100 with
       | 0x20 => some (spwStat s p)
       | 0x24 => some (pk [(x.iout, 0, 13), (x.vout, 13, 13)])
       | 0x28 => some (pk [(int11 x.tmodel, 0, 11), (int11 x.tpeak, 16, 11)])
       | 0x2C => some (pk [(offRemain s p, 0, 16), (x.trips, 16, 8), (x.seatLoss, 24, 8)])
       | _ => none)
  else if a = 0x83804 then some (budgetWord s)
  else if a = 0x8380C then some (vinStat s)
  else if a = 0x83810 then some (pk [(b2n s.pow.cfgOk, 0, 1), (s.pow.cfgErr, 1, 2), (s.pow.cfgSlot, 3, 5)])
  else firstOf [atFam 0x83008 0x40 4 a fun g => grpStat s g, atFam 0x8300C 0x40 4 a fun g => grpMeas s g]

/-! ## FAB and XPT -/

/-- Code of a fabric port state. -/
def FabSt.code : FabSt → Nat
  | .off => 0 | .down => 1 | .train => 2 | .probe => 3 | .up => 4 | .fault => 5
/-- Code of the time state. -/
def TimeSt.code : TimeSt → Nat
  | .free => 0 | .acquire => 1 | .locked => 2 | .holdover => 3 | .master => 4
/-- FAB_Fn_STAT. -/
def fabStat (p : FPortS) : Word :=
  pk [(p.st.code, 0, 3), (p.reason, 3, 3), (b2n (p.rfRun ≠ 0), 6, 1), (b2n p.nbrFwok, 7, 1), (b2n p.nbrCf, 8, 1), (p.stopRx.toNat, 9, 4),
    (p.nbrAddr.toNat, 16, 12), (p.nbrPort.val, 28, 2)]
/-- A delay as a 16-bit field, within its range. -/
def delayField (d : Int) : Nat := if d < 0 then 0 else min 0xFFFF d.toNat
/-- FAB_Fn_DELAY. -/
def fabDelay (p : FPortS) : Word := pk [(delayField (delayMean p), 0, 16), (delayField (p.delays.getLast?.getD 0), 16, 16)]
/-- FAB_TIME_STAT. -/
def fabTimeStat (s : State) : Word :=
  pk [(s.fab.tst.code, 0, 3), ((match s.fab.tup with | some f => f.val | none => 7), 3, 3), (s.fab.hops, 6, 6), (b2n s.fab.trefValid, 12, 1),
    (s.fab.masterAddr.toNat, 16, 12)]
/-- FAB_NODE. -/
def fabNode (s : State) : Word :=
  pk [(s.fab.addr.toNat, 0, 12), (s.fab.asrc, 12, 2), (b2n (steward s = some Config.uniqueId), 14, 1), (s.fab.db.length, 16, 16)]
/-- Status registers of FAB. -/
def readFab (s : State) (a : Nat) : Option Word :=
  if 0x98000 ≤ a then (famIndex 0x98000 4 4096 a).map fun m => routeEntry s true m
  else if 0x94000 ≤ a then (famIndex 0x94000 4 4096 a).map fun m => routeEntry s false m
  else if 0x90100 ≤ a then
    (match finOf 4 ((a - 0x90100) / 0x40) with
     | none => none
     | some f =>
       let p := fport s f
       match (a - 0x90100) % 0x40 with
       | 0x04 => some (fabStat p)
       | 0x08 => some (lo32 p.nbrUid)
       | 0x0C => some (hi32 p.nbrUid)
       | 0x10 => some (fabDelay p)
       | 0x18 => some (pk [(p.blkErr, 0, 8), (p.hcrcErr, 8, 8), (p.badHdr, 16, 8), (p.unbound, 24, 8)])
       | 0x1C => some (pk [(p.ttlDrop, 0, 8), (p.noRoute, 8, 8), (p.altFwd, 16, 8), (p.downs, 24, 8)])
       | _ => none)
  else match a - 0x90000 with
    | 0x04 => some (fabNode s)
    | 0x08 => some (lo32 Config.uniqueId)
    | 0x0C => some (hi32 Config.uniqueId)
    | 0x20 => some (pk [(b2n s.fab.rtActive, 1, 1)])
    | 0x24 => some (toWord (linkMask s))
    | 0x30 => some (fabTimeStat s)
    | 0x34 => some (BitVec.ofInt 32 s.fab.ofs)
    | _ => none
/-- Code of a channel state. -/
def ChanSt.code : ChanSt → Nat
  | .closed => 0 | .open_ => 1 | .replay => 2 | .failed => 3
/-- XPT_Cn_STAT. -/
def chanStat (s : State) (n : Fin 16) : Word :=
  let k : Fin 48 := ⟨n.val, by omega⟩
  let c := chan s k
  pk [(c.st.code, 0, 2), (c.seq.toNat, 4, 8), (c.markSeq.toNat, 12, 8), (if receives s k then 0 else c.unack, 20, 6), (c.pwin, 26, 6)]
/-- XPT_In_STAT. -/
def relayStat (s : State) (n : Fin 32) : Word :=
  let c := chan s ⟨16 + n.val, by omega⟩
  pk [(c.st.code, 0, 2), (c.reports.length, 2, 3), (c.seq.toNat, 8, 8), (c.replays, 24, 8)]
/-- Status registers of XPT. -/
def readXpt (s : State) (a : Nat) : Option Word :=
  if a = 0xA0008 then
    some (pk [(1024 - relayUsed s, 0, 11), ((allFin 16).foldl (fun n k => n + (if bindEn s ⟨k.val, by omega⟩ then 2 ^ k.val else 0)) 0, 16, 16)])
  else firstOf [atFam 0xA0108 0x20 16 a fun n => chanStat s n,
    atFam 0xA010C 0x20 16 a fun n =>
      let c := chan s ⟨n.val, by omega⟩
      pk [(c.replays, 0, 8), (c.dup, 8, 8), (c.ooo, 16, 8), (c.discard, 24, 8)],
    atFam 0xA0408 0x10 32 a fun n => relayStat s n]

/-! ## CAN, SNAP, DBG -/

/-- Code of the NMT state. -/
def Nmt.code : Nmt → Nat
  | .init => 0 | .preOp => 1 | .oper => 2 | .stopped => 3
/-- CAN_CFG.EN. -/
def canEn (s : State) : Bool := bit (regv s 0xB0004) 15
/-- CAN_STBY is asserted: controller disabled, or NMT-stopped with STBYSTOP (R295). -/
def canStby (s : State) : Bool := !canEn s || (s.can.nmt = .stopped && bit (regv s 0xB0004) 14)
/-- CAN_STAT. -/
def canStat (s : State) : Word :=
  pk [(s.can.nmt.code, 0, 2), (s.can.bus, 2, 2), (s.can.tec.toNat, 8, 8), (s.can.rec_.toNat, 16, 8), (b2n (canStby s), 24, 1)]
/-- CAN_CNT. -/
def canCnt (s : State) : Word := pk [(s.can.busOff, 0, 8), (s.can.rxOvr, 8, 8), (s.can.hbLoss, 16, 8), (s.can.aborts, 24, 8)]
/-- Status registers of CAN. -/
def readCan (s : State) (a : Nat) : Option Word :=
  if a = 0xB0008 then some (canStat s) else if a = 0xB000C then some (canCnt s) else none
/-- SNAP_BUF at a byte offset: the buffer RSEL names; a free buffer reads 0. -/
def snapBufWord (s : State) (off : Nat) : Word :=
  match Tbl.get s.snap.buf (if bit (regv s 0xD0000) 10 then 1 else 0) with
  | some b => BitVec.ofNat 32 (ofLe ((b.drop off).take 4))
  | none => 0
/-- Status registers of SNAP. -/
def readSnap (s : State) (a : Nat) : Option Word :=
  let n := s.snap
  if 0xD1000 ≤ a then some (snapBufWord s (a - 0xD1000))
  else if a = 0xD0004 then
    some (pk [(b2n (Tbl.get n.buf 0).isSome, 0, 1), (b2n (Tbl.get n.buf 1).isSome, 1, 1), (n.last.val, 2, 1), (n.lost, 8, 8),
      (((allFin 4).filter fun k => (Tbl.get n.tgt k).armed).length, 16, 3)])
  else firstOf [atFam 0xD0010 0x10 4 a fun k => lo32 (Tbl.get n.tgt k).target,
    atFam 0xD0014 0x10 4 a fun k => hi32 (Tbl.get n.tgt k).target,
    atFam 0xD0018 0x10 4 a fun k => (Tbl.get n.tgt k).id,
    atFam 0xD001C 0x10 4 a fun k => toWord (b2n (Tbl.get n.tgt k).armed)]
/-- Bit map of the halted engines. -/
def haltedMap (s : State) : Nat := (allFin 8).foldl (fun n k => n + (if (eng s k).st = .halted then 2 ^ k.val else 0)) 0
/-- General register `r` of an engine; g0 reads 0 (R155). -/
def greg (s : State) (n : Fin 8) (r : Fin 16) : Word := if r.val = 0 then 0 else Tbl.get (eng s n).regs r
/-- Status registers of DBG. -/
def readDbg (s : State) (a : Nat) : Option Word :=
  if a = 0xE0000 then some (pk [(authNow s, 0, 3), (b2n (authNow s = 2), 3, 1), (haltedMap s, 16, 8)])
  else if a < 0xE0100 then none
  else match finOf 8 ((a - 0xE0100) / 0x40) with
    | none => none
    | some n =>
      match (a - 0xE0100) % 0x40 with
      | 0x00 => some (pk [(b2n (s.dbg.halt.getLsbD n.val), 0, 1), (b2n (s.dbg.phold.getLsbD n.val), 3, 1)])
      | 0x04 => some (eng s n).pc
      | 0x0C => some (greg s n ⟨fld (regv s (0xE0108 + 0x40 * n.val)) 3 0 % 16, Nat.mod_lt _ (by decide)⟩)
      | _ => none

/-! ## Any register -/

/-- The word a status register shows, none where the register is a stored one. -/
def readStatus (s : State) (a : Nat) : Option Word :=
  if a < 0x10000 then readSys s a
  else if a < 0x20000 then readAo s a
  else if a < 0x30000 then readArb s a
  else if a < 0x40000 then readQm s a
  else if a < 0x50000 then readXbar s a
  else if a < 0x80000 then readUsbp s a
  else if a < 0x90000 then readSpw s a
  else if a < 0xA0000 then readFab s a
  else if a < 0xB0000 then readXpt s a
  else if a < 0xC0000 then readCan s a
  else if a < 0xD0000 then readTime s a
  else if a < 0xE0000 then readSnap s a
  else readDbg s a
/-- The value a read of the register at an address returns. -/
def readReg (s : State) (a : Nat) : Word := (readStatus s a).getD (regv s a)

end Sys2Proof.Machine
end

