-- ==== Sys2Proof/Machine/Apply.lean ====
section
/-!
DEFINITION. Apply groups: what an apply of pending shadows does, part by part (R33 to R37, R40, R115, R116, R181, R209,
R316, R317, R329 to R331).
-/

namespace Sys2Proof.Machine

open Sys2Proof

/-- Parts of the shadowed registers: those validated or resolved together, and those taken as written. -/
inductive Part where
  | pins | topo | qm | serve | cfg | timers | spw | plain
deriving DecidableEq, Repr

/-- Part of a register. -/
def partOf (a : Nat) : Part :=
  if a = 0x400 then .pins
  else if 0x57000 ≤ a ∧ a < 0x570A0 then .topo
  else if 0x30000 ≤ a ∧ a < 0x40000 then .qm
  else if 0x920 ≤ a ∧ a < 0x940 then .serve
  else if 0x800 ≤ a ∧ a < 0x900 then .cfg
  else if 0xC0200 ≤ a ∧ a < 0xC0300 then .timers
  else if 0x80000 ≤ a ∧ a < 0x90000 then .spw
  else .plain

/-- Write shadows to their active values. -/
def loadShadows (l : List Shadow) (s : State) : State := l.foldl (fun t h => setReg h.addr h.val t) s
/-- A refused part leaves its shadows pending (R316). -/
def refuseShadows (l : List Shadow) (s : State) : State :=
  { s with regs := { s.regs with shadows := s.regs.shadows ++ l.map fun h => { h with refused := true } } }
/-- SOURCE of a refusal record: the writer of the part's first shadow. -/
def writerOf (l : List Shadow) : Nat := match l with | h :: _ => h.writer.val | [] => srcDevice

/-! ## Timer claims (R329, R331) -/

/-- A pin function claims a timer. -/
def timerTaken (s : State) (n : Fin 16) : Bool := (n.val = 14 && pinHeld s 2) || (n.val = 15 && pinHeld s 3)
/-- Timer claims are resolved. -/
def claimTimers (s : State) : State :=
  eachFin 16 (fun n t =>
    let a := 0xC0200 + 0x10 * n.val
    let v := regv t a
    if !bit v 3 then t
    else
      let lost := timerTaken t n
      let t1 := { t with eng := { t.eng with tm := Tbl.upd t.eng.tm n fun x => { x with conflict := lost } } }
      if lost then countEv 11 (setReg a (setFld v 3 3 0) t1) else t1) s

/-- A timer whose ownership an apply changes stops (R171). -/
def ownersChanged (old s : State) : State :=
  eachFin 16 (fun n t =>
    if fld (regv old (0xC0200 + 0x10 * n.val)) 3 0 = fld (regv t (0xC0200 + 0x10 * n.val)) 3 0 then t
    else { t with eng := { t.eng with tm := Tbl.upd t.eng.tm n fun x => { x with run := false, pend := false } } }) s

/-! ## Pins (R33 to R36) -/

/-- Resolve one feature: `taken` holds the pins of the features above it. -/
def pinStep (x : Nat × State) (k : Fin 5) : Nat × State :=
  let s := x.2
  let v := regv s 0x400
  if !bit v (2 * k.val) then x
  else
    let pins := pinsOf k.val (bit v (2 * k.val + 1))
    let m : BitVec 5 := BitVec.ofNat 5 (2 ^ k.val)
    if pins &&& x.1 = 0 then (x.1 ||| pins, { s with pin := { s.pin with conflict := s.pin.conflict &&& ~~~m } })
    else (x.1, countEv 11 (setReg 0x400 (setFld v (2 * k.val) (2 * k.val) 0) { s with pin := { s.pin with conflict := s.pin.conflict ||| m } }))
/-- Pin conflicts are resolved by precedence. -/
def resolvePins (s : State) : State := ((allFin 5).foldl pinStep (0, s)).2

/-! ## Serve maps (R181) -/

/-- Bits that a lower-numbered engine holds. -/
def lowerPorts (s : State) (n : Fin 8) : Nat := (allFin 8).foldl (fun b k => if k.val < n.val then b ||| (portsReg s k).toNat else b) 0
/-- Serve bits held twice stay with the lower-numbered engine. -/
def resolveServe (s : State) : State :=
  eachFin 8 (fun n t =>
    let v := (portsReg t n).toNat
    let dup := v &&& lowerPorts t n
    let t1 := updEng n (fun e => { e with conflict := decide (dup ≠ 0) }) t
    if dup = 0 then t1 else countEv 11 (setReg (0x920 + 4 * n.val) (toWord (v - dup)) t1)) s

/-! ## The parts -/

/-- Apply the shadows of one part; at a start every part is validated, with or without shadows (R381). -/
def applyPart (start : Bool) (p : Part) (l : List Shadow) (s : State) : State :=
  if l.isEmpty && !start then s
  else
    let t := loadShadows l s
    match p with
    | .pins => claimTimers (resolvePins t)
    | .serve => resolveServe t
    | .timers => claimTimers (ownersChanged s t)
    | .cfg =>
      claimMailboxes (l.foldl (fun t h =>
        match famFin 0x804 0x20 8 h.addr with
        | some n => updEng n (fun e => { e with mboxLost := false }) t
        | none => t) t)
    | .topo =>
      (match topoCheck t with
       | some (err, ent) =>
         let s1 := refuseShadows l { s with usb := { s.usb with topoOk := false, topoErr := err, topoEnt := ent } }
         journalConfig 1 (writerOf l) 0 err 0x50000 s1
       | none => xptFollow (layoutChange s { t with usb := { t.usb with topoOk := true, topoErr := 0, topoEnt := 0 } }))
    | .qm =>
      (match carveCheck s t start with
       | some (code, row, isEpb) =>
         countEv 44 (refuseShadows l { s with qm := { s.qm with carveOk := false, carveErr := code, carveRow := row, carveEpb := isEpb } })
       | none =>
         let s1 := eachFin 64 (fun q u => if qEn u q && !qEn t q then queueFlush q u else u) s
         let s2 := loadShadows l s1
         let s3 := { s2 with qm := { s2.qm with carveOk := true, carveErr := 0, carveRow := 0, carveEpb := false } }
         eachFin 64 (fun q u => if qEn u q && !qEn s q then updQueue q QueueS.restart u else u) s3)
    | .spw =>
      (match spwCheck t with
       | some (code, p) =>
         let s1 := refuseShadows l { s with pow := { s.pow with cfgOk := false, cfgErr := code, cfgSlot := p } }
         journalConfig 1 (writerOf l) (objSlot p) code 0x80000 s1
       | none => spwApplied s { t with pow := { t.pow with cfgOk := true, cfgErr := 0, cfgSlot := 0 } })
    | .plain =>
      let t1 := if start || l.any fun h => h.addr = 0x20004 then ageCountersReset t else t
      if start || l.any fun h => 0x90000 ≤ h.addr && h.addr < 0xA0000 then eachFin 4 fabPortEval t1 else t1

/-- The shadows that an apply of a set of groups takes. -/
def takenBy (s : State) (mask : BitVec 16) : List Shadow := s.regs.shadows.filter fun h => mask.getLsbD (groupNo s h.addr)
/-- Apply groups (R316): every pending shadow of a named group becomes active, each part on its own. -/
def applyGroups (mask : BitVec 16) (s : State) : State :=
  let l := takenBy s mask
  let s0 := { s with regs := { s.regs with shadows := s.regs.shadows.filter fun h => !mask.getLsbD (groupNo s h.addr) } }
  [Part.plain, .pins, .cfg, .serve, .qm, .topo, .spw, .timers].foldl
    (fun t p => applyPart false p (l.filter fun h => partOf h.addr = p) t) s0
/-- The armed groups are applied at T+1 of a tick (R16, R317). -/
def applyArmed (s : State) : State :=
  if s.regs.armed = 0 then s
  else
    let m := s.regs.armed
    applyGroups m { s with regs := { s.regs with armed := 0 } }
/-- SYS_APPLY_TICK: DISARM bits first, then ARM (R317). -/
def armWrite (arm disarm : BitVec 16) (s : State) : State :=
  { s with regs := { s.regs with armed := (s.regs.armed &&& ~~~disarm) ||| arm } }

end Sys2Proof.Machine
end

