-- ==== Sys2Proof/Machine/EngMem.lean ====
section
/-!
DEFINITION. Engine memories: IRAM, DRAM and ECM as bytes at their global addresses (R156, R157).
-/

namespace Sys2Proof.Machine

open Sys2Proof

/-- What an unlisted byte of engine memory reads as: 0 (DESIGN CHOICE, log entry 5). -/
def memZero (_ : Nat) : Byte := 0
/-- The canonical form of the engine memories: addresses strictly rising, no listed byte equal to what an unlisted one
reads as. -/
def Memory.wf (m : List Host.Cell) : Bool := Sparse.wf memZero m
/-- Byte at a global address. -/
def memByte (s : State) (a : Nat) : Byte := Sparse.get memZero s.eng.mem a
/-- Write the byte at a global address. -/
def memPut (a : Nat) (b : Byte) (s : State) : State := { s with eng := { s.eng with mem := Sparse.put memZero s.eng.mem a b } }
/-- Bytes from a global address. -/
def memBytes (s : State) (a n : Nat) : List Byte := (List.range n).map fun k => memByte s (a + k)
/-- Write bytes from a global address. -/
def memWrite (a : Nat) : List Byte → State → State
  | [], s => s
  | b :: l, s => memWrite (a + 1) l (memPut a b s)
/-- The value of `n` bytes, little-endian. -/
def memNum (s : State) (a n : Nat) : Nat := ofLe (memBytes s a n)
/-- Zero a range: its bytes become unlisted. -/
def memClear (a n : Nat) (s : State) : State :=
  { s with eng := { s.eng with mem := s.eng.mem.filter fun c => !(a ≤ c.1 && c.1 < a + n) } }
/-- Global address of an engine's IRAM; its DRAM follows it. -/
def iramBase (n : Fin 8) : Nat := 0x100000 + 0x20000 * n.val
def dramBase (n : Fin 8) : Nat := 0x110000 + 0x20000 * n.val
/-- Global address of ECM. -/
def ecmBase : Nat := 0x200000
/-- CRC-32C of an engine's IRAM (R168). -/
def iramSig (s : State) (n : Fin 8) : Word := crc32c (memBytes s (iramBase n) 0x10000)
/-- Retention signature of an engine domain: IRAM, then DRAM (R339). -/
def engineSig (s : State) (n : Fin 8) : Word := crc32c (memBytes s (iramBase n) 0x20000)
/-- Retention signature of ECM. -/
def ecmSig (s : State) : Word := crc32c (memBytes s ecmBase 0x40000)

end Sys2Proof.Machine
end

