-- ==== Sys2Proof/Machine/Image.lean ====
section
/-!
DEFINITION. Firmware images: the header, verification, loading the engines, and the states of the two image slots
(R58, R182 to R185, R378, R379).
-/

namespace Sys2Proof.Machine

open Sys2Proof

/-- Image slot `k`. -/
def imgSlot (s : State) (k : Fin 2) : ImgSlot := Tbl.get s.img.slot k
/-- Change an image slot. -/
def updImg (k : Fin 2) (f : ImgSlot → ImgSlot) (s : State) : State := { s with img := { s.img with slot := Tbl.upd s.img.slot k f } }
/-- The other image slot. -/
def otherImg (k : Fin 2) : Fin 2 := if k.val = 0 then 1 else 0
/-- A little-endian field of an image. -/
def imgNum (b : List Byte) (off n : Nat) : Nat := ofLe ((b.drop off).take n)

/-! ## Verification (R182, R183) -/

/-- A segment of an image: engine 0 to 7 or 8 for ECM, memory, offset, length, position in the image. -/
structure Segment where
  engine : Nat
  mem : Nat
  off : Nat
  len : Nat
  pos : Nat
deriving DecidableEq, Repr

/-- The first `n` segments from record `k` on; the segments' bytes follow one another from byte 512 (DEDUCED, log entry 6). -/
def segmentsFrom (b : List Byte) (k pos : Nat) : Nat → List Segment
  | 0 => []
  | n + 1 =>
    let r := 64 + 12 * k
    let len := imgNum b (r + 8) 4
    { engine := imgNum b r 1, mem := imgNum b (r + 1) 1, off := imgNum b (r + 4) 4, len := len, pos := pos } ::
      segmentsFrom b (k + 1) (pos + len) n
/-- Segments of an image. -/
def segments (b : List Byte) : List Segment := segmentsFrom b 0 512 (min 32 (imgNum b 17 1))
/-- A segment lies in its target memory. -/
def Segment.ok (x : Segment) : Bool :=
  (x.engine < 8 && (x.mem = 0 || x.mem = 1) && x.off + x.len ≤ 0x10000) || (x.engine = 8 && x.mem = 2 && x.off + x.len ≤ 0x40000)
/-- Two segments overlap. -/
def Segment.meets (x y : Segment) : Bool :=
  x.engine = y.engine && x.mem = y.mem && x.off < y.off + y.len && y.off < x.off + x.len
/-- No two of a list overlap. -/
def segmentsApart : List Segment → Bool
  | [] => true
  | x :: l => l.all (fun y => !x.meets y) && segmentsApart l
/-- Steps 1 and 2 of R183. -/
def imageShape (b : List Byte) : Bool :=
  let len := imgNum b 8 4
  let segs := segments b
  let nseg := imgNum b 17 1
  b.take 4 == [0x51, 0x48, 0x49, 0x4D] && imgNum b 4 4 = 1 && len ≤ 0x400000 && 576 ≤ len && len ≤ b.length &&
  1 ≤ nseg && nseg ≤ 32 && segs.all Segment.ok && segmentsApart segs &&
  segs.foldl (fun n x => n + x.len) 0 ≤ len - 576
/-- The key that KEYID names, under KEYPOLICY (R183). -/
def imageKey (s : State) (b : List Byte) : Option (List Byte) :=
  let policy := odNum s 0x2030 1
  let id := imgNum b 16 1
  if id = 0 ∧ policy ≠ 2 then some Config.lamwardKey
  else if id = 1 ∧ policy ≠ 0 then some (odGet s 0x2030 2)
  else none
/-- An image verifies (R183). -/
def imageOk (s : State) (b : List Byte) : Bool :=
  let len := imgNum b 8 4
  imageShape b && (crc32c ((b.drop 512).take (len - 576))).toNat = imgNum b 20 4 &&
  (match imageKey s b with
   | some k => edOk k (b.take (len - 64)) ((b.drop (len - 64)).take 64)
   | none => false)

/-! ## Loading (R185) -/

/-- Bytes of the running image. -/
def runningImage (s : State) : List Byte := (imgSlot s s.img.running).bytes
/-- Write the segments of one memory. -/
def loadSegments (b : List Byte) (engine mem base : Nat) (s : State) : State :=
  ((segments b).filter fun x => x.engine = engine && x.mem = mem).foldl
    (fun t x => memWrite (base + x.off) ((b.drop x.pos).take x.len) t) s
/-- Steps 3 and 4 of R185 for one engine. -/
def loadEngine (n : Fin 8) (s : State) : State :=
  let b := runningImage s
  let s1 := loadSegments b n.val 1 (dramBase n) (loadSegments b n.val 0 (iramBase n) (memClear (iramBase n) 0x20000 s))
  updEng n (fun e => { e with isig := iramSig s1 n }) s1
/-- Step 2 of R185; memory that no segment covers is filled with 0. -/
def loadEcm (s : State) : State := loadSegments (runningImage s) 8 2 ecmBase (memClear ecmBase 0x40000 s)

/-! ## Slot states (R58, R184, R379) -/

/-- Code of an image slot's state in OD 0x2031. -/
def ImgSt.code : ImgSt → Nat
  | .empty => 0 | .loading => 1 | .invalid => 2 | .valid => 3 | .trial => 4 | .good => 5 | .retired => 6
/-- A load is permitted: the lease, or the boot-ROM wait (R58, R63). -/
def imageMay (s : State) (m : Fin 16) : Bool := bootWait s || s.lease.owner = some m
/-- Every image load ends (R73, R170, R386). -/
def imageAbortAll (s : State) : State :=
  match s.img.load with
  | some (k, _, _) => updImg k (fun x => { x with st := .invalid }) { s with img := { s.img with load := none } }
  | none => s
/-- IMAGE_CTL begin: status and state. -/
def imageBegin (m : Fin 16) (k : Fin 2) (s : State) : Nat × State :=
  if !imageMay s m then (3, s)
  else if !bootWait s && s.img.running = k then (5, s)
  else
    let s1 := imageAbortAll s
    (0, { s1 with img := { s1.img with
            load := some (k, 0, m)
            slot := Tbl.put s1.img.slot k { st := .loading, bytes := [], started := false } } })
/-- Write a block of image data: blocks rise from 0, each 4,096 bytes but the last. -/
def imageData (m : Fin 16) (block : Nat) (d : List Byte) (s : State) : Nat × State :=
  if !imageMay s m then (3, s)
  else
    match s.img.load with
    | some (k, next, l) =>
      if l ≠ m ∨ block ≠ next then (10, s)
      else if 1024 ≤ block ∨ d.length = 0 ∨ 4096 < d.length ∨ (imgSlot s k).bytes.length ≠ block * 4096 then (5, s)
      else
        (0, { s with img := { s.img with
                load := some (k, next + 1, m)
                slot := Tbl.upd s.img.slot k fun x => { x with bytes := x.bytes ++ d } } })
    | none => (10, s)
/-- IMAGE_CTL end and verify, outside the boot-ROM wait: the slot becomes VALID or INVALID (R183, R184). -/
def imageEnd (m : Fin 16) (s : State) : Nat × State :=
  if !imageMay s m then (3, s)
  else
    match s.img.load with
    | some (k, _, l) =>
      if l ≠ m then (10, s)
      else
        let s1 := { s with img := { s.img with load := none } }
        if imageOk s1 (imgSlot s1 k).bytes then (0, updImg k (fun x => { x with st := if bootWait s then .trial else .valid }) s1)
        else (9, countEv 10 (updImg k (fun x => { x with st := .invalid }) s1))
    | none => (10, s)
/-- IMAGE_CTL abort. -/
def imageAbort (m : Fin 16) (s : State) : Nat × State :=
  if !imageMay s m then (3, s)
  else match s.img.load with
    | some (_, _, l) => if l ≠ m then (10, s) else (0, imageAbortBy m s)
    | none => (10, s)
/-- An unconfirmed TRIAL slot becomes RETIRED, and a RETIRED other slot GOOD (R184). -/
def trialEnds (k : Fin 2) (s : State) : State :=
  if (imgSlot s k).st = .trial then
    let s1 := updImg k (fun x => { x with st := .retired }) s
    if (imgSlot s1 (otherImg k)).st = .retired then updImg (otherImg k) (fun x => { x with st := .good }) s1 else s1
  else s
/-- The running slot's trial ends without confirmation; the module resets at the next tick. -/
def trialExpired (s : State) : State :=
  if (imgSlot s s.img.running).st = .trial && s.start.stage = .run && !bootWait s then
    let s1 := trialEnds s.img.running s
    { s1 with start := { s1.start with rstCmd := .image none }, img := { s1.img with confirmDue := none } }
  else s
/-- An image command's CONFIG record. -/
def journalImage (src code : Nat) (s : State) : State := journalConfig 7 src 61 code 0 s
/-- OD 0x2031 sub 4: 1 ACTIVATE, 2 CONFIRM, 3 RESTORE (R184). Status and state. -/
def imageCommand (m : Fin 16) (code : Nat) (s : State) : Nat × State :=
  let k := s.img.running
  let o := otherImg k
  let os := (imgSlot s o).st
  if code = 1 then
    (if os = .valid ∨ os = .good then
       let s1 := updImg k (fun x => { x with st := .retired }) (updImg o (fun x => { x with st := .trial, started := false }) s)
       (0, journalImage m.val 1 (lifeInc 10 { s1 with start := { s1.start with rstCmd := .image (some m) } }))
     else (5, s))
  else if code = 2 then
    (if (imgSlot s k).st = .trial then
       (0, journalImage m.val 2 { updImg k (fun x => { x with st := .good }) s with img := { (updImg k (fun x => { x with st := .good }) s).img with confirmDue := none } })
     else (5, s))
  else if code = 3 then
    (if os = .retired then
       let s1 := updImg k (fun x => { x with st := .retired }) (updImg o (fun x => { x with st := .good }) s)
       (0, journalImage m.val 3 { s1 with start := { s1.start with rstCmd := .image (some m) } })
     else (5, s))
  else (5, s)

end Sys2Proof.Machine
end

