-- ==== Sys2Proof/Machine/Snap.lean ====
section
/-!
DEFINITION. Snapshots: the latch and its buffer (R369 to R374), PE7's copy (R373), and the end of a command.
-/

namespace Sys2Proof.Machine

open Sys2Proof

/-! ## The buffer (R371, R372) -/

/-- `n` register words from an address, `stride` apart. -/
def regRun (s : State) (base stride n : Nat) : List Word := (List.range n).map fun k => readReg s (base + stride * k)
/-- Words of a domain: 0 while it is not ON (R370). -/
def domWords (s : State) (d : Fin 31) (l : List Word) : List Word := if domainOn s d then l else l.map fun _ => 0
/-- Pad words to a count. -/
def padWords (n : Nat) (l : List Word) : List Word := l ++ List.replicate (n - l.length) 0
/-- Header of a snapshot. -/
def snapHeader (s : State) (trig ev : Nat) (ids : List Word) (unlocked stepped : Bool) : List Word :=
  padWords 16 [ids.headD 0,
    pk [(trig, 0, 3), (b2n unlocked, 3, 1), (b2n stepped, 4, 1), (b2n s.time.tbEst, 5, 1), (s.ao.calQual, 6, 2), (ev, 8, 6),
        (b2n (ids.length > 1), 14, 1)],
    lo32 s.time.tb, hi32 s.time.tb, s.time.tick, s.ao.calSec, toWord s.ao.calSub, (ids.drop 1).headD 0, toWord s.fab.addr.toNat,
    toWord ((allFin 31).foldl (fun n d => n + (if domainOn s d then 0 else 2 ^ d.val)) 0)]
/-- The register words behind the header, in the order of R371. -/
def snapBody (s : State) : List Word :=
  regRun s 0x1000 4 64 ++ regRun s 0x1200 4 4 ++
  [readReg s 0x104, readReg s 0x10C] ++ domWords s 25 [readReg s 0x40000, readReg s 0x40010] ++
  (allFin 8).flatMap (fun n => domWords s ⟨n.val, by omega⟩ [readReg s (0x808 + 0x20 * n.val)]) ++
  padWords 32 (regRun s 0x50000 0x400 27) ++
  padWords 32 (regRun s 0x50020 0x400 24 ++ [readReg s 0x57208, readReg s 0x570A4]) ++
  regRun s 0x80020 0x100 24 ++ regRun s 0x80024 0x100 24 ++ regRun s 0x80028 0x100 24 ++
  padWords 24 (regRun s 0x83008 0x40 4 ++ regRun s 0x8300C 0x40 4 ++ [readReg s 0x8380C, readReg s 0x83804]) ++
  regRun s 0x30020 0x40 64 ++ regRun s 0x3001C 0x40 64 ++
  padWords 128 (domWords s 25 ((List.range 33).flatMap fun n => [readReg s (0x40100 + 0x10 * n), readReg s (0x40104 + 0x10 * n)])) ++
  padWords 32 (regRun s 0x90104 0x40 4 ++ regRun s 0x90110 0x40 4 ++ [readReg s 0x90030, readReg s 0x90034, readReg s 0x90004]) ++
  regRun s 0xA0108 0x20 16 ++ regRun s 0xA0408 0x10 32 ++
  padWords 64 (regRun s 0x20200 4 16 ++ regRun s 0x20300 4 33) ++
  padWords 16 [readReg s 0xB0008, readReg s 0xB000C, readReg s 0x10024] ++
  padWords 32 (regRun s 0x10100 0x10 31)
/-- The 2,816 bytes of a buffer. -/
def snapImage (s : State) (trig ev : Nat) (ids : List Word) (unlocked stepped : Bool) : List Byte :=
  (snapHeader s trig ev ids unlocked stepped ++ snapBody s).flatMap fun w => le32 w.toNat

/-! ## The latch (R370) -/

/-- The lower-numbered free buffer. -/
def snapBuffer (s : State) : Option (Fin 2) :=
  if (Tbl.get s.snap.buf 0).isNone then some 0 else if (Tbl.get s.snap.buf 1).isNone then some 1 else none
/-- Latch a snapshot: trigger, its event, its IDs (empty: the local count), and the two flags of R238. -/
def snapLatch (trig ev by_ : Nat) (ids : List Word) (unlocked stepped : Bool) (s : State) : State :=
  match snapBuffer s with
  | some b =>
    let s1 := if ids.isEmpty then { s with snap := { s.snap with localId := s.snap.localId + 1 } } else s
    let ids1 := if ids.isEmpty then [s1.snap.localId] else ids
    countEv 63 { s1 with snap := { s1.snap with buf := Tbl.put s1.snap.buf b (some (snapImage s1 trig ev ids1 unlocked stepped)), last := b,
                                                   todo := s1.snap.todo ++ [(b, by_)] } }
  | none => countEv 57 { s with snap := { s.snap with lost := min 255 (s.snap.lost + 1) } }
/-- The end of a command: a trigger raised within it latches (R369). -/
def settle (s : State) : State :=
  match s.snap.due with
  | none => s
  | some k =>
    let s1 := snapLatch k (if k = 2 then fld (regv s 0xD0000) 9 4 else 0) (if k = 0 then s.snap.dueBy else srcDevice) [] false false { s with snap := { s.snap with due := none } }
    { s1 with snap := { s1.snap with due := none } }
/-- A command completes. -/
def done (s : State) : Host.Outcome State Fault Refusal := .next (settle s)

/-- Scheduled targets reached by the boundary (R237, R238). A target below TB is one that a step passed over. -/
def snapScheduled (s : State) : State :=
  if !bit (regv s 0xD0000) 3 then s
  else
    let hit := (allFin 4).filter fun n => (Tbl.get s.snap.tgt n).armed && (Tbl.get s.snap.tgt n).target.toNat ≤ s.time.tb.toNat
    match hit with
    | [] => s
    | _ =>
      let ids := hit.map fun n => (Tbl.get s.snap.tgt n).id
      let lost := (snapBuffer s).isNone
      let stepped := hit.any fun n => decide ((Tbl.get s.snap.tgt n).target.toNat < s.time.tb.toNat)
      let unlocked := !(s.fab.tst = .locked || s.fab.tst = .master)
      let s1 := hit.foldl (fun t n => { t with snap := { t.snap with tgt := Tbl.upd t.snap.tgt n fun x => { x with armed := false } } }) s
      let s2 := snapLatch 3 0 srcDevice ids unlocked stepped s1
      let s3 := if s.fab.snapStat = 1 && ids.contains s.fab.snapId then { s2 with fab := { s2.fab with snapStat := if lost then 4 else 2 } } else s2
      if lost then ids.foldl (fun t id => journalFabric 7 0 0 t.fab.addr Config.uniqueId id (countEv 33 t)) s3 else s3

/-! ## PE7's copy and the release (R373) -/

/-- A buffer is released. -/
def snapRelease (b : Fin 2) (s : State) : State :=
  { s with snap := { s.snap with buf := Tbl.put s.snap.buf b none, todo := s.snap.todo.filter (·.1 ≠ b) } }
/-- A word of a buffer. -/
def snapWord (d : List Byte) (k : Nat) : Nat := ofLe ((d.drop (4 * k)).take 4)
/-- SNAPSHOT_COPY: on EV63 PE7 copies the buffer, writes a record, and releases it unless KEEP is 1. -/
def snapCopy (s : State) : State :=
  if !peRuns s 7 then s
  else
    match s.snap.todo with
    | [] => s
    | (b, by_) :: rest =>
      let d := (Tbl.get s.snap.buf b).getD []
      let s1 := { s with snap := { s.snap with copies := (d :: s.snap.copies).take 4, todo := rest } }
      let s2 := journal 14 1 by_ 0 (snapWord d 1 % 8)
        (le32 (snapWord d 0) ++ le32 (snapWord d 7) ++ le32 (crc32c d).toNat ++ le32 (snapWord d 1)) s1
      if bit (regv s 0xD0000) 13 then s2 else snapRelease b s2

end Sys2Proof.Machine
end

