-- ==== Sys2Proof/Machine/EngRun.lean ====
section
/-!
DEFINITION. Engines as the rest of the device sees them: starting runs, resets, returns, the hold of their ports, halts
and the tick entry (R153, R160 to R171, R399 to R401).
-/

namespace Sys2Proof.Machine

open Sys2Proof

/-! ## Ports an engine serves (R169, R401) -/

/-- Topology entries that an engine serves: its slots, and the virtual slots for VSLOT. -/
def servedBy (s : State) (n : Fin 8) (e : Fin 40) : Bool :=
  if e.val < 24 then bit (portsReg s n) e.val else bit (portsReg s n) 27
/-- Change every port that an engine serves. -/
def updServed (n : Fin 8) (f : PortS → PortS) (s : State) : State :=
  eachFin 40 (fun e t => if servedBy t n e then updPort t e f else t) s
/-- The ports of a lost engine hold their state (R169). -/
def portsHold (n : Fin 8) (s : State) : State :=
  updEng n (fun e => { e with portHold := true }) (updServed n (fun q => { q with holding := true }) s)
/-- A half of a port whose engine has been lost for 100 ms: PORT_POWER stays, a connection that had been reported
shows as a change. -/
def HalfS.holdLost (h : HalfS) (power conn : BitVec 16) : HalfS :=
  { st := h.st &&& power, chg := if h.st &&& conn ≠ 0 then h.chg ||| cConn else h.chg }
/-- PORT_HOLD_EXPIRED. -/
def portHoldExpired (n : Fin 8) (s : State) : State :=
  if !(eng s n).portHold || ((eng s n).st = .halted && s.dbg.phold.getLsbD n.val) then s
  else
    updEng n (fun e => { e with portHold := false, portsLost := true })
      (eachFin 40 (fun e t =>
        if servedBy t n e then
          updPort t e fun q =>
            if q.st == .disconnected then { q with linkEv := [] }
            else { (q.toDisconnected (topoSsOff t e)) with
                   ss := q.ss.holdLost pPowerSS pConn, hs := q.hs.holdLost pPowerHS pConn, linkEv := [] }
        else t) s)
/-- A link event of a port. -/
def runLink (e : Fin 40) (ev : LinkEv) (s : State) : State :=
  match ev with
  | .wake hs => deviceWake e hs s
  | _ =>
    if h : e.val < 24 then
      let p : Fin 24 := ⟨e.val, h⟩
      match ev with
      | .ssTerm => ssTermination p s
      | .u0 g => pollingU0 p g s
      | .pollFail => pollingFail p s
      | .hsConn l => usb2Connect p l s
      | .hsDisc => usb2Disconnect p s
      | .ssLost => ssTermLost p s
      | .inactive => ssInactive p s
      | .wake _ => s
    else s
/-- A link event at a port: latched while the port's engine is lost (R169). -/
def linkEvent (e : Fin 40) (ev : LinkEv) (s : State) : State :=
  if (port s e).holding then updPort s e fun q => { q with linkEv := q.linkEv ++ [ev] } else runLink e ev s
/-- A port whose engine is back: a port that was disconnected is taken as though its host had just set PORT_POWER,
latched events act, and then the requests that waited in the mailbox. -/
def portResume (e : Fin 40) (s : State) : State :=
  let q := port s e
  let s1 := portEval e (updPort s e fun q => { q with holding := false, linkEv := [], reqs := [] })
  q.reqs.foldl (fun u r => runPortReq r e u) (q.linkEv.foldl (fun u ev => runLink e ev u) s1)
/-- After an apply of the serve maps: a port follows the engine that serves it now (R169, R181). -/
def portsSettle (s : State) : State :=
  eachFin 40 (fun e t =>
    match (allFin 8).find? fun n => servedBy t n e with
    | some n =>
      if (port t e).holding && (eng t n).serves then portResume e t
      else if (eng t n).portHold && !(port t e).holding then updPort t e fun q => { q with holding := true }
      else t
    | none => t) s
/-- The ports of an engine resume when it returns. -/
def portsResume (n : Fin 8) (s : State) : State :=
  let s1 := eachFin 40 (fun e t => if servedBy t n e then portResume e t else t) s
  let owed := (eng s1 n).owedErdy
  let s2 := s1.emit (((allFin 6).filter fun lh => owed.getLsbD lh.val).map Out.erdy)
  updEng n (fun e => { e with portHold := false, portsLost := false, owedErdy := 0 }) s2

/-! ## Reset (R167, R170) -/

/-- The Keystone request of an engine is withdrawn and any hold it has ends (R153). -/
def withdrawReq (n : Fin 8) (s : State) : State :=
  let mine (r : Fin 48) : Bool := r.val = 33 + n.val
  { s with arb := { s.arb with
      waits := s.arb.waits.filter fun w => !mine w.req
      points := s.arb.points.map fun p => { p with holder := p.holder.filter fun r => !mine r } } }
/-- HOLD of an engine. -/
def engHold (s : State) (n : Fin 8) : Bool := bit (regv s (0x800 + 0x20 * n.val)) 0
/-- Domain of an engine. -/
def engDomain (n : Fin 8) : Fin 31 := ⟨n.val, by omega⟩
/-- In RESET, an engine whose HOLD is 0 starts its signature check, unless a reload is in progress or its domain is not
ON (R162, R333). -/
def resetLeave (n : Fin 8) (s : State) : State :=
  if (eng s n).st = .reset && !engHold s n && !(eng s n).reload && domainOn s (engDomain n) then
    updEng n (fun e => { e with st := .check }) s
  else s
/-- The items an engine is writing end aborted (R126). -/
def abortItemsOf (n : Fin 8) (s : State) : State :=
  eachFin 64 (fun q t => match (queue t q).cur with
    | some c => if c.prod = 33 + n.val then itemAbort q t else t
    | none => t) s
/-- Timers that an engine owns. -/
def ownsTimer (s : State) (n : Fin 8) (k : Fin 16) : Bool :=
  let v := regv s (0xC0200 + 0x10 * k.val)
  bit v 3 && fld v 2 0 = n.val
/-- Timers of an engine stop; ownership is kept. -/
def stopTimers (n : Fin 8) (s : State) : State :=
  eachFin 16 (fun k t => if ownsTimer t n k then
    { t with eng := { t.eng with tm := Tbl.upd t.eng.tm k fun x => { x with run := false, pend := false } } } else t) s
/-- Master of an engine. -/
def engMaster (n : Fin 8) : Fin 16 := ⟨8 + n.val, by omega⟩
/-- An ENGINE record (TYPE 0x07). -/
def journalEngine (sub src : Nat) (n : Fin 8) (s : State) : State :=
  let e := eng s n
  journal 7 sub src (objPe n.val) e.lastCause (le32 e.fault.toNat ++ le32 e.fpc.toNat) s
/-- What the loss of an engine does to the work Kryroth assigns it (R58, R170, R184, R235). -/
def engineWorkLost (n : Fin 8) (s : State) : State :=
  if n.val = 0 then
    let s1 := trialExpired (imageAbortAll s)
    { s1 with can := { s1.can with sdo := none, usdo := none }, fab := { s1.fab with odxParts := [] } }.emit
      (match s.can.sdo with | some x => [.can (0x580 + canNode s) ([0x80] ++ le16 x.idx.toNat ++ [x.sub] ++ le32 0x08000020)] | none => [])
  else if n.val = 5 then { s with fab := { s.fab with tst := .holdover, goodSync := 0 } }
  else s
/-- Engine reset with a cause, commanded by a master or by the device itself (R162, R167); the mailbox flush discards the
port requests that arrived before it (R169). -/
def engineReset (n : Fin 8) (cause src : Nat) (s : State) : State :=
  let s1 := stopTimers n (withdrawReq n (abortItemsOf n s))
  let s2 := if (eng s n).mboxLost then s1 else flushQueue (mboxOf s1 n) s1
  let s3 := updServed n (fun q => { q with reqs := [] }) (ownerLoss (engMaster n) s2)
  let s4 := updEng n (fun e =>
    { e with
      st := .reset, regs := Tbl.fill 16 0, sleep := .awake, entry := false, entryLate := false, entrySkip := 0, overrun := false,
      ovrSeq := 0, evPend := 0, lastCause := cause, resets := min 255 (e.resets + 1), sigFails := 0, domainWake := false, reqHeld := none }) s3
  resetLeave n (engineWorkLost n (portsHold n (journalEngine 1 src n (lifeInc 6 (countEv 5 s4)))))
/-- An engine that runs, or is halted, is reset; in RESET and CHECK nothing happens. -/
def engineResetIf (n : Fin 8) (cause src : Nat) (s : State) : State :=
  match (eng s n).st with
  | .reset | .check => s
  | .init | .idle | .tick | .handler | .halted => engineReset n cause src s
/-- HOLD written 1 (R162). -/
def holdSet (n : Fin 8) (src : Nat) (s : State) : State :=
  let s1 := setReg (0x800 + 0x20 * n.val) 1 s
  match (eng s1 n).st with
  | .reset => s1
  | .check => updEng n (fun e => { e with st := .reset }) s1
  | .init | .idle | .tick | .handler | .halted => engineReset n 5 src s1
/-- HOLD written 0. -/
def holdClear (n : Fin 8) (s : State) : State :=
  resetLeave n (updEng n (fun e => if e.st = .reset then { e with sigFails := 0 } else e) (setReg (0x800 + 0x20 * n.val) 0 s))

/-! ## CHECK, INIT and the return (R161, R166, R168, R341) -/

/-- WD_TICKS with its limits. -/
def wdTicks (s : State) (n : Fin 8) : Nat :=
  let v := fld (regv s (0x804 + 0x20 * n.val)) 23 16
  if v = 1 then 2 else v
/-- A run starts at an address with g1. -/
def EngS.begin (e : EngS) (st : EngSt) (pc g1 : Word) : EngS := { e with st := st, pc := pc, regs := Tbl.put e.regs 1 g1, sleep := .awake }
/-- IRAM_CHECK_COMPLETE. -/
def checkComplete (n : Fin 8) (s : State) : State :=
  let e := eng s n
  if e.st ≠ .check || !domainOn s (engDomain n) then s
  else if iramSig s n = e.isig then
    updEng n (fun e =>
      { (e.begin .init 0 (if e.domainWake then 0 else toWord e.lastCause)) with wd := wdTicks s n, sigFails := 0, domainWake := false }) s
  else if e.sigFails = 0 then updEng n (fun e => { e with st := .reset, reload := true, sigFails := 1 }) s
  else journalEngine 2 srcDevice n (countEv 10 (updEng n (fun e => { e with st := .reset, sigFails := 2 }) s))
/-- ENGINE_RELOAD_COMPLETE: steps 3 to 5 of R185. -/
def reloadComplete (n : Fin 8) (s : State) : State :=
  if (eng s n).reload then
    let s1 := updEng n (fun e => { e with reload := false }) (loadEngine n s)
    resetLeave n (setReg (0x800 + 0x20 * n.val) 0 s1)
  else s
/-- An engine returns: TEND in INIT (R169). -/
def engineReturn (n : Fin 8) (s : State) : State := portsResume n (updEng n (fun e => { e with st := .idle }) s)

/-! ## Runs (R160 to R165) -/

/-- TSTAT of a run. -/
def tstat (e : EngS) : Word := pk [(b2n e.late, 0, 1), (e.ovrSeq, 1, 2), (min 255 e.skipped, 8, 8), (e.tickNo.toNat, 16, 16)]
/-- The pending tick entry starts its run; `late` is the run's LATE. -/
def startTick (n : Fin 8) (late : Bool) (s : State) : State :=
  updEng n (fun e =>
    let e1 := { e with late := late, skipped := e.entrySkip, tickNo := e.entryNo, entry := false, entryLate := false, entrySkip := 0, overrun := false }
    e1.begin .tick 0x40 (tstat e1)) s
/-- The lowest pending handler source: kind and number (R160). -/
def handlerSource (s : State) (n : Fin 8) : Option (Nat × Nat) :=
  match (allFin 16).find? fun k => ownsTimer s n k && (Tbl.get s.eng.tm k).pend with
  | some k => some (0, k.val)
  | none =>
    if !(eng s n).mboxLost && (headAt s (mboxOf s n)).isSome && qEn s (mboxOf s n) then some (1, (mboxOf s n).val)
    else ((allFin 64).find? fun k => (eng s n).evPend.getLsbD k.val).map fun k => (2, k.val)
/-- The source whose handler starts is no longer pending. -/
def clearSource (n : Fin 8) (src : Nat × Nat) (s : State) : State :=
  if src.1 = 0 then
    (match finOf 16 src.2 with
     | some k => { s with eng := { s.eng with tm := Tbl.upd s.eng.tm k fun x => { x with pend := false } } }
     | none => s)
  else if src.1 = 2 then updEng n (fun e => { e with evPend := e.evPend &&& ~~~(BitVec.ofNat 64 (2 ^ src.2)) }) s
  else s
/-- A handler starts. -/
def startHandler (n : Fin 8) (src : Nat × Nat) (s : State) : State :=
  updEng n (fun e => e.begin .handler 0x80 (pk [(src.2, 0, 8), (src.1, 8, 2)])) (clearSource n src s)
/-- Kryroth engines other than PE0 take no tick work before PE0 has completed step 8 (R376). -/
def ticksHeld (s : State) (n : Fin 8) : Bool := n.val ≠ 0 && (s.start.phase < 2 || s.start.phase = 7)
/-- ENGINE_RUN_START: an idle engine starts its tick program, or the handler of the lowest source. -/
def runStart (n : Fin 8) (s : State) : State :=
  let e := eng s n
  if e.st ≠ .idle || !domainOn s (engDomain n) then s
  else if e.entry then startTick n e.entryLate s
  else match handlerSource s n with
    | some src => startHandler n src s
    | none => s
/-- A tick entry is raised to an engine at T+2 (R162, R164, R400). -/
def tickEntry (n : Fin 8) (s : State) : State :=
  let raise (st : EngSt) (t : State) : State :=
    updEng n (fun e =>
      if e.entry then { e with entrySkip := e.entrySkip + 1, cntSkip := min 0xFFFF (e.cntSkip + 1) }
      else { e with entry := true, entryLate := st == .tick || e.st == .halted, entrySkip := 0, entryNo := BitVec.ofNat 16 t.time.tick.toNat }) t
  if !domainOn s (engDomain n) || ticksHeld s n then s
  else match (eng s n).st with
    | .idle => raise .idle s
    | .tick => raise .tick s
    | .handler => raise .handler s
    | .halted => (match (eng s n).haltSt with
        | .idle | .tick | .handler | .halted => raise (eng s n).haltSt s
        | .init | .reset | .check => s)
    | .init | .reset | .check => s
/-- The watchdog counts at a boundary (R166). -/
def watchdogTick (n : Fin 8) (s : State) : State :=
  match (eng s n).st with
  | .init | .idle | .tick | .handler => updEng n (fun e => { e with wd := e.wd - 1 }) s
  | .reset | .check | .halted => s
/-- WATCHDOG_EXPIRY. -/
def watchdogExpiry (n : Fin 8) (s : State) : State :=
  match (eng s n).st with
  | .init | .idle | .tick | .handler => if wdTicks s n ≠ 0 && (eng s n).wd = 0 then engineReset n 2 srcDevice s else s
  | .reset | .check | .halted => s
/-- TICK_OVERRUN: the budget window ends before TEND (R163, R165). -/
def tickOverrun (n : Fin 8) (s : State) : State :=
  let e := eng s n
  if e.st ≠ .tick || e.overrun then s
  else
    let s1 := countEv 4 (updEng n (fun e => { e with overrun := true, cntOvr := min 0xFFFF (e.cntOvr + 1) }) s)
    if 2 ≤ e.ovrSeq then engineReset n 1 srcDevice s1 else updEng n (fun e => { e with ovrSeq := e.ovrSeq + 1 }) s1
/-- An expiry of a timer (R178). -/
def timerExpiry (k : Fin 16) (s : State) : State :=
  let t := Tbl.get s.eng.tm k
  let t1 := if t.periodic then { t with due := t.due + BitVec.ofNat 64 (t.period * 1000), pend := true } else { t with run := false, pend := true }
  if t.run then { s with eng := { s.eng with tm := Tbl.put s.eng.tm k t1 } } else s

/-! ## Halt and resume (R399 to R401) -/

/-- An engine halts at an instruction boundary. -/
def haltNow (n : Fin 8) (s : State) : State :=
  match (eng s n).st with
  | .reset | .check | .halted => s
  | .init | .idle | .tick | .handler =>
    let held := (peRequest s n).map fun w => w.point
    let s1 := withdrawReq n s
    portsHold n (updEng n (fun e => { e with haltSt := e.st, st := .halted, sleep := .awake, reqHeld := held }) s1)
/-- IRAM_CHECK_COMPLETE, with a halt request that stayed set through a reset: the engine halts at the first instruction of
its restart code (R402). -/
def checkDone (n : Fin 8) (s : State) : State :=
  let s1 := checkComplete n s
  if s1.dbg.halt.getLsbD n.val then haltNow n s1 else s1
/-- HALT written 1: the request stays set until a resume. -/
def haltRequest (n : Fin 8) (s : State) : State :=
  haltNow n { s with dbg := { s.dbg with halt := s.dbg.halt ||| BitVec.ofNat 8 (2 ^ n.val) } }
/-- A halted engine goes back to the state in which it halted. -/
def resumeState (n : Fin 8) (s : State) : State :=
  let held := (eng s n).reqHeld
  let s1 := updEng n (fun e => { e with st := e.haltSt, reqHeld := none }) s
  let s2 := match held with
    | some pt => raiseReq pt ⟨33 + n.val, by omega⟩ s1
    | none => s1
  if (eng s2 n).serves then portsResume n s2 else s2
/-- RESUME: HALT clears; the breakpoint at the PC is passed once. -/
def resume (n : Fin 8) (s : State) : State :=
  let m : BitVec 8 := BitVec.ofNat 8 (2 ^ n.val)
  let s1 := { s with dbg := { s.dbg with halt := s.dbg.halt &&& ~~~m } }
  if (eng s1 n).st = .halted then resumeState n { s1 with dbg := { s1.dbg with pass := s1.dbg.pass ||| m } } else s1

end Sys2Proof.Machine
end

