-- ==== Sys2Proof/Machine/Power.lean ====
section
/-!
DEFINITION. Power domains, lamplighter patrols, the core voltage and the clocks (R333 to R351).
-/

namespace Sys2Proof.Machine

open Sys2Proof

/-! ## Domains -/

/-- Domain `d`. -/
def dom (s : State) (d : Fin 31) : DomS := Tbl.get s.ao.dom d
/-- Change a domain. -/
def updDom (d : Fin 31) (f : DomS → DomS) (s : State) : State := { s with ao := { s.ao with dom := Tbl.upd s.ao.dom d f } }
/-- A POWER record (TYPE 0x0C). -/
def journalPower (sub src domain : Nat) (s : State) : State := journal 12 sub src 62 domain (le32 (readReg s 0x10024).toNat) s
/-- A slot takes no supply: OFF or FORCED_OFF. -/
def slotQuiet (s : State) (p : Fin 24) : Bool := (slot s p).st = .off || (slot s p).st = .forcedOff
/-- Every slot is in OFF or FORCED_OFF. -/
def slotsQuiet (s : State) : Bool := (allFin 24).all (slotQuiet s)
/-- An export or an import is BOUND. -/
def anyBound (s : State) : Bool :=
  (allFin 24).any (fun p => (exps s p).st = .bound) || (allFin 16).any fun v => importBound s v.val
/-- An upstream's tier-1 hub is configured. -/
def hubConfigured (s : State) (u : Fin 3) : Bool := (hub s (tier1 u)).cfgSS || (hub s (tier1 u)).cfgHS
/-- An enabled queue has a bank in packet bank `k`. -/
def bankUsed (s : State) (k : Nat) : Bool :=
  (allFin 64).any fun q => qEn s q && ([0, 1] : List (Fin 2)).any fun b =>
    qBase s q b < (k + 1) * 262144 && k * 262144 < qBase s q b + qSize s q b
/-- The preconditions of CORE OFF (R349). -/
def coreOffReady (s : State) : Bool :=
  (allFin 31).all (fun d => decide (d.val = 0) || d.val = 24 || d.val = 30 || !domainOn s d) && slotsQuiet s && !s.ao.pmBusy &&
  s.od.store.isNone && qLevel s 57 = 0
/-- The refusal code of a command that takes a domain out of ON (R336); 0 accepted. -/
def domRefuse (s : State) (d target : Nat) : Nat :=
  if h : d < 31 then
    let k : Fin 31 := ⟨d, h⟩
    let ports := if h8 : d < 8 then (portsReg s ⟨d, h8⟩).toNat else 0
    if (dom s k).st = .entering || (dom s k).st = .exiting then 1
    else if target = 3 ∨ (target = 1 ∧ (25 ≤ d)) then 2
    else if d = 0 ∨ d = 24 then 3
    else if d < 8 ∧ ports / 2 ^ 24 % 8 + ports / 2 ^ 28 % 4 ≠ 0 ∧ !(domainOn s 25 = false && slotsQuiet s) then 4
    else if d < 8 ∧ ((allFin 24).any (fun p => ports.testBit p.val && (slot s p).st.gateOn) || (ports.testBit 27 && anyBound s)) then 5
    else if 8 ≤ d ∧ d < 24 ∧ bankUsed s (d - 8) then 6
    else if d = 25 ∧ ((allFin 3).any (hubConfigured s) || (allFin 4).any fun f => (fport s f).st == .up) then 7
    else if d = 30 ∧ !coreOffReady s then 8
    else 0
  else 2
/-- AO_DOM_RES. -/
def domResult (code d : Nat) (s : State) : State := { s with ao := { s.ao with resCode := code, resDom := d } }
/-- A domain starts to exit (R339, R341); XBAR exits through REBUILD (R333). -/
def exitStart (d : Fin 31) (s : State) : State :=
  let s1 := updDom d (fun x => { x with st := .exiting, toOff := x.st == .off }) s
  if d.val = 25 ∧ s1.xb.st ≠ .fault then { s1 with xb := { s1.xb with st := .rebuild } } else s1
/-- VCORE_EN goes high for a wake of CORE (R349, R350). -/
def coreWake (s : State) : State :=
  let s1 := { s with start := { s.start with stage := .vcore, vcoreEn := true, kind := 7, src := 0x1F } }
  s1.emit [.vcoreEn true]
/-- An ON command or a wake reaches a domain (R335, R338). -/
def domainUp (d : Fin 31) (s : State) : State :=
  match (dom s d).st with
  | .on | .exiting => s
  | .entering => updDom d (fun x => { x with latched := true }) s
  | .retention | .off => if d.val = 30 then coreWake s else exitStart d s
/-- An entry is accepted (R337, R349). -/
def entryStart (d : Fin 31) (off : Bool) (s : State) : State :=
  let enter (k : Fin 31) (o : Bool) (t : State) : State :=
    updDom k (fun x => { x with st := .entering, toOff := o, latched := false, since := t.time.tb }) t
  let s1 := enter d off s
  if d.val = 25 then eachFin 32 (fun q t => flushQueue ⟨q.val, by omega⟩ t) s1
  else if d.val = 30 then enter 24 false (enter 0 false s1)
  else s1
/-- A domain command: 0 ON, 1 RETENTION, 2 OFF (R335 to R338). An XBAR command in HALT or REBUILD waits for RUN (R103). -/
def domainCommand (m : Fin 16) (d target : Nat) (s : State) : State :=
  if h : d < 31 then
    let k : Fin 31 := ⟨d, h⟩
    if target = 0 then (if (dom s k).st = .exiting then domResult 1 d s else domainUp k (domResult 0 d s))
    else
      let c := domRefuse s d target
      if c ≠ 0 then domResult c d s
      else if d = 25 ∧ (s.xb.st = .halt ∨ s.xb.st = .rebuild) ∧ domainOn s 25 then { s with xb := { s.xb with offWait := some m } }
      else
        let s1 := domResult 0 d s
        match (dom s1 k).st with
        | .on => entryStart k (target = 2) s1
        | .retention => if target = 2 then updDom k (fun x => { x with st := .off, sig := none }) s1 else s1
        | .off | .entering | .exiting => s1
  else domResult 2 (d % 32) s
/-- Bytes of a packet bank that its signature covers (R339). -/
def bankSig (s : State) (k : Nat) : Word :=
  crc32c ((List.range 32768).flatMap fun w => leBytes (pmGet s (k * 32768 + w)).data.toNat 8)
/-- The retention signature of a domain; none for a domain without retention. -/
def domainSig (s : State) (d : Fin 31) : Option Word :=
  if h : d.val < 8 then some (engineSig s ⟨d.val, h⟩)
  else if d.val < 24 then some (bankSig s (d.val - 8))
  else if d.val = 24 then some (ecmSig s)
  else none
/-- Zero the words of a packet bank, with good parity. -/
def bankZero (k : Nat) (s : State) : State :=
  { s with qm := { s.qm with mem := s.qm.mem.filter fun c => !(k * 32768 ≤ c.1 && c.1 < (k + 1) * 32768) } }
/-- Rewrite every word of a packet bank poisoned (R113). -/
def bankPoison (k : Nat) (s : State) : State :=
  (List.range 32768).foldl (fun t w => pmPut (k * 32768 + w) { data := (pmGet t (k * 32768 + w)).data, bad := true } t) s
/-- RLOST of a packet bank. -/
def bankRlost (k : Nat) (v : Bool) (s : State) : State :=
  let m : BitVec 16 := BitVec.ofNat 16 (2 ^ k)
  { s with qm := { s.qm with rlost := if v then s.qm.rlost ||| m else s.qm.rlost &&& ~~~m } }
/-- One domain reaches RETENTION or OFF: signature, isolation, supply (R337). -/
def entryFinish (d : Fin 31) (s : State) : State :=
  let off := (dom s d).toOff
  let sig := if off then none else domainSig s d
  let s1 := updDom d (fun x =>
    { x with st := if off then .off else .retention, sig := sig, rlost := false, wlat := x.latched, entries := min 0xFFFF (x.entries + 1) }) s
  if h : d.val < 8 then
    let n : Fin 8 := ⟨d.val, h⟩
    updEng n (fun e => { e with st := .reset, entry := false, entryLate := false, entrySkip := 0 }) (withdrawReq n (ownerLoss (engMaster n) s1))
  else if d.val < 24 then bankRlost (d.val - 8) false s1
  else if d.val = 25 then
    { s1 with xb := { s1.xb with st := if s1.xb.st = .fault then .fault else .halt, tx := Tbl.fill 33 .idle, hdrs := [] } }
  else if h : 26 ≤ d.val ∧ d.val < 30 then fabPortEval ⟨d.val - 26, by omega⟩ s1
  else s1
/-- A wake latched in the entry window makes the domain exit at once (R338). -/
def latchedExit (d : Fin 31) (s : State) : State :=
  if (dom s d).latched then countEv 54 (updDom d (fun x => { x with latched := false }) (exitStart d s)) else s
/-- CORE goes OFF: PE0 and ECM retained, TB captured, VCORE_EN low (R349). -/
def coreOff (s : State) : State :=
  let s1 := entryFinish 24 (entryFinish 0 s)
  let s2 := entryFinish 30 { s1 with ao := { s1.ao with tbCopy := s1.time.tb, sleep := 0 } }
  let latched := (dom s 30).latched
  let s3 := { s2 with start := { s2.start with stage := .off, vcoreEn := false } }.emit [.vcoreEn false]
  if latched then coreWake (countEv 54 (updDom 30 (fun x => { x with latched := false }) s3)) else s3
/-- DOMAIN_ENTRY_COMPLETE. An engine domain waits for IDLE, CORE for PE0's. -/
def entryComplete (d : Fin 31) (s : State) : State :=
  if (dom s d).st ≠ .entering then s
  else if d.val = 30 then (if (eng s 0).st = .idle then coreOff s else s)
  else if h : d.val < 8 then
    (if (dom s 30).st = .entering then s
     else if (eng s ⟨d.val, h⟩).st = .idle then latchedExit d (entryFinish d s) else s)
  else if d.val = 24 then s
  else latchedExit d (entryFinish d s)
/-- At a tick: an engine that has not reached IDLE 2 ticks after its command refuses it with code 9 (R336). -/
def entryTimeouts (s : State) : State :=
  eachFin 8 (fun n t =>
    let d := engDomain n
    if (dom t d).st = .entering && (dom t 30).st ≠ .entering && (eng t n).st ≠ .idle && (dom t d).since.toNat + 250000 ≤ t.time.tb.toNat then
      domResult 9 n.val (updDom d (fun x => { x with st := .on, latched := false }) t)
    else t) s
/-- The memory of an engine domain is lost: zeros, and a reload with HOLD set (R340, R341). -/
def engineLost (n : Fin 8) (s : State) : State :=
  let s1 := setReg (0x800 + 0x20 * n.val) 1 (memClear (iramBase n) 0x20000 s)
  updEng n (fun e => { e with st := .reset, reload := true, regs := Tbl.fill 16 0, sigFails := 0 }) s1
/-- An engine returns from RETENTION with its contents: CHECK, with g1 0 at its restart. The spec keeps its memory and
says nothing of g2 to g15: free values (log entry 3). -/
def engineWake (n : Fin 8) (s : State) : State :=
  let k := s.free
  updEng n (fun e =>
    { e with st := .check, domainWake := true, sleep := .awake, sigFails := 0,
             regs := Vector.ofFn fun i => Config.word (k + i.val) }) { s with free := s.free + 16 }
/-- DOMAIN_EXIT_COMPLETE (R339 to R341). -/
def exitComplete (d : Fin 31) (s : State) : State :=
  if (dom s d).st ≠ .exiting then s
  else
    let off := (dom s d).toOff
    let good := !off && (dom s d).sig.isSome && domainSig s d = (dom s d).sig
    let lost := !off && !good && d.val < 25
    let s1 := updDom d (fun x => { x with st := .on, rlost := lost }) s
    let s2 := if lost then journalPower 1 srcDevice d.val (countEv 53 s1) else s1
    if h : d.val < 8 then (if good then engineWake ⟨d.val, h⟩ s2 else engineLost ⟨d.val, h⟩ s2)
    else if d.val < 24 then
      (if off then bankZero (d.val - 8) s2 else if lost then bankPoison (d.val - 8) (bankRlost (d.val - 8) true s2) else s2)
    else if d.val = 24 then (if good then s2 else (List.range 7).foldl (fun t k =>
      match finOf 8 (k + 1) with | some n => engineLost n t | none => t) (loadEcm s2))
    else if d.val = 25 then
      (if s2.xb.st = .fault then s2 else eachFin 33 (fun x t => raiseEgress x t) { s2 with xb := { s2.xb with st := .run } })
    else if h : 26 ≤ d.val ∧ d.val < 30 then fabPortEval ⟨d.val - 26, by omega⟩ s2
    else s2
/-- A wake source occurs (R335, R342): AO_WAKE_LAST, and every domain whose mask enables it. -/
def wakeSource (src : Nat) (s : State) : State :=
  let s1 := { s with ao := { s.ao with wakeLast := BitVec.ofNat 10 (2 ^ src) } }
  eachFin 31 (fun d t => if bit (regv t (0x10104 + 0x10 * d.val)) src then domainUp d t else t) s1
/-- DOMAIN_WAKE: a source enabled in the domain's mask. -/
def domainWake (d : Fin 31) (src : Fin 9) (s : State) : State :=
  if bit (regv s (0x10104 + 0x10 * d.val)) src.val && !domainOn s d then
    domainUp d { s with ao := { s.ao with wakeLast := BitVec.ofNat 10 (2 ^ src.val) } }
  else s

/-! ## Lamplighter patrols (R342, R343) -/

/-- A patrol item can be delivered: the core runs, the engine's domain is ON, and its mailbox takes it. -/
def mailboxTakes (s : State) (n : Fin 8) : Bool :=
  s.start.stage = .run && domainOn s (engDomain n) && !(eng s n).mboxLost && qEn s (mboxOf s n) && qCredit s (mboxOf s n)
/-- Deliver an item, or hold it in AO. -/
def postItem (i : PatrolItem) (s : State) : State :=
  if s.ao.items.isEmpty && mailboxTakes s i.pe then (qEnqueue (mboxOf s i.pe) 64 true true 0 i.bytes false s).2
  else { s with ao := { s.ao with items := s.ao.items ++ [i] } }
/-- Deliver the held items that can be, in order. -/
def postHeld (s : State) : State :=
  let l := s.ao.items
  l.foldl (fun t i =>
    if mailboxTakes t i.pe && !(t.ao.items.any fun j => j.pe = i.pe) then (qEnqueue (mboxOf t i.pe) 64 true true 0 i.bytes false t).2
    else { t with ao := { t.ao with items := t.ao.items ++ [i] } }) { s with ao := { s.ao with items := [] } }
/-- Bytes of a patrol item. -/
def itemBytes (s : State) (kind inst code : Nat) : List Byte :=
  padTo 16 ([toByte kind, toByte inst, toByte code, 0] ++ le32 (s.time.tb.toNat % 2 ^ 32))
/-- DEST of a patrol kind. -/
def patrolDest (s : State) (k : Nat) : Fin 8 := ⟨fld (regv s (0x10040 + 4 * k)) 12 10 % 8, Nat.mod_lt _ (by decide)⟩
/-- A crossing: its item, then its wake. -/
def crossing (kind inst code src : Nat) (pe : Fin 8) (s : State) : State :=
  wakeSource src (postItem { pe := pe, bytes := itemBytes s kind inst code } s)
/-- The crossings of a list that hold. -/
def crossings (l : List (Bool × Nat × Nat)) (kind inst : Nat) (pe : Fin 8) (s : State) : State :=
  l.foldl (fun t x => if x.1 then crossing kind inst x.2.1 x.2.2 pe t else t) s
/-- The last sample of a unit, and its replacement. -/
def sampleOf (s : State) (k : Fin 56) : BitVec 3 := Tbl.get s.ao.sample k
def putSample (k : Fin 56) (v : BitVec 3) (s : State) : State := { s with ao := { s.ao with sample := Tbl.put s.ao.sample k v } }
/-- The engine that serves a port of the link watch. -/
def linkDest (s : State) (p : Fin 27) : Fin 8 := (roleOf s p.val).getD 2
/-- A port is watched (R343): an upstream without VBUS or without a host, or any port in U3, L2 or suspend. -/
def linkWatched (s : State) (p : Fin 27) : Bool :=
  if h : p.val < 24 then (port s (slotEntry ⟨p.val, h⟩)).st == .suspended
  else
    let u : Fin 3 := ⟨p.val - 24, by omega⟩
    !(tree s u).vbus || !hubConfigured s u || (tree s u).susSS || (tree s u).susHS
/-- Bits of a sample. -/
def bits3 (a b c : Bool) : BitVec 3 := BitVec.ofNat 3 (b2n a + 2 * b2n b + 4 * b2n c)
/-- PATROL: one unit wakes, samples and compares. -/
def patrol (u : PatrolSample) (s : State) : State :=
  if s.ao.onVbat then s
  else match u with
  | .slot p vout vin =>
    if (slot s p).st.gateOn then s
    else
      let k : Fin 56 := ⟨p.val, by omega⟩
      let old := sampleOf s k
      let near := decide (vin.toNat ≤ vout.toNat + 100)
      let live := decide (200 ≤ vout.toNat)
      crossings [(near && !old.getLsbD 0, 1, 0), (live && !old.getLsbD 1, 2, 0)] 0 p.val (patrolDest s 0) (putSample k (bits3 near live false) s)
  | .link p term vbus =>
    if !linkWatched s p then s
    else
      let k : Fin 56 := ⟨24 + p.val, by omega⟩
      let old := sampleOf s k
      let up := decide (24 ≤ p.val)
      crossings [(term && !old.getLsbD 0, 1, 2), (!term && old.getLsbD 0, 2, 2), (up && vbus && !old.getLsbD 1, 3, 3), (up && !vbus && old.getLsbD 1, 4, 2)]
        1 p.val (linkDest s p) (putSample k (bits3 term vbus false) s)
  | .fabric f ins sig =>
    if (fport s f).st ≠ .off then s
    else
      let k : Fin 56 := ⟨51 + f.val, by omega⟩
      let old := sampleOf s k
      crossings [(ins && !old.getLsbD 0, 1, 4), (!ins && old.getLsbD 0, 2, 4), (sig && !old.getLsbD 1, 3, 4)] 2 f.val (patrolDest s 2)
        (putSample k (bits3 ins sig false) s)
  | .vin v =>
    if (allFin 24).any fun p => (slot s p).st.gateOn then s
    else
      let s1 := vinPut v s
      let old := sampleOf s 55
      let low := decide (vinMin s1 < vwarn s1)
      let spread := decide (vinMin s1 + 100 < vinMax s1)
      let back := decide (vwarn s1 + 50 ≤ vinMin s1)
      let was := old.getLsbD 2
      crossings [(low && !old.getLsbD 0, 1, 5), (spread && !old.getLsbD 1, 2, 5), (back && was, 3, 5)] 3 0 (patrolDest s1 3)
        (putSample 55 (bits3 low spread (low || (was && !back))) s1)
/-- A change of the seating pins in the AO sample posts an item of kind 4 (R342). The spec gives that kind no crossing
code: a free value (log entry 3). -/
def seatItem (p : Fin 24) (s : State) : State :=
  let x := slot s p
  let v : BitVec 2 := BitVec.ofNat 2 (b2n x.pinA + 2 * b2n x.pinB)
  if Tbl.get s.ao.seatPins p = v then s
  else
    let (n, s1) := { s with ao := { s.ao with seatPins := Tbl.put s.ao.seatPins p v } }.draw
    crossing 4 p.val ((Config.word n).toNat % 256) 1 ((roleOf s 29).getD 1) s1

/-! ## Core voltage (R344 to R346) -/

/-- LINEAR16 code of a voltage in mV. -/
def voutCode (mv : Nat) : Nat := (mv * 4096 + 500) / 1000
/-- Address of the regulator (R29). -/
def pmbAddress (s : State) : Nat := if s.pin.strap.getLsbD 2 then 0x41 else 0x40
/-- The refusal of a voltage request: its status code (R344, R345). -/
def voltRefuse (s : State) (mv : Nat) : Nat := if s.ao.pmBusy then 7 else if mv < 720 ∨ 880 < mv then 5 else 0
/-- A request starts: VOUT_COMMAND is sent. -/
def voltStart (mv : Nat) (s : State) : State :=
  { s with ao := { s.ao with vout := mv, pmBusy := true, pmAck := false, pmTimeout := false } }.emit [.pmbus (pmbAddress s) 0x21 (voutCode mv)]
/-- VOUT_POLL: READ_VOUT and the level of VCORE_PG. -/
def voutPoll (code : Half) (pg : Bool) (s : State) : State :=
  let s1 := { s with ao := { s.ao with pg := pg } }
  let t := voutCode s.ao.vout
  if s.ao.pmBusy && pg && t ≤ code.toNat + 41 && code.toNat ≤ t + 41 then
    { s1 with ao := { s1.ao with pmBusy := false, pmAck := true, vnow := s.ao.vout } }
  else s1
/-- VOLTAGE_REQUEST_TIMEOUT: 5 ms without acknowledgement. -/
def voltTimeout (statusWord : Half) (s : State) : State :=
  if s.ao.pmBusy then
    let s1 := { s with ao := { s.ao with pmBusy := false, pmTimeout := true, statusw := statusWord } }.emit
      [.pmbus (pmbAddress s) 0x03 0, .pmbus (pmbAddress s) 0x21 (voutCode s.ao.vnow)]
    journalPower 3 srcDevice 30 (countEv 55 s1)
  else s

/-! ## Clocks (R347, R348) -/

/-- A write of SEL is refused: PLL without lock, or below the RUN point. -/
def selRefuse (s : State) (pll : Bool) : Bool := pll && (!s.ao.pllLock || s.ao.vnow + 10 < vtarget)
/-- A written SEL waits for the next boundary. -/
def selWrite (pll : Bool) (s : State) : State :=
  { s with ao := { s.ao with selPend := if pll = s.ao.onPll then none else some pll } }
/-- AO_CLK taken: SEL, PLL_EN and FTRIM. -/
def clkTake (v : Word) (s : State) : State :=
  let s1 := selWrite (bit v 0) s
  { s1 with ao := { s1.ao with pllEn := bit v 1, pllLock := s1.ao.pllLock && bit v 1, ftrim := BitVec.ofNat 16 (fld v 31 16) } }
/-- The core moves to a clock (R347, R358): the increment is nominal for it. -/
def clockMove (pll : Bool) (s : State) : State := steerNominal { s with ao := { s.ao with onPll := pll, selPend := none } }
/-- A written SEL takes effect at cycle T. -/
def clockSwitch (s : State) : State := match s.ao.selPend with | some b => clockMove b s | none => s
/-- PLL_LOCK. -/
def pllLock (s : State) : State := if s.ao.pllEn then { s with ao := { s.ao with pllLock := true } } else s
/-- PLL_LOCK_LOSS. -/
def pllLockLoss (s : State) : State :=
  if !s.ao.pllLock then s
  else
    let s1 := { s with ao := { s.ao with pllLock := false, selPend := if s.ao.selPend = some true then none else s.ao.selPend } }
    if s.ao.onPll then journalPower 2 srcDevice 30 (countEv 47 (clockMove false s1)) else s1

end Sys2Proof.Machine
end

