-- ==== Sys2Proof/Machine/Calendar.lean ====
section
/-!
DEFINITION. The calendar and its sources (R353 to R357, R359).
-/

namespace Sys2Proof.Machine

open Sys2Proof

/-- A TIME record (TYPE 0x0B): old and new seconds, and a signed step or uncertainty in ns. -/
def journalTime (sub src : Nat) (old new : Word) (ns : Int) (s : State) : State :=
  journal 11 sub src 0 s.ao.calQual (le32 old.toNat ++ le32 new.toNat ++ leBytes (BitVec.ofInt 64 ns).toNat 8) s
/-- A calendar value in AO periods. -/
def calPeriods (sec : Word) (sub : Nat) : Int := (sec.toNat * 32768 + sub : Nat)
/-- AO takes SEC and SUB: a forward step that reaches or passes the alarm raises it (R357). -/
def calPut (sec : Word) (sub : Nat) (s : State) : State :=
  let old := s.ao.calSec.toNat
  let alarm := s.ao.alarm.toNat
  let s1 := { s with ao := { s.ao with calSec := sec, calSub := sub % 32768 } }
  if alarm ≠ 0 ∧ old < alarm ∧ alarm ≤ sec.toNat then wakeSource 7 { s1 with ao := { s1.ao with alarm := 0 } } else s1
/-- An accepted source corrects the calendar (R356): not by 2 AO periods or less; counted below 1 s; recorded from 1 s
on, and always for a host time write. The quality and AGE follow R355. -/
def calCorrect (host : Bool) (src : Nat) (sec : Word) (sub qual : Nat) (s : State) : State :=
  let d := (calPeriods sec sub - calPeriods s.ao.calSec s.ao.calSub).natAbs
  let old := s.ao.calSec
  let s1 := if d ≤ 2 then s else calPut sec sub s
  let s2 := if 2 < d ∧ d < 32768 then lifeInc 11 s1 else s1
  let s3 := { s2 with ao := { s2.ao with calQual := qual, ageSec := 0 } }
  if host || 32768 ≤ d then journalTime 1 src old s3.ao.calSec 0 s3 else s3
/-- The node takes a fabric source: LOCKED, not the master, one accepted within the last 128 s (R356). -/
def takesFabricTime (s : State) : Bool :=
  s.fab.tst = .locked && (match s.ao.fabTime with | some t => decide (s.time.tb.toNat ≤ t.toNat + 128000000000) | none => false)
/-- A host time write: status and state. -/
def hostTimeWrite (w : Who) (sec : Word) (sub : Nat) (s : State) : Nat × State :=
  let wr := odNum s 0x5401 1
  if wr = 2 ∨ (wr = 1 ∧ !leaseHeldBy s w) ∨ takesFabricTime s then (2, s)
  else
    (0, calCorrect true w.m.val sec sub 0 { s with time := { s.time with tbEst := false } })
/-- FABRIC_TIME_READ: OD 0x5400 sub 3 of the time master. -/
def fabricTimeRead (caltb : DWord) (sec : Word) (qual : Nat) (s : State) : State :=
  if s.fab.tst ≠ .locked ∨ 2 ≤ qual ∨ (qual = 1 ∧ s.ao.calQual = 0) then s
  else
    let p : Int := calPeriods sec 0 + ((s.time.tb.toNat : Int) - caltb.toNat) * 32768 / 1000000000
    let n := p.toNat
    calCorrect false srcDevice (toWord (n / 32768)) (n % 32768) qual { s with ao := { s.ao with fabTime := some s.time.tb } }
/-- CALENDAR_SECOND: AO_CAL_SUB wraps (R353, R355, R358). -/
def calendarSecond (s : State) : State :=
  let s1 := { s with ao := { s.ao with calSec := s.ao.calSec + 1, calSub := 0, ageSec := s.ao.ageSec + 1 } }
  if s1.start.stage = .run then
    let n := s1.jr.onSecs + 1
    let s2 := { s1 with time := { s1.time with calTb := s1.time.tb }, jr := { s1.jr with onSecs := n % 60 } }
    if n = 60 then lifeInc 2 s2 else s2
  else { s1 with ao := { s1.ao with sleep := (s1.ao.sleep + 32768) % 2 ^ 48 } }
/-- CAL_HOLD in hours. -/
def calHold (s : State) : Nat := max 1 (fld (regv s 0x10070) 13 0)
/-- CAL_HOLD_EXPIRED: AGE reaches CAL_HOLD in VALID (R355). -/
def calHoldExpired (s : State) : State :=
  if s.ao.calQual = 0 ∧ calHold s ≤ s.ao.ageSec / 3600 then
    let s1 := countEv 56 { s with ao := { s.ao with calQual := 1 } }
    journalTime 3 srcDevice s1.ao.calSec s1.ao.calSec 0 s1
  else s
/-- CALENDAR_ALARM: AO_CAL_SEC has become equal to the alarm (R357). -/
def calendarAlarm (s : State) : State :=
  if s.ao.alarm ≠ 0 ∧ s.ao.alarm = s.ao.calSec then wakeSource 7 { s with ao := { s.ao with alarm := 0 } } else s
/-- VBAT_CHECK: once per second while V3P3 is present (R354); EV46 when VBATLOW sets. -/
def vbatCheck (mv : Half) (s : State) : State :=
  if s.ao.onVbat then s
  else
    let low := decide (mv.toNat < 2200)
    let s1 := { s with ao := { s.ao with vbatLow := low } }
    if low && !s.ao.vbatLow then countEv 46 s1 else s1

end Sys2Proof.Machine
end

