-- ==== Sys2Proof/Machine/RegWrite.lean ====
section
/-!
DEFINITION. Register and memory accesses of a master: keys, the lease, write-once and reserved fields, shadows, posted
writes, and what a write of each register does (R157, R304 to R317, R324, R325).
-/

namespace Sys2Proof.Machine

open Sys2Proof

/-! ## Keys (R310 to R312) -/

/-- Bit of a master in a mask of masters. -/
def masterBit (m : Fin 16) : BitVec 16 := BitVec.ofNat 16 (2 ^ m.val)
/-- A key write reaches SYS_KEY. -/
def keyIssue (m : Fin 16) (right : Bool) (s : State) : State :=
  if s.regs.locked then s
  else if right then { s with regs := { s.regs with unlock := s.regs.unlock ||| masterBit m, fails := 0 } }
  else
    let n := s.regs.fails + 1
    let s1 := { s with regs := { s.regs with fails := n } }
    if n = 8 then countEv 7 { s1 with regs := { s1.regs with locked := true } } else s1
/-- An unlock is consumed. -/
def unlockUse (m : Fin 16) (s : State) : State := { s with regs := { s.regs with unlock := s.regs.unlock &&& ~~~masterBit m } }
/-- The carrying interface issues the key write it holds (R311). -/
def issueHeld (m : Fin 16) (s : State) : State :=
  if h : m.val < 6 then
    match Tbl.get s.regs.heldKey ⟨m.val, h⟩ with
    | some r => keyIssue m r (clearHeldKey m s)
    | none => s
  else s
/-- A write to SYS_KEY. -/
def keyWrite (m : Fin 16) (v : Word) (s : State) : State :=
  let right := decide (v = 0xA55A3CC3)
  let s1 := unlockUse m (issueHeld m s)
  if h : m.val < 6 then { s1 with regs := { s1.regs with heldKey := Tbl.put s1.regs.heldKey ⟨m.val, h⟩ (some right) } }
  else keyIssue m right s1
/-- KEY_LOCK_END: the lock of 1 s ends. -/
def keyLockEnd (s : State) : State :=
  if s.regs.locked then { s with regs := { s.regs with locked := false, fails := 0 } } else s

/-! ## Held lower words (R308) -/

/-- Hold the lower word of a multi-register value. -/
def holdLow (m : Fin 16) (a : Nat) (v : Word) (s : State) : State :=
  { s with regs := { s.regs with heldLow := { master := m, addr := a, val := v } :: s.regs.heldLow.filter fun h => h.addr ≠ a } }
/-- The held lower word at an address. -/
def heldAt (s : State) (a : Nat) : Option HeldLow := s.regs.heldLow.find? fun h => h.addr = a
/-- Another master wrote the lower word. -/
def heldByOther (s : State) (m : Fin 16) (a : Nat) : Bool := match heldAt s a with | some h => h.master ≠ m | none => false
/-- Take the held lower word: its value, or `v` when none is held. -/
def takeHeld (a : Nat) (v : Word) (s : State) : Word × State :=
  (((heldAt s a).map (·.val)).getD v, { s with regs := { s.regs with heldLow := s.regs.heldLow.filter fun h => h.addr ≠ a } })

/-! ## Posted writes into AO (R325, R345, R348) -/

/-- AO takes a posted value. -/
def aoTake (p : Posted) (s : State) : State :=
  let v := p.val
  match p.addr with
  | 0x10000 => domainCommand p.master (fld v 4 0) (fld v 6 5) s
  | 0x10010 => clkTake v s
  | 0x10020 => voltStart (fld v 9 0) s
  | 0x10054 => let (sub, s1) := takeHeld 0x10050 (toWord s.ao.calSub) s; calPut v (fld sub 14 0) s1
  | 0x10058 => { s with ao := { s.ao with calQual := fld v 1 0, ageSec := if fld v 1 0 = 0 then 0 else s.ao.ageSec } }
  | 0x1005C => { s with ao := { s.ao with alarm := v } }
  | a =>
    let m := if 0x10100 ≤ a then 0x1FF else match regRow a with | some r => r.rw | none => 0
    setReg a (merge (regv s a) v (toWord m)) s
/-- AO_WRITE_TAKEN. -/
def aoWriteTaken (s : State) : State :=
  match s.regs.posted with
  | some p => aoTake p { s with regs := { s.regs with posted := none } }
  | none => s
/-- The masters whose write of AO_DOM_CMD is taken (R335). -/
def domMaster (w : Who) : Bool := w.m.val < 6 || w.m.val = 8
/-- A write of an RP register: status and state. -/
def postedWrite (w : Who) (a : Nat) (v : Word) (s : State) : Nat × State :=
  if a = 0x10000 ∧ !domMaster w then (5, countEv 6 s)
  else if a = 0x10058 ∧ w.m.val < 8 then (0, s)
  else if s.regs.posted.isSome ∨ (a = 0x10020 ∧ s.ao.pmBusy) then (7, countEv 9 s)
  else if a = 0x10050 then (0, holdLow w.m a v s)
  else if a = 0x10054 ∧ heldByOther s w.m 0x10050 then (5, countEv 6 s)
  else if a = 0x10010 ∧ selRefuse s (bit v 0) then (5, s)
  else if a = 0x10020 ∧ voltRefuse s (fld v 9 0) ≠ 0 then (voltRefuse s (fld v 9 0), s)
  else (0, { s with regs := { s.regs with posted := some { addr := a, val := v, master := w.m } } })

/-! ## Registers with an effect of their own -/

/-- A reset command waits for the next boundary; a module reset governs (R384, R386). -/
def resetRequest (r : ResetCmd) (s : State) : State :=
  let keep := match s.start.rstCmd with
    | .module _ => true
    | .image _ => true
    | .core _ => (match r with | .core _ => true | _ => false)
    | .none => false
  if keep then s else { s with start := { s.start with rstCmd := r } }
/-- EVENT_ACK: a write of EV_SEENn (R327). -/
def eventAck (n : Fin 64) (v : Half) (s : State) : State :=
  let c := Tbl.get s.ev.cnt n
  if (c - v).toNat ≤ (c - Tbl.get s.ev.seen n).toNat then
    { s with ev := { s.ev with seen := Tbl.put s.ev.seen n v, ovf := s.ev.ovf &&& ~~~(BitVec.ofNat 64 (2 ^ n.val)) } }
  else s
/-- ADOPT written (R323). -/
def adoptWrite (m : Fin 16) (on : Bool) (s : State) : State :=
  if on then { s with regs := { s.regs with adopt := some m, passAdopts := false } }
  else { s with regs := { s.regs with adopt := none, passAdopts := false } }
/-- A live test control has been changed (R324). -/
def testChanged (m : Fin 16) (s : State) : State :=
  journalConfig 6 m.val objXbar 0 0x40000 (countEv 48 { s with regs := { s.regs with testmod := true } })
/-- XBAR_LS_INJ: GROUP, and GO injects once into a group that exists. -/
def lsInject (v : Word) (s : State) : State :=
  let s1 := setReg 0x40018 (toWord (fld v 5 0)) s
  if bit v 6 then (match finOf 35 (fld v 5 0) with | some g => lockstepMismatch g true s1 | none => s1) else s1
/-- SPW_Sn_CMD: status and state. -/
def slotCommand (w : Who) (p : Fin 24) (v : Word) (s : State) : Nat × State :=
  if bit v 1 ∧ w.m.val < 8 ∧ !commLevel s w then (2, s)
  else
    let s1 := if bit v 0 then lockoutClear w.m.val p s else s
    let s2 := if bit v 1 then fetClear w.m.val p s1 else s1
    let s3 := if bit v 3 then slotForceFw p false s2 else s2
    (0, if bit v 2 then slotForceFw p true s3 else s3)
/-- SPW_Gg_CMD (R202). -/
def groupCommand (g : Fin 4) (v : Word) (s : State) : State :=
  if bit v 0 then groupOpen g s else if bit v 1 then groupClose g s else s
/-- A write of LIMIT (R203). -/
def limitWrite (p : Fin 24) (v : Nat) (s : State) : Nat × State := if limitFits s p v then (0, limitSet p v s) else (5, s)
/-- A change of a channel's or relay's binding: EN opens and closes it (R266). -/
def bindWritten (n : Fin 48) (v : Word) (s : State) : State :=
  let old := bit (regv s (bindAddr n.val)) 0
  let s1 := setReg (bindAddr n.val) v s
  if bit v 0 && !old then chanOpen n s1 else if !bit v 0 && old then chanClose n s1 else s1
/-- SNAP_CTL. -/
def snapCtl (w : Who) (v : Word) (s : State) : State :=
  let s1 := setReg 0xD0000 (v &&& 0x27FE) s
  let s2 := if bit v 11 then snapRelease 0 s1 else s1
  let s3 := if bit v 12 then snapRelease 1 s2 else s2
  if bit v 0 then snapRaise 0 w.m.val s3 else s3
/-- Change a scheduled target. -/
def updTgt (k : Fin 4) (f : SnapTgt → SnapTgt) (s : State) : State := { s with snap := { s.snap with tgt := Tbl.upd s.snap.tgt k f } }
/-- DBG_PEn_CTL: PHOLD, then RESUME, HALT and STEP. A step is carried out by `runSteps`. -/
def dbgCtl (n : Fin 8) (v : Word) (s : State) : State :=
  let m : BitVec 8 := BitVec.ofNat 8 (2 ^ n.val)
  let s1 := { s with dbg := { s.dbg with phold := if bit v 3 then s.dbg.phold ||| m else s.dbg.phold &&& ~~~m } }
  let s2 := if bit v 1 then resume n s1 else s1
  let s3 := if bit v 0 then haltRequest n s2 else s2
  if bit v 2 && (eng s3 n).st = .halted then { s3 with dbg := { s3.dbg with stepping := s3.dbg.stepping ||| m } } else s3
/-- A debug register of an engine, by its offset. -/
def dbgWrite (n : Fin 8) (off a : Nat) (v : Word) (mask : Word) (s : State) : State :=
  match off with
  | 0x00 => dbgCtl n v s
  | 0x04 => if (eng s n).st = .halted then updEng n (fun e => { e with pc := v }) s else s
  | 0x0C =>
    let r := fld (regv s (0xE0108 + 0x40 * n.val)) 3 0
    if (eng s n).st = .halted ∧ r ≠ 0 then
      (match finOf 16 r with | some k => updEng n (fun e => { e with regs := Tbl.put e.regs k v }) s | none => s)
    else s
  | _ => setReg a (merge (regv s a) v mask) s
/-- Engine control and status registers, by their offset. -/
def peWrite (w : Who) (n : Fin 8) (off : Nat) (v : Word) (s : State) : State :=
  match off with
  | 0x00 =>
    let s1 := if bit v 0 then holdSet n w.m.val s else if engHold s n then holdClear n s else s
    if bit v 1 then engineResetIf n 5 w.m.val s1 else s1
  | 0x08 => if bit v 7 then s else updEng n (fun e => { e with busErr := false }) s
  | 0x14 => if w.m.val = 8 ∨ w.m.val = 5 then updEng n (fun e => { e with isig := v }) s else countEv 6 s
  | _ => s
/-- SYS_RSTINFO, written by PE0 alone. -/
def rstInfoWrite (w : Who) (v : Word) (s : State) : State :=
  if w.m.val = 8 then
    { s with start := { s.start with image := bit v 8, fallback := bit v 9, unclean := bit v 10, defaults := bit v 11, phase := fld v 19 16 } }
  else countEv 6 s

/-- SYS registers that act when written: none where the register is a stored one. -/
def writeSys (w : Who) (a : Nat) (v : Word) (s : State) : Option (Nat × State) :=
  if a < 0x800 then
    match a with
    | 0x20 => some (0, portsSettle (applyGroups (BitVec.ofNat 16 v.toNat) s))
    | 0x24 => some (0, armWrite (BitVec.ofNat 16 v.toNat) (BitVec.ofNat 16 (v.toNat / 65536)) s)
    | 0x34 => some (0, setReg 0x34 (v &&& 3) { s with regs := { s.regs with wlockWritten := true } })
    | 0x40 => some (if fld v 1 0 = 0 then (0, s) else leaseAction w (fld v 1 0) s)
    | 0x50 => some (0, { s with regs := { s.regs with shaddr := v &&& 0xFFFFFFFC } })
    | 0x60 => some (0, if fld v 1 0 = 1 then resetRequest (.module w.m) s else if fld v 1 0 = 2 then resetRequest (.core w.m) s else s)
    | 0x64 => some (0, rstInfoWrite w v s)
    | 0x108 => some (0, adoptWrite w.m (bit v 0) s)
    | _ => none
  else if a < 0x900 then (finOf 8 ((a - 0x800) / 0x20)).map fun n => (0, peWrite w n (a % 0x20) v s)
  else (famFin 0x1100 4 64 a).map fun n => (0, eventAck n (BitVec.ofNat 16 v.toNat) s)
/-- ARB, QM, XBAR and USBP registers that act when written. -/
def writeCore (w : Who) (a : Nat) (v : Word) (s : State) : Option (Nat × State) :=
  if a < 0x30000 then
    match famFin 0x20200 4 16 a with
    | some k => some (0, maxWaitReset ⟨k.val, by omega⟩ s)
    | none => (famFin 0x20300 4 33 a).map fun k => (0, maxWaitReset ⟨16 + k.val, by omega⟩ s)
  else if a < 0x40000 then
    match famFin 0x30018 0x40 64 a with
    | some q => some (0, queueCommand q v s)
    | none => (famFin 0x30024 0x40 64 a).map fun q => (0, wmCrossWrite q (fld v 7 0) s)
  else if a = 0x40018 then some (0, lsInject v s)
  else if a = 0x57204 then some (0, foCommand w.m (fld v 2 0) s)
  else (famFin 0x50024 0x400 24 a).map fun p => (0, if bit v 0 then babblerAck p s else s)
/-- SPW registers that act when written. -/
def writeSpw (w : Who) (a : Nat) (v : Word) (s : State) : Option (Nat × State) :=
  match famFin 0x80004 0x100 24 a with
  | some p => some (limitWrite p (fld v 5 0) s)
  | none => match famFin 0x80028 0x100 24 a with
    | some p => some (0, updSlot p (fun x => { x with tpeak := x.tmodel }) s)
    | none => match famFin 0x80030 0x100 24 a with
      | some p => some (slotCommand w p v s)
      | none => (famFin 0x83004 0x40 4 a).map fun g => (0, groupCommand g v s)
/-- FAB and XPT registers that act when written. -/
def writeNet (a : Nat) (v : Word) (s : State) : Option (Nat × State) :=
  if a = 0x90020 then some (0, if bit v 0 then routeSwap s else s)
  else if 0x98000 ≤ a ∧ a < 0xA0000 then (famIndex 0x98000 4 4096 a).map fun m => (0, routePut m (v &&& 0xFFFF3F7F) s)
  else match famFin 0xA0100 0x20 16 a with
    | some n => some (0, bindWritten ⟨n.val, by omega⟩ (v &&& 0x3FFFF7) s)
    | none => (famFin 0xA0400 0x10 32 a).map fun n => (0, bindWritten ⟨16 + n.val, by omega⟩ (v &&& 0x3FFFF3) s)
/-- SNAP registers that act when written. -/
def writeSnap (w : Who) (a : Nat) (v : Word) (s : State) : Option (Nat × State) :=
  if a = 0xD0000 then some (0, snapCtl w v s)
  else match famFin 0xD0010 0x10 4 a with
    | some _ => some (0, holdLow w.m a v s)
    | none => match famFin 0xD0014 0x10 4 a with
      | some k =>
        if heldByOther s w.m (a - 4) then some (5, countEv 6 s)
        else
          let (l, s1) := takeHeld (a - 4) (lo32 (Tbl.get s.snap.tgt k).target) s
          some (0, updTgt k (fun t => { t with target := BitVec.ofNat 64 (v.toNat * 2 ^ 32 + l.toNat) }) s1)
      | none => match famFin 0xD0018 0x10 4 a with
        | some k => some (0, updTgt k (fun t => { t with id := v }) s)
        | none => (famFin 0xD001C 0x10 4 a).map fun k => (0, updTgt k (fun t => { t with armed := bit v 0 }) s)
/-- DBG registers that act when written. -/
def writeDbg (a : Nat) (v mask : Word) (s : State) : Option (Nat × State) :=
  if a < 0xE0100 then none else (finOf 8 ((a - 0xE0100) / 0x40)).map fun n => (0, dbgWrite n ((a - 0xE0100) % 0x40) a v mask s)
/-- A direct write of a register: its effect, or its value under the mask of its written fields. -/
def writeDirect (w : Who) (a : Nat) (v mask : Word) (s : State) : Nat × State :=
  let x :=
    if a < 0x10000 then writeSys w a v s
    else if a < 0x80000 then writeCore w a v s
    else if a < 0x90000 then writeSpw w a v s
    else if a < 0xB0000 then writeNet a v s
    else if a < 0xE0000 then writeSnap w a v s
    else writeDbg a v mask s
  x.getD (0, setReg a (merge (regv s a) v mask) s)

/-! ## Shadows (R315) -/

/-- Write the shadow of a register, with its writer tag. -/
def writeShadow (m : Fin 16) (a : Nat) (v mask : Word) (s : State) : State :=
  let x : Shadow := { addr := a, val := merge (shadowValue s a) v mask, writer := m, refused := false }
  { s with regs := { s.regs with shadows := s.regs.shadows.filter (fun h => h.addr ≠ a) ++ [x] } }

/-! ## The register write path -/

/-- Registers that a master may write without the lease (R309). -/
def leaseFree (a : Nat) : Bool := a = 0x10 || a = 0x40 || a = 0x50 || (0x1100 ≤ a && a < 0x1200)
/-- The lease check of R309. -/
def leaseLacks (s : State) (w : Who) (a : Nat) : Bool := w.m.val < 8 && !leaseHeldBy s w && !leaseFree a
/-- Write a register: `un` tells whether the master's unlock is in force. -/
def writeRow (w : Who) (r : RegRow) (a : Nat) (v : Word) (un : Bool) (s : State) : Nat × State :=
  if leaseLacks s w a then (3, s)
  else if r.key && !un then (4, countEv 7 s)
  else if a = 0x34 && s.regs.wlockWritten then (0, countEv 7 s)
  else
    let bad := decide (v.toNat &&& r.rv ≠ 0)
    let s1 := if !bad then s else if a = 0x40018 then testChanged w.m s else countEv 6 s
    if r.posted then postedWrite w a v s1
    else if r.rs ≠ 0 then (0, writeShadow w.m a v (toWord r.rs) s1)
    else writeDirect w a v (toWord r.rw) s1

/-! ## Memories in the register space (R157, R304) -/

/-- What lies at an address. -/
inductive Place where
  | reg (r : RegRow)
  /-- IRAM (`dram` false) or DRAM of an engine -/
  | engine (n : Fin 8) (dram : Bool)
  | ecm
  /-- packet memory window: byte offset -/
  | window (off : Nat)
  | hole
deriving DecidableEq, Repr

/-- The place of an address. -/
def placeOf (a : Nat) : Place :=
  if 0x100000 ≤ a ∧ a < 0x200000 then .engine ⟨(a - 0x100000) / 0x20000 % 8, Nat.mod_lt _ (by decide)⟩ (decide (0x10000 ≤ (a - 0x100000) % 0x20000))
  else if 0x200000 ≤ a ∧ a < 0x240000 then .ecm
  else if 0x1000000 ≤ a ∧ a < 0x1400000 then .window (a - 0x1000000)
  else match regRow (a / 4 * 4) with
    | some r => .reg r
    | none => .hole
/-- Domain whose supply a memory needs. -/
def Place.domain : Place → Option (Fin 31)
  | .engine n _ => some (engDomain n)
  | .ecm => some 24
  | .reg _ | .window _ | .hole => none
/-- A memory is readable: its domain is ON. -/
def Place.readable (p : Place) (s : State) : Bool := match p.domain with | some d => domainOn s d | none => true
/-- A write through the global address is accepted by its target (R157). -/
def memMay (s : State) (w : Who) (p : Place) : Bool :=
  match p with
  | .engine n false => (eng s n).st = .reset
  | .engine n true => w.m.val = 8 || w.m.val = 5 || (eng s n).st = .reset
  | .ecm | .reg _ | .window _ | .hole => true
/-- A 32-bit write at a global address: status and state. -/
def writeAt (w : Who) (a : Nat) (v : Word) (un : Bool) (s : State) : Nat × State :=
  match placeOf a with
  | .hole => (5, countEv 6 s)
  | p =>
    if a % 4 ≠ 0 then (6, countEv 6 s)
    else match p with
      | .reg r => writeRow w r a v un s
      | .window off =>
        if leaseLacks s w a then (3, s)
        else
          let (no, s1) := windowWrite off v (bit (regv s 0x34) 1) s
          (if no then 5 else 0, s1)
      | .engine n d =>
        if leaseLacks s w a then (3, s)
        else if !memMay s w (.engine n d) then (5, countEv 6 s)
        else if !Place.readable (.engine n d) s then (5, s)
        else (0, memWrite a (le32 v.toNat) s)
      | .ecm =>
        if leaseLacks s w a then (3, s)
        else if !Place.readable .ecm s then (5, s)
        else (0, memWrite a (le32 v.toNat) s)
      | .hole => (5, s)
/-- A 32-bit write of a master at a global address (R310, R311): status and state. -/
def writeReg (w : Who) (a : Nat) (v : Word) (s : State) : Nat × State :=
  if a = 0x10 then (0, keyWrite w.m v s)
  else
    let s1 := issueHeld w.m s
    let un := s1.regs.unlock.getLsbD w.m.val
    writeAt w a v un (unlockUse w.m s1)
/-- A 32-bit read of a master at a global address: status, value and state. -/
def readAt (a : Nat) (s : State) : Nat × Word × State :=
  match placeOf a with
  | .hole => (5, 0, countEv 6 s)
  | p =>
    if a % 4 ≠ 0 then (6, 0, countEv 6 s)
    else match p with
      | .reg _ => (0, readReg s a, s)
      | .window off =>
        let (v, bad, s1) := windowRead off s
        (if bad then 5 else 0, v, s1)
      | .engine n d => if Place.readable (.engine n d) s then (0, BitVec.ofNat 32 (memNum s a 4), s) else (5, 0, s)
      | .ecm => if Place.readable .ecm s then (0, BitVec.ofNat 32 (memNum s a 4), s) else (5, 0, s)
      | .hole => (5, 0, s)

/-! ## Configuration checksum (R320 to R323) -/

/-- The registers a pass covers, in ascending address order. -/
def crcAddrs : List Nat :=
  (regsSys ++ regsAo ++ regsArb ++ regsQm ++ regsXbar ++ regsUsbp ++ regsSpw ++ regsFab ++ regsXpt ++ regsCan ++ regsTime ++ regsSnap ++ regsDbg).flatMap
    fun r => if r.crc = 0 then [] else (List.range r.count).map fun k => r.base + r.stride * k
/-- Insertion into an ascending list. -/
def insertAsc (n : Nat) : List Nat → List Nat
  | [] => [n]
  | k :: l => if n ≤ k then n :: k :: l else k :: insertAsc n l
/-- A list in ascending order. -/
def sortAsc (l : List Nat) : List Nat := l.foldr insertAsc []
/-- Result of a pass over the active values. -/
def passResult (s : State) : Word :=
  crc32c ((sortAsc crcAddrs).flatMap fun a => le32 ((regv s a).toNat &&& crcMask a))
/-- CRC_PASS_COMPLETE: a pass ends and a new one starts. An adopted pass gives the reference. -/
def crcPassComplete (s : State) : State :=
  let r := passResult s
  let s0 := { s with regs := { s.regs with crcCur := r, stale := false, passes := sat16 s.regs.passes } }
  let s1 := if s.regs.passAdopts && s.regs.adopt.isSome then
      setReg 0x100 r { s0 with regs := { s0.regs with adopt := none, passAdopts := false } }
    else s0
  let s2 :=
    if r = regv s1 0x100 then { s1 with regs := { s1.regs with matched := true, miss := 0 } }
    else
      let n := s1.regs.miss
      let t := { s1 with regs := { s1.regs with matched := false, miss := min 255 (n + 1) } }
      if n = 1 then journalConfig 5 srcDevice 0 0 0 (countEv 1 t) else t
  passStart s2
/-- CRC_STALE: no pass has completed for 100 ms. -/
def crcStale (s : State) : State := { s with regs := { s.regs with stale := true } }

end Sys2Proof.Machine
end

