-- ==== Sys2Proof/Machine/EngAccess.lean ====
section
/-!
DEFINITION. What an engine's instruction reaches: fetch, loads and stores by engine address, atomics, watchpoints,
exceptions, and the frame every instruction runs in (R155 to R159, R172 to R177, R399).
-/

namespace Sys2Proof.Machine

open Sys2Proof

/-! ## Outcomes -/

/-- What a part of an instruction gives: a value, or an exception with CAUSE, MEM and WORD of SYS_PEn_FAULT. -/
inductive Res (α : Type) where
  | ok (a : α) (s : State)
  | exc (cause mem word : Nat) (s : State)

/-- Go on with the value, unless an exception has been raised. -/
def Res.bind {α β : Type} (r : Res α) (f : α → State → Res β) : Res β :=
  match r with
  | .ok a s => f a s
  | .exc c m w s => .exc c m w s

/-- CAUSE codes of SYS_PEn_FAULT. -/
def excIllegal : Nat := 1
def excMisaligned : Nat := 2
def excAccess : Nat := 3
def excRange : Nat := 4
def excEcc : Nat := 5

/-- Write a general register; g0 ignores writes (R155). -/
def putReg (n : Fin 8) (r : Fin 16) (v : Word) (s : State) : State :=
  if r.val = 0 then s else updEng n (fun e => { e with regs := Tbl.put e.regs r v }) s

/-! ## The engine address map (R156) -/

/-- Where an engine address lies. -/
inductive Reach where
  /-- engine memory: global address, MEM code, byte offset in its memory -/
  | mem (a : Nat) (kind : Nat) (off : Nat)
  | rom (off : Nat)
  /-- global address space -/
  | glob (a : Nat)
  | none
deriving DecidableEq, Repr

/-- The place of an engine address. -/
def reach (n : Fin 8) (a : Nat) : Reach :=
  if a < 0x10000 then .mem (iramBase n + a) 0 a
  else if a < 0x20000 then .mem (dramBase n + (a - 0x10000)) 1 (a - 0x10000)
  else if a < 0x60000 then .mem (ecmBase + (a - 0x20000)) 2 (a - 0x20000)
  else if 0x80000 ≤ a ∧ a < 0x88000 then .rom (a - 0x80000)
  else if 0x80000000 ≤ a ∧ a < 0x82000000 then .glob (a - 0x80000000)
  else .none
/-- Every byte of a range may be loaded. -/
def loadable (a len : Nat) : Bool :=
  a + len ≤ 0x60000 || (0x80000 ≤ a && a + len ≤ 0x88000) || (0x80000000 ≤ a && a + len ≤ 0x82000000)
/-- Every byte of a range may be stored to. -/
def storable (a len : Nat) : Bool :=
  (0x10000 ≤ a && a + len ≤ 0x60000) || (0x80000000 ≤ a && a + len ≤ 0x82000000)
/-- A byte at a local engine address. -/
def localByte (s : State) (n : Fin 8) (a : Nat) : Byte :=
  match reach n a with
  | .mem g _ _ => memByte s g
  | .rom off => Config.bootRom (BitVec.ofNat 15 off)
  | .glob _ | .none => 0
/-- Master of the global port of an engine. -/
def engWho (n : Fin 8) : Who := { m := engMaster n, node := 0 }
/-- A global access of an engine received an error response (R173). -/
def busErr (n : Fin 8) (s : State) : State := updEng n (fun e => { e with busErr := true }) s

/-! ## SECDED (R158) -/

/-- A corrected error. -/
def eccSingle (n : Fin 8) (s : State) : State := countEv 3 (updEng n (fun e => { e with ecc1 := min 0xFFFF (e.ecc1 + 1) }) s)
/-- A double error found through the global space. -/
def eccDouble (n : Fin 8) (s : State) : State := countEv 6 (updEng n (fun e => { e with ecc2 := min 255 (e.ecc2 + 1) }) s)
/-- The engine's own read of a word at a local address. -/
def eccLocal (n : Fin 8) (e : Ecc) (a : Nat) (s : State) : Res Unit :=
  match reach n a with
  | .mem _ kind off =>
    (match e with
     | .none => .ok () s
     | .single => .ok () (eccSingle n s)
     | .double => .exc excEcc kind (off / 4) s)
  | .rom _ | .glob _ | .none => .ok () s
/-- Whether a read of an engine memory through the global space by engine `n` is answered with its data. -/
def eccGlobal (n : Fin 8) (e : Ecc) (a : Nat) (s : State) : Bool × State :=
  match placeOf a with
  | .engine k _ => (match e with | .none => (true, s) | .single => (true, eccSingle k s) | .double => (false, eccDouble k s))
  | .ecm => (match e with | .none => (true, s) | .single => (true, eccSingle n s) | .double => (false, eccDouble 0 s))
  | .reg _ | .window _ | .hole => (true, s)

/-! ## Loads and stores -/

/-- Words of the global space from an address; a word whose access is answered with an error reads 0. -/
def globWords (n : Fin 8) (e : Ecc) (a : Nat) : Nat → State → List Byte × State
  | 0, s => ([], s)
  | k + 1, s =>
    let (good, s1) := eccGlobal n e a s
    let (code, v, s2) := if good then readAt a s1 else (5, 0, s1)
    let s3 := if code = 0 then s2 else busErr n s2
    let (l, s4) := globWords n .none (a + 4) k s3
    (le32 (if code = 0 then v.toNat else 0) ++ l, s4)
/-- Load `len` bytes. A load through the global space is cut from the words that hold it (R306). -/
def engLoad (n : Fin 8) (e : Ecc) (a len : Nat) (s : State) : Res (List Byte) :=
  if !loadable a len then .exc excAccess 0 0 s
  else match reach n a with
    | .glob g =>
      let (l, s1) := globWords n e (g / 4 * 4) ((g % 4 + len + 3) / 4) s
      .ok ((l.drop (g % 4)).take len) s1
    | .mem .. | .rom _ | .none =>
      (eccLocal n e a s).bind fun _ t => .ok ((List.range len).map fun k => localByte t n (a + k)) t
/-- Store one word, or the lanes `bs` of it from byte `o`, through the global space: status and state. A narrow write to
a register is discarded (R306). -/
def globWord (n : Fin 8) (e : Ecc) (a o : Nat) (bs : List Byte) (s : State) : Nat × State :=
  if bs.length = 4 then writeReg (engWho n) a (toWord (ofLe bs)) s
  else match placeOf a with
    | .reg _ => (0, countEv 6 s)
    | .hole => (5, countEv 6 s)
    | .engine .. | .ecm | .window _ =>
      let (good, s1) := eccGlobal n e a s
      let (code, v, s2) := if good then readAt a s1 else (5, 0, s1)
      if code = 0 then
        let old := le32 v.toNat
        writeReg (engWho n) a (toWord (ofLe (old.take o ++ bs ++ old.drop (o + bs.length)))) s2
      else (code, s2)
/-- Store bytes through the global space, word by word. -/
def globStore (n : Fin 8) (e : Ecc) (a : Nat) (bs : List Byte) : Nat → State → State
  | 0, s => s
  | k + 1, s =>
    if bs.isEmpty then s
    else
      let o := a % 4
      let m := min bs.length (4 - o)
      let (code, s1) := globWord n e (a - o) o (bs.take m) s
      globStore n .none (a + m) (bs.drop m) k (if code = 0 then s1 else busErr n s1)
/-- Write bytes at local engine addresses. -/
def localWrite (n : Fin 8) (a : Nat) : List Byte → State → State
  | [], s => s
  | b :: l, s =>
    localWrite n (a + 1) l (match reach n a with | .mem g _ _ => memPut g b s | .rom _ | .glob _ | .none => s)
/-- Store bytes. A store narrower than its words reads and merges them, and finds their errors (R158). -/
def engStore (n : Fin 8) (e : Ecc) (a : Nat) (bs : List Byte) (s : State) : Res Unit :=
  if !storable a bs.length then .exc excAccess 0 0 s
  else match reach n a with
    | .glob g => .ok () (globStore n e g bs (bs.length + 1) s)
    | .mem .. | .rom _ | .none =>
      let narrow := a % 4 ≠ 0 || bs.length % 4 ≠ 0
      (eccLocal n (if narrow then e else .none) a s).bind fun _ t => .ok () (localWrite n a bs t)

/-! ## Breakpoints and watchpoints (R399) -/

/-- DBG_PEn_IBPk matches an instruction address. -/
def ibpHit (s : State) (n : Fin 8) (pc : Word) : Bool :=
  (List.range 4).any fun k =>
    let v := regv s (0xE0110 + 0x40 * n.val + 4 * k)
    bit v 0 && fld v 31 2 = pc.toNat / 4
/-- DBG_PEn_DWPk matches a completed access. -/
def dwpHit (s : State) (n : Fin 8) (store : Bool) (a : Nat) : Bool :=
  (List.range 2).any fun k =>
    let ad := regv s (0xE0120 + 0x40 * n.val + 8 * k)
    let c := regv s (0xE0124 + 0x40 * n.val + 8 * k)
    let m := 2 ^ min 31 (fld c 15 8)
    bit c 0 && bit c (if store then 2 else 1) && ad.toNat / m = a / m
/-- The engine halts after an access that a watchpoint matches. -/
def watch (n : Fin 8) (store : Bool) (a : Nat) (s : State) : State := if dwpHit s n store a then haltNow n s else s

/-! ## The frame of an instruction (R162, R172, R177) -/

/-- The engine executes instructions now. -/
def EngS.executes (e : EngS) : Bool :=
  (e.st = .init || e.st = .tick || e.st = .handler) && (match e.sleep with | .awake => true | .waitg | .twait _ => false)
/-- An exception: FAULT and FPC record it and the engine is reset with cause EXCEPTION, or ECC (R177). -/
def exception (n : Fin 8) (cause mem word : Nat) (pc : Word) (s : State) : State :=
  let s1 := updEng n (fun e => { e with fault := pk [(cause, 0, 4), (mem, 4, 2), (word, 16, 16)], fpc := pc }) s
  engineReset n (if cause = excEcc then 3 else 4) srcDevice s1
/-- The checks of a fetch at an address (R156, R158, R172). -/
def fetchAt (n : Fin 8) (e : Ecc) (pc : Word) (s : State) : Res Unit :=
  let a := pc.toNat
  if a % 4 ≠ 0 then .exc excMisaligned 0 0 s
  else if a < 0x10000 then eccLocal n e a s
  else if n.val = 0 && 0x80000 ≤ a && a < 0x88000 then .ok () s
  else .exc excAccess 0 0 s
/-- A breakpoint halts before its instruction, unless it is passed once; an exception governs over it (R399, R402). -/
def breaks (s : State) (n : Fin 8) (pc : Word) : Bool := ibpHit s n pc && !s.dbg.pass.getLsbD n.val
/-- One instruction of an engine: fetch, breakpoint, then its operation with the PC moved on to the next word. An operation
is given the instruction's own address. -/
def issue (a : At) (op : Word → State → Res Unit) (s : State) : State :=
  let n := a.pe
  if !(eng s n).executes then s
  else
    let pc := (eng s n).pc
    match fetchAt n a.fetch pc s with
    | .exc c m w t => exception n c m w pc t
    | .ok _ t =>
      if breaks t n pc then haltNow n t
      else
        let t1 := updEng n (fun e => { e with pc := pc + 4 })
          { t with dbg := { t.dbg with pass := t.dbg.pass &&& ~~~(BitVec.ofNat 8 (2 ^ n.val)) } }
        match op pc t1 with
        | .ok _ u => u
        | .exc c m w u => exception n c m w pc u

end Sys2Proof.Machine
end

