-- ==== Sys2Proof/Machine/EngInstr.lean ====
section
/-!
DEFINITION. The operations of the engine instructions: arithmetic, memory, control flow and engine control (R172, R173).
-/

namespace Sys2Proof.Machine

open Sys2Proof

/-- An operation of an engine instruction: given the instruction's own address, in the state with the PC moved on. -/
abbrev EngOp := Word → State → Res Unit

/-! ## Arithmetic -/

/-- rd gets a value. -/
def giveReg (n : Fin 8) (rd : Fin 16) (v : Word) (s : State) : Res Unit := .ok () (putReg n rd v s)
/-- rd gets `f` of ra and rb. -/
def aluR (f : Word → Word → Word) (a : At) (rd ra rb : Fin 16) : EngOp := fun _ s =>
  giveReg a.pe rd (f (greg s a.pe ra) (greg s a.pe rb)) s
/-- rd gets `f` of ra and a 32-bit operand. -/
def aluI (f : Word → Word → Word) (a : At) (rd ra : Fin 16) (v : Word) : EngOp := fun _ s =>
  giveReg a.pe rd (f (greg s a.pe ra) v) s
/-- Shift distance: bits [4:0]. -/
def shiftBits (v : Word) : Nat := v.toNat % 32
/-- The shifts. -/
def shl (x v : Word) : Word := x <<< shiftBits v
def shr (x v : Word) : Word := x >>> shiftBits v
def sar (x v : Word) : Word := x.sshiftRight (shiftBits v)
/-- 1 for a comparison that holds. -/
def flag (b : Bool) : Word := if b then 1 else 0
/-- High half of the unsigned product. -/
def mulHigh (x y : Word) : Word := toWord (x.toNat * y.toNat / 2 ^ 32)
/-- Immediates: sign-extended, zero-extended. -/
def simm (i : BitVec 18) : Word := i.signExtend 32
def zimm (i : BitVec 18) : Word := i.setWidth 32

def opAdd := aluR (fun x y => x + y)
def opSub := aluR (fun x y => x - y)
def opAnd := aluR (fun x y => x &&& y)
def opOr := aluR (fun x y => x ||| y)
def opXor := aluR (fun x y => x ^^^ y)
def opSll := aluR shl
def opSrl := aluR shr
def opSra := aluR sar
def opSlt := aluR (fun x y => flag (x.slt y))
def opSltu := aluR (fun x y => flag (x.ult y))
def opMul := aluR (fun x y => x * y)
def opMulhu := aluR mulHigh
def opAddi (a : At) (rd ra : Fin 16) (i : BitVec 18) : EngOp := aluI (fun x y => x + y) a rd ra (simm i)
def opAndi (a : At) (rd ra : Fin 16) (i : BitVec 18) : EngOp := aluI (fun x y => x &&& y) a rd ra (zimm i)
def opOri (a : At) (rd ra : Fin 16) (i : BitVec 18) : EngOp := aluI (fun x y => x ||| y) a rd ra (zimm i)
def opXori (a : At) (rd ra : Fin 16) (i : BitVec 18) : EngOp := aluI (fun x y => x ^^^ y) a rd ra (zimm i)
def opSlli (a : At) (rd ra : Fin 16) (i : BitVec 18) : EngOp := aluI shl a rd ra (zimm i)
def opSrli (a : At) (rd ra : Fin 16) (i : BitVec 18) : EngOp := aluI shr a rd ra (zimm i)
def opSrai (a : At) (rd ra : Fin 16) (i : BitVec 18) : EngOp := aluI sar a rd ra (zimm i)
def opSlti (a : At) (rd ra : Fin 16) (i : BitVec 18) : EngOp := aluI (fun x y => flag (x.slt y)) a rd ra (simm i)
/-- HIMM: imm18 in [31:14], ra[13:0] below. -/
def opHimm (a : At) (rd ra : Fin 16) (i : BitVec 18) : EngOp := aluI (fun x y => (y <<< 14) ||| (x &&& 0x3FFF)) a rd ra (zimm i)

/-! ## Loads, stores, atomics -/

/-- Address of a load or store. -/
def dataAddr (s : State) (a : At) (ra : Fin 16) (i : BitVec 18) : Nat := (greg s a.pe ra + simm i).toNat
/-- A load of `len` bytes; `ext` widens its value. -/
def loadOp (len : Nat) (ext : Nat → Word) (a : At) (rd ra : Fin 16) (i : BitVec 18) : EngOp := fun _ s =>
  let ad := dataAddr s a ra i
  if ad % len ≠ 0 then .exc excMisaligned 0 0 s
  else (engLoad a.pe a.data ad len s).bind fun b t => .ok () (watch a.pe false ad (putReg a.pe rd (ext (ofLe b)) t))
/-- A store of the low `len` bytes of rd. -/
def storeOp (len : Nat) (a : At) (rd ra : Fin 16) (i : BitVec 18) : EngOp := fun _ s =>
  let ad := dataAddr s a ra i
  if ad % len ≠ 0 then .exc excMisaligned 0 0 s
  else (engStore a.pe a.data ad (leBytes (greg s a.pe rd).toNat len) s).bind fun _ t => .ok () (watch a.pe true ad t)
/-- An atomic on the ECM word at ra: rd gets the old value, the word `f` of it and rb (R159). Outside ECM it is an
exception. -/
def atomicOp (f : Word → Word → Word) (a : At) (rd ra rb : Fin 16) : EngOp := fun _ s =>
  let ad := (greg s a.pe ra).toNat
  if ad % 4 ≠ 0 then .exc excMisaligned 0 0 s
  else if ad < 0x20000 || 0x60000 ≤ ad then .exc excAccess 0 0 s
  else (engLoad a.pe a.data ad 4 s).bind fun b t =>
    let old := toWord (ofLe b)
    (engStore a.pe .none ad (le32 (f old (greg s a.pe rb)).toNat) t).bind fun _ u =>
      let v := putReg a.pe rd old u
      .ok () (if dwpHit v a.pe false ad then haltNow a.pe v else watch a.pe true ad v)

def opLw := loadOp 4 toWord
def opLh := loadOp 2 (fun n => (BitVec.ofNat 16 n).signExtend 32)
def opLhu := loadOp 2 toWord
def opLb := loadOp 1 (fun n => (BitVec.ofNat 8 n).signExtend 32)
def opLbu := loadOp 1 toWord
def opSw := storeOp 4
def opSh := storeOp 2
def opSb := storeOp 1
def opSwap := atomicOp (fun _ y => y)
def opFadd := atomicOp (fun x y => x + y)

/-! ## Branches and jumps -/

/-- The PC becomes a target. -/
def setPc (n : Fin 8) (pc : Word) (s : State) : State := updEng n (fun e => { e with pc := pc }) s
/-- A branch by a word offset from its own address when `f` of ra and rb holds. -/
def branchOp (f : Word → Word → Bool) (a : At) (ra rb : Fin 16) (off : BitVec 18) : EngOp := fun pc s =>
  .ok () (if f (greg s a.pe ra) (greg s a.pe rb) then setPc a.pe (pc + (off.signExtend 32) * 4) s else s)
def opBeq := branchOp (fun x y => x == y)
def opBne := branchOp (fun x y => x != y)
def opBlt := branchOp (fun x y => x.slt y)
def opBge := branchOp (fun x y => !x.slt y)
def opBltu := branchOp (fun x y => x.ult y)
def opBgeu := branchOp (fun x y => !x.ult y)
def opJ (a : At) (off : BitVec 26) : EngOp := fun pc s => .ok () (setPc a.pe (pc + (off.signExtend 32) * 4) s)
def opJal (a : At) (off : BitVec 26) : EngOp := fun pc s =>
  .ok () (setPc a.pe (pc + (off.signExtend 32) * 4) (putReg a.pe 15 (pc + 4) s))
/-- JALR: the target is taken from ra before rd is written, its bits [1:0] cleared. -/
def opJalr (a : At) (rd ra : Fin 16) (i : BitVec 18) : EngOp := fun pc s =>
  .ok () (setPc a.pe ((greg s a.pe ra + simm i) &&& 0xFFFFFFFC) (putReg a.pe rd (pc + 4) s))

/-! ## Engine control -/

/-- TEND: the restart code ends, or the tick program ends (R162 to R164); `next` lets a pending run start. -/
def tendOp (next : Bool) (a : At) : EngOp := fun _ s =>
  let e := eng s a.pe
  match e.st with
  | .init => .ok () (engineReturn a.pe s)
  | .tick =>
    let s1 := updEng a.pe (fun e => { e with st := .idle, ovrSeq := if e.overrun then e.ovrSeq else 0 }) s
    .ok () (if e.entry && next then startTick a.pe e.entryLate s1 else s1)
  | .reset | .check | .idle | .handler | .halted => .exc excIllegal 0 0 s
def opTend (a : At) (_rd _ra _rb : Fin 16) : EngOp := tendOp true a
/-- RETH ends a handler. -/
def opReth (a : At) (_rd _ra _rb : Fin 16) : EngOp := fun _ s =>
  match (eng s a.pe).st with
  | .handler => .ok () (updEng a.pe (fun e => { e with st := .idle }) s)
  | .reset | .check | .init | .idle | .tick | .halted => .exc excIllegal 0 0 s
/-- WDOG (R166). -/
def opWdog (a : At) (_rd _ra _rb : Fin 16) : EngOp := fun _ s => .ok () (updEng a.pe (fun e => { e with wd := wdTicks s a.pe }) s)
def opTstat (a : At) (rd _ra _rb : Fin 16) : EngOp := fun _ s => giveReg a.pe rd (tstat (eng s a.pe)) s
/-- Timers of an engine whose expiry is pending, bit k for TMk. -/
def pendingTimers (s : State) (n : Fin 8) : Nat :=
  (allFin 16).foldl (fun v k => if ownsTimer s n k && (Tbl.get s.eng.tm k).pend then v + 2 ^ k.val else v) 0
/-- The mailbox queue of an engine holds a readable item. -/
def mboxReadable (s : State) (n : Fin 8) : Bool := !(eng s n).mboxLost && qEn s (mboxOf s n) && (headAt s (mboxOf s n)).isSome
def opEvtst (a : At) (rd _ra _rb : Fin 16) : EngOp := fun _ s =>
  giveReg a.pe rd (pk [(b2n (eng s a.pe).entry, 0, 1), (b2n (handlerSource s a.pe).isSome, 1, 1), (b2n (mboxReadable s a.pe), 2, 1),
    (pendingTimers s a.pe, 16, 16)]) s
/-- BRK halts while a debug session is granted (R399). -/
def opBrk (a : At) (_rd _ra _rb : Fin 16) : EngOp := fun _ s => .ok () (if authNow s = 2 then haltNow a.pe s else s)
/-- FENCE: global stores complete in the model as they are made, so none is outstanding. -/
def opFence (_a : At) (_rd _ra _rb : Fin 16) : EngOp := fun _ s => .ok () s

end Sys2Proof.Machine
end

