-- ==== Sys2Proof/Machine/EngPrim.lean ====
section
/-!
DEFINITION. The operations of the engine primitives (R174 to R178, R181).
-/

namespace Sys2Proof.Machine

open Sys2Proof

/-! ## Frame of a primitive (R174, R175) -/

/-- NOTOWNER. -/
def qNOTOWNER : Nat := 12
/-- PENDING. -/
def qPENDING : Nat := 14
/-- The object number: the field, or the register it names at 0x80 to 0x8F. -/
def objNumber (s : State) (n : Fin 8) (obj : Byte) : Nat :=
  if 0x80 ≤ obj.toNat ∧ obj.toNat < 0x90 then (greg s n ⟨obj.toNat % 16, Nat.mod_lt _ (by decide)⟩).toNat else obj.toNat
/-- A primitive on an object of a class of `count` objects; a number out of range is an exception. -/
def onObject (count : Nat) (a : At) (obj : Byte) (f : Fin count → State → Res Unit) : EngOp := fun _ s =>
  match finOf count (objNumber s a.pe obj) with
  | some k => f k s
  | none => .exc excRange 0 0 s
/-- A status code to rd. -/
def giveCode (n : Fin 8) (rd : Fin 16) (r : Nat × State) : Res Unit := giveReg n rd (toWord r.1) r.2

/-! ## PORT (0x30) -/

/-- The engine serves port `p`. -/
def servesPort (s : State) (n : Fin 8) (p : Fin 27) : Bool := bit (portsReg s n) p.val
def opLstat (a : At) (rd _ra _rb : Fin 16) (obj : Byte) : EngOp :=
  onObject 27 a obj fun p s =>
    giveReg a.pe rd (if h : p.val < 24 then slotState s ⟨p.val, h⟩ else upState s ⟨(p.val - 24) % 3, Nat.mod_lt _ (by decide)⟩) s
/-- A PORT action on a slot or an upstream port: NOTOWNER on a port the engine does not serve. -/
def portAction (a : At) (rd : Fin 16) (obj : Byte) (onSlot : Fin 40 → State → Nat × State) (onUp : Fin 3 → State → Nat × State) : EngOp :=
  onObject 27 a obj fun p s =>
    giveCode a.pe rd
      (if !servesPort s a.pe p then (qNOTOWNER, s)
       else if h : p.val < 24 then onSlot ⟨p.val, by omega⟩ s
       else onUp ⟨(p.val - 24) % 3, Nat.mod_lt _ (by decide)⟩ s)
/-- The object's state does not allow the action. -/
def refused {α : Type} (_ : α) (s : State) : Nat × State := (qREFUSED, s)
/-- LSET on a slot port: U0, U3 and Rx.Detect as the hub class gives them, U1 and U2 on an enabled link (log entry 11). -/
def linkRequest (ls : Nat) (e : Fin 40) (s : State) : Nat × State :=
  let q := port s e
  let ss := q.connSS
  if ls = 0 && q.st == .suspended && ss then (qOK, linkStateEntry 0 e s)
  else if ls = 3 && q.st == .enabled && ss then (qOK, linkStateEntry 3 e s)
  else if ls = 5 && q.link == .ssDisabled && !q.babbler && (q.st == .disabled || q.st == .powered) then (qOK, linkStateEntry 5 e s)
  else if ls ≤ 2 && q.st == .enabled && ss && (q.link == .u0 || q.link == .u1 || q.link == .u2) then
    (qOK, putPort s e { q with link := if ls = 0 then .u0 else if ls = 1 then .u1 else .u2 })
  else (qREFUSED, s)
/-- LSET on an upstream port: U0, U1 and U2 of its SuperSpeed link. -/
def upLinkRequest (ls : Nat) (u : Fin 3) (s : State) : Nat × State :=
  let l := (tree s u).link
  if ls ≤ 2 && (l == .u0 || l == .u1 || l == .u2) then
    (qOK, updTree s u fun t => { t with link := if ls = 0 then .u0 else if ls = 1 then .u1 else .u2 })
  else (qREFUSED, s)
def opLset (a : At) (rd ra _rb : Fin 16) (obj : Byte) : EngOp := fun pc s =>
  portAction a rd obj (linkRequest (fld (greg s a.pe ra) 3 0)) (upLinkRequest (fld (greg s a.pe ra) 3 0)) pc s
/-- Status bits of a half that PFSET and PFCLR reach: not over-current and not the SuperSpeed link state, which the port
machine holds (log entry 11). -/
def flagMask (hs : Bool) : BitVec 16 := if hs then 0xFFF7 else 0xFE17
/-- PFSET or PFCLR of a half; a change of PORT_POWER moves the port machine. -/
def portFlags (set hs : Bool) (v : Word) (e : Fin 40) (s : State) : Nat × State :=
  let st := BitVec.ofNat 16 v.toNat &&& flagMask hs
  let ch := BitVec.ofNat 16 (v.toNat / 65536)
  (qOK, portEval e (updPort s e fun q => q.onHalf hs fun h => if set then (h.set st).mark ch else (h.clr st).unmark ch))
def opPfset (a : At) (rd ra rb : Fin 16) (obj : Byte) : EngOp := fun pc s =>
  portAction a rd obj (portFlags true (bit (greg s a.pe rb) 0) (greg s a.pe ra)) refused pc s
def opPfclr (a : At) (rd ra rb : Fin 16) (obj : Byte) : EngOp := fun pc s =>
  portAction a rd obj (portFlags false (bit (greg s a.pe rb) 0) (greg s a.pe ra)) refused pc s
/-- PRST: the port enters RESET, or refuses. -/
def portResetRequest (k : Nat) (e : Fin 40) (s : State) : Nat × State :=
  let t := if k = 0 then portResetEntry true e s else if k = 1 then portResetEntry false e s else if k = 2 then portBhResetEntry e s else s
  if (port s e).st != .reset && (port t e).st == .reset then (qOK, t) else (qREFUSED, s)
def opPrst (a : At) (rd ra _rb : Fin 16) (obj : Byte) : EngOp := fun pc s =>
  portAction a rd obj (portResetRequest (greg s a.pe ra).toNat) refused pc s
/-- PSIG on a slot port: resume signalling starts on a suspended port, or ends. -/
def portSignal (k : Nat) (e : Fin 40) (s : State) : Nat × State :=
  let q := port s e
  if k = 0 && q.st == .suspended && !q.resuming then (qOK, (putPort s e { q with resuming := true }).emit [.portResume e q.connHS])
  else if k = 1 && q.resuming then (qOK, resumeComplete e s)
  else (qREFUSED, s)
/-- PSIG on an upstream port: wake signalling starts on its suspended halves; its end closes the wake window. -/
def upSignal (k : Nat) (u : Fin 3) (s : State) : Nat × State :=
  let t := tree s u
  if k = 0 && (t.susSS || t.susHS) then
    let s1 := if t.susSS then startWake u false s else s
    (qOK, if t.susHS then startWake u true s1 else s1)
  else if k = 1 && (t.winSS || t.winHS) then (qOK, updTree s u fun t => { t with winSS := false, winHS := false })
  else (qREFUSED, s)
def opPsig (a : At) (rd ra _rb : Fin 16) (obj : Byte) : EngOp := fun pc s =>
  portAction a rd obj (portSignal (greg s a.pe ra).toNat) (upSignal (greg s a.pe ra).toNat) pc s

/-! ## QUE (0x31) -/

/-- A committed item in an egress queue asks for its egress point. -/
def offerEgress (q : Fin 64) (s : State) : State := if h : q.val < 33 then raiseEgress ⟨q.val, h⟩ s else s
/-- ENQ, ENQF, ENQM and ENQL. -/
def enqOp (sop eop : Bool) (a : At) (rd ra rb : Fin 16) (obj : Byte) : EngOp :=
  onObject 64 a obj fun q s =>
    let v := greg s a.pe rb
    (engLoad a.pe a.data (greg s a.pe ra).toNat (fld v 15 0) s).bind fun b t =>
      let r := qEnqueue q (33 + a.pe.val) sop eop (BitVec.ofNat 16 (fld v 31 16)) b false t
      giveCode a.pe rd (r.1, if r.1 = qOK then offerEgress q r.2 else r.2)
def opEnq := enqOp true true
def opEnqf := enqOp true false
def opEnqm := enqOp false false
def opEnql := enqOp false true
/-- Result word of DEQ. -/
def deqWord (d : Deq) : Word :=
  pk [(d.status, 0, 4), (b2n d.sop, 4, 1), (b2n d.eop, 5, 1), (b2n d.poison, 6, 1),
    (b2n (!d.last && (d.status = qOK || d.status = qPOISON)), 7, 1), (d.data.length, 16, 16)]
def opDeq (a : At) (rd ra rb : Fin 16) (obj : Byte) : EngOp :=
  onObject 64 a obj fun q s =>
    let r := qDequeue q (min 65535 (greg s a.pe rb).toNat) s
    let ad := (greg s a.pe ra).toNat
    if !r.1.data.isEmpty && !storable ad r.1.data.length then .exc excAccess 0 0 s
    else if r.1.data.isEmpty then giveReg a.pe rd (deqWord r.1) r.2
    else (engStore a.pe a.data ad r.1.data r.2).bind fun _ t => giveReg a.pe rd (deqWord r.1) t
def opPeek (a : At) (rd ra _rb : Fin 16) (obj : Byte) : EngOp :=
  onObject 64 a obj fun q s =>
    let r := qPeek q s
    if r.1 = qOK || r.1 = qPOISON then
      (engStore a.pe a.data (greg s a.pe ra).toNat (leBytes r.2.1.toNat 8) r.2.2).bind fun _ t => giveCode a.pe rd (r.1, t)
    else giveCode a.pe rd (r.1, r.2.2)
/-- A mark operation; RWSTAT shows its status. -/
def markOp (f : Fin 64 → State → Nat × State) (a : At) (rd _ra _rb : Fin 16) (obj : Byte) : EngOp :=
  onObject 64 a obj fun q s =>
    let r := f q s
    giveCode a.pe rd (r.1, updQueue q (fun x => { x with rwstat := r.1 }) r.2)
def opMark := markOp qMark
def opUnmark := markOp qUnmark
def opRewind := markOp qRewind
def opFlush (a : At) (rd _ra _rb : Fin 16) (obj : Byte) : EngOp :=
  onObject 64 a obj fun q s => giveCode a.pe rd (if qEn s q then qOK else qDISABLED, flushQueue q s)
def opQstat (a : At) (rd _ra _rb : Fin 16) (obj : Byte) : EngOp := onObject 64 a obj fun q s => giveReg a.pe rd (qStat s q) s

/-! ## TMR (0x32), EVT (0x33), ARB (0x34) -/

/-- A primitive on a timer: NOTOWNER from an engine that does not own it (R178). -/
def timerOp (a : At) (rd : Fin 16) (obj : Byte) (f : Fin 16 → State → Res Unit) : EngOp :=
  onObject 16 a obj fun k s => if ownsTimer s a.pe k then f k s else giveCode a.pe rd (qNOTOWNER, s)
/-- Change a timer. -/
def updTimer (k : Fin 16) (f : TimerS → TimerS) (s : State) : State := { s with eng := { s.eng with tm := Tbl.upd s.eng.tm k f } }
/-- TSET and TSETP: a period of 1 to 16,777,215 µs (another is refused, log entry 11). -/
def timerStart (periodic : Bool) (a : At) (rd ra _rb : Fin 16) (obj : Byte) : EngOp :=
  timerOp a rd obj fun k s =>
    let p := (greg s a.pe ra).toNat
    giveCode a.pe rd
      (if p = 0 ∨ 16777215 < p then (qREFUSED, s)
       else (qOK, updTimer k (fun t => { t with run := true, periodic := periodic, period := p, due := s.time.tb + BitVec.ofNat 64 (p * 1000) }) s))
def opTset := timerStart false
def opTsetp := timerStart true
def opTstop (a : At) (rd _ra _rb : Fin 16) (obj : Byte) : EngOp :=
  timerOp a rd obj fun k s => giveCode a.pe rd (qOK, updTimer k (fun t => { t with run := false }) s)
def opTrd (a : At) (rd _ra _rb : Fin 16) (obj : Byte) : EngOp :=
  timerOp a rd obj fun k s => giveReg a.pe rd (toWord (timerRemain s (Tbl.get s.eng.tm k))) s
/-- Events that EVPOST may post (R387). -/
def postable : List Nat := [0, 2, 7, 8, 10, 12, 13, 14, 15, 19, 26, 28, 31, 32, 33, 34, 35, 37, 38, 39, 49, 50, 51, 52, 58, 59]
def opEvpost (a : At) (rd _ra _rb : Fin 16) (obj : Byte) : EngOp :=
  onObject 64 a obj fun k s => giveCode a.pe rd (if postable.contains k.val then (qOK, countEv k s) else (qREFUSED, s))
def opEvrd (a : At) (rd _ra _rb : Fin 16) (obj : Byte) : EngOp :=
  onObject 64 a obj fun k s => giveReg a.pe rd (pk [((Tbl.get s.ev.cnt k).toNat, 0, 16), ((Tbl.get s.ev.seen k).toNat, 16, 16)]) s
/-- WAITG: the engine sleeps on its outstanding request (R149). -/
def opWaitg (a : At) (rd _ra _rb : Fin 16) (_obj : Byte) : EngOp := fun _ s =>
  giveCode a.pe rd (qOK, if (peRequest s a.pe).isSome then updEng a.pe (fun e => { e with sleep := .waitg }) s else s)
def opFcrd (a : At) (rd _ra _rb : Fin 16) (_obj : Byte) : EngOp := fun _ s => giveReg a.pe rd (peForecast s a.pe) s

/-! ## ODA (0x35) -/

/-- A record of the dictionary directory: length, direct flags, engine address of the value. -/
structure DirRec where
  len : Nat
  flags : Nat
  addr : Nat
deriving DecidableEq, Repr

/-- The directory's record of a key (R176). -/
def dirFind (s : State) (key : Nat) : Option DirRec :=
  let count := min 4096 (memNum s ecmBase 4)
  ((List.range count).find? fun k => memNum s (ecmBase + 0x10 + 16 * k) 4 = key).map fun k =>
    let b := ecmBase + 0x10 + 16 * k
    { len := memNum s (b + 4) 2, flags := memNum s (b + 6) 1, addr := memNum s (b + 8) 4 }
/-- Result word of ODRD and ODWR. -/
def odaWord (status len : Nat) : Word := pk [(status, 0, 4), (len, 16, 16)]
/-- ODRD and ODWR: the value is copied when the record's direct bit is set. -/
def odaOp (write : Bool) (a : At) (rd ra rb : Fin 16) : EngOp := fun _ s =>
  match dirFind s (greg s a.pe ra).toNat with
  | none => giveReg a.pe rd (odaWord qEMPTY 0) s
  | some r =>
    if !r.flags.testBit (b2n write) then giveReg a.pe rd (odaWord qPENDING 0) s
    else
      let ad := (greg s a.pe rb).toNat
      (engLoad a.pe a.data (if write then ad else r.addr) r.len s).bind fun b t =>
        (engStore a.pe .none (if write then r.addr else ad) b t).bind fun _ u => giveReg a.pe rd (odaWord qOK r.len) u
def opOdrd (a : At) (rd ra rb : Fin 16) (_obj : Byte) : EngOp := odaOp false a rd ra rb
def opOdwr (a : At) (rd ra rb : Fin 16) (_obj : Byte) : EngOp := odaOp true a rd ra rb

/-! ## CRC (0x36), TIM (0x37) -/

/-- rd advanced over bytes. -/
def crcOver (a : At) (rd : Fin 16) (b : List Byte) (s : State) : Res Unit :=
  giveReg a.pe rd (toWord (crc32cRun (greg s a.pe rd).toNat b)) s
def opCrcb (a : At) (rd ra _rb : Fin 16) (_obj : Byte) : EngOp := fun _ s => crcOver a rd (leBytes (greg s a.pe ra).toNat 1) s
def opCrcw (a : At) (rd ra _rb : Fin 16) (_obj : Byte) : EngOp := fun _ s => crcOver a rd (le32 (greg s a.pe ra).toNat) s
def opCrcm (a : At) (rd ra rb : Fin 16) (_obj : Byte) : EngOp := fun _ s =>
  (engLoad a.pe a.data (greg s a.pe ra).toNat (greg s a.pe rb).toNat s).bind fun b t => crcOver a rd b t
def opTbrd (a : At) (rd _ra _rb : Fin 16) (_obj : Byte) : EngOp := fun _ s =>
  giveReg a.pe rd (lo32 s.time.tb) (updEng a.pe (fun e => { e with tbHigh := hi32 s.time.tb }) s)
def opTbrh (a : At) (rd _ra _rb : Fin 16) (_obj : Byte) : EngOp := fun _ s => giveReg a.pe rd (eng s a.pe).tbHigh s
/-- TWAIT: sleep until TB[31:0] − ra, read as signed, is 0 or more. -/
def opTwait (a : At) (rd ra _rb : Fin 16) (_obj : Byte) : EngOp := fun _ s =>
  let target := greg s a.pe ra
  giveCode a.pe rd (qOK, if (lo32 s.time.tb - target).toInt < 0 then updEng a.pe (fun e => { e with sleep := .twait target }) s else s)
def opTknum (a : At) (rd _ra _rb : Fin 16) (_obj : Byte) : EngOp := fun _ s => giveReg a.pe rd s.time.tick s

/-! ## FAB (0x38), PKT (0x3A) -/

/-- A TC0 frame goes to every UP port; NOCREDIT where a buffer is full. -/
def sendAll (h : FHdr) (body : List Byte) (s : State) : Nat × State :=
  (allFin 4).foldl (fun r f =>
    if fabUp r.2 f then
      let p := tc0Put f (frameBytes h body) r.2
      (if p.1 then r.1 else qNOCREDIT, p.2)
    else r) (qOK, s)
/-- FSEND of a body: frame class, traffic class and source as R214 permits, else refused (log entry 11). -/
def fsend (n : Fin 8) (fc tc dst : Nat) (body : List Byte) (s : State) : Nat × State :=
  let sub := match body with | b :: _ => b.toNat | [] => 0
  if 254 * 8 < body.length then (qTOOLONG, s)
  else if !tcPermitted fc tc || !srcPermitted fc sub s.fab.addr.toNat || (decide (tc = 0) != decide (dst = 0xFFF)) then (qREFUSED, s)
  else if tc = 0 then sendAll (bcast s fc body) body s
  else frameSend fc tc dst (33 + n.val) body false s
def opFsend (a : At) (rd ra rb : Fin 16) (_obj : Byte) : EngOp := fun _ s =>
  let v := greg s a.pe rb
  (engLoad a.pe a.data (greg s a.pe ra).toNat (fld v 31 20 * 8) s).bind fun b t =>
    giveCode a.pe rd (fsend a.pe (fld v 19 16) (fld v 13 12) (fld v 11 0) b t)
def opFroute (a : At) (rd ra _rb : Fin 16) (_obj : Byte) : EngOp := fun _ s =>
  giveReg a.pe rd (routeEntry s false (fld (greg s a.pe ra) 11 0)) s
/-- PSEND: the packet goes to the egress queue of a crosspoint port 0 to 31 (R117); the queue keeps no mark of bit [22]. -/
def opPsend (a : At) (rd ra rb : Fin 16) (_obj : Byte) : EngOp := fun _ s =>
  let v := greg s a.pe rb
  (engLoad a.pe a.data (greg s a.pe ra).toNat (fld v 15 0) s).bind fun b t =>
    giveCode a.pe rd
      (match finOf 32 (fld v 21 16) with
       | some x =>
         let q : Fin 64 := ⟨x.val, by omega⟩
         let r := qEnqueue q (33 + a.pe.val) true true 0 b false t
         (r.1, if r.1 = qOK then offerEgress q r.2 else r.2)
       | none => (qREFUSED, t))

/-! ## SPW (0x39) -/

/-- An SPW action: NOTOWNER unless the engine holds SPWR. -/
def slotAction (count : Nat) (a : At) (rd : Fin 16) (obj : Byte) (f : Fin count → State → Nat × State) : EngOp :=
  onObject count a obj fun p s => giveCode a.pe rd (if bit (portsReg s a.pe) 29 then f p s else (qNOTOWNER, s))
def opSpon (a : At) (rd _ra _rb : Fin 16) (obj : Byte) : EngOp :=
  slotAction 24 a rd obj fun p s => if (slot s p).st = .seating && waitCode s p == 0 then (qOK, rampBegin p s) else (qREFUSED, s)
def opSpoff (a : At) (rd _ra _rb : Fin 16) (obj : Byte) : EngOp :=
  slotAction 24 a rd obj fun p s => if (slot s p).st.gateOn then (qOK, slotCommandOff p s) else (qREFUSED, s)
def opSpfrc (a : At) (rd _ra _rb : Fin 16) (obj : Byte) : EngOp := slotAction 24 a rd obj fun p s => (qOK, slotForceFw p true s)
def opSprel (a : At) (rd _ra _rb : Fin 16) (obj : Byte) : EngOp := slotAction 24 a rd obj fun p s => (qOK, slotForceFw p false s)
/-- SPLIM: 1 to 40 in 50 mA steps; a raise that does not fit the budget is refused (R203). -/
def opSplim (a : At) (rd ra _rb : Fin 16) (obj : Byte) : EngOp := fun pc s0 =>
  let v := (greg s0 a.pe ra).toNat
  slotAction 24 a rd obj (fun p s => if 1 ≤ v && v ≤ 40 && limitFits s p v then (qOK, limitSet p v s) else (qREFUSED, s)) pc s0
def opSpst (a : At) (rd _ra _rb : Fin 16) (obj : Byte) : EngOp := onObject 24 a obj fun p s => giveReg a.pe rd (spwStat s p) s
def opSpgrp (a : At) (rd ra _rb : Fin 16) (obj : Byte) : EngOp := fun pc s0 =>
  let v := (greg s0 a.pe ra).toNat
  slotAction 4 a rd obj (fun g s =>
    if v = 0 then (qOK, groupClose g s) else if v = 1 then (qOK, groupOpen g s) else (qREFUSED, s)) pc s0

end Sys2Proof.Machine
end

