-- ==== Sys2Proof/Machine/EngStep.lean ====
section
/-!
DEFINITION. Single step: the instruction an engine's memory holds at its PC, executed once (R399).
-/

namespace Sys2Proof.Machine

open Sys2Proof

/-- The operation of an engine instruction; any other command is no instruction. -/
def engineOp : Instr → EngOp
  | .add a x y z => opAdd a x y z
  | .sub a x y z => opSub a x y z
  | .and_ a x y z => opAnd a x y z
  | .or_ a x y z => opOr a x y z
  | .xor_ a x y z => opXor a x y z
  | .sll a x y z => opSll a x y z
  | .srl a x y z => opSrl a x y z
  | .sra a x y z => opSra a x y z
  | .slt a x y z => opSlt a x y z
  | .sltu a x y z => opSltu a x y z
  | .mul a x y z => opMul a x y z
  | .mulhu a x y z => opMulhu a x y z
  | .swap a x y z => opSwap a x y z
  | .fadd a x y z => opFadd a x y z
  | .tend a x y z => opTend a x y z
  | .reth a x y z => opReth a x y z
  | .wdog a x y z => opWdog a x y z
  | .tstat a x y z => opTstat a x y z
  | .evtst a x y z => opEvtst a x y z
  | .brk a x y z => opBrk a x y z
  | .fence a x y z => opFence a x y z
  | .addi a x y i => opAddi a x y i
  | .andi a x y i => opAndi a x y i
  | .ori a x y i => opOri a x y i
  | .xori a x y i => opXori a x y i
  | .slli a x y i => opSlli a x y i
  | .srli a x y i => opSrli a x y i
  | .srai a x y i => opSrai a x y i
  | .slti a x y i => opSlti a x y i
  | .himm a x y i => opHimm a x y i
  | .lw a x y i => opLw a x y i
  | .lh a x y i => opLh a x y i
  | .lhu a x y i => opLhu a x y i
  | .lb a x y i => opLb a x y i
  | .lbu a x y i => opLbu a x y i
  | .sw a x y i => opSw a x y i
  | .sh a x y i => opSh a x y i
  | .sb a x y i => opSb a x y i
  | .jalr a x y i => opJalr a x y i
  | .beq a x y i => opBeq a x y i
  | .bne a x y i => opBne a x y i
  | .blt a x y i => opBlt a x y i
  | .bge a x y i => opBge a x y i
  | .bltu a x y i => opBltu a x y i
  | .bgeu a x y i => opBgeu a x y i
  | .j a i => opJ a i
  | .jal a i => opJal a i
  | .lstat a x y z o => opLstat a x y z o
  | .lset a x y z o => opLset a x y z o
  | .pfset a x y z o => opPfset a x y z o
  | .pfclr a x y z o => opPfclr a x y z o
  | .prst a x y z o => opPrst a x y z o
  | .psig a x y z o => opPsig a x y z o
  | .enq a x y z o => opEnq a x y z o
  | .enqf a x y z o => opEnqf a x y z o
  | .enqm a x y z o => opEnqm a x y z o
  | .enql a x y z o => opEnql a x y z o
  | .deq a x y z o => opDeq a x y z o
  | .peek a x y z o => opPeek a x y z o
  | .mark (.prim a x y z o) => opMark a x y z o
  | .unmark (.prim a x y z o) => opUnmark a x y z o
  | .rewind (.prim a x y z o) => opRewind a x y z o
  | .flush (.prim a x y z o) => opFlush a x y z o
  | .qstat a x y z o => opQstat a x y z o
  | .tset a x y z o => opTset a x y z o
  | .tsetp a x y z o => opTsetp a x y z o
  | .tstop a x y z o => opTstop a x y z o
  | .trd a x y z o => opTrd a x y z o
  | .evpost a x y z o => opEvpost a x y z o
  | .evrd a x y z o => opEvrd a x y z o
  | .waitg a x y z o => opWaitg a x y z o
  | .fcrd a x y z o => opFcrd a x y z o
  | .odrd a x y z o => opOdrd a x y z o
  | .odwr a x y z o => opOdwr a x y z o
  | .crcb a x y z o => opCrcb a x y z o
  | .crcw a x y z o => opCrcw a x y z o
  | .crcm a x y z o => opCrcm a x y z o
  | .tbrd a x y z o => opTbrd a x y z o
  | .tbrh a x y z o => opTbrh a x y z o
  | .twait a x y z o => opTwait a x y z o
  | .tknum a x y z o => opTknum a x y z o
  | .fsend a x y z o => opFsend a x y z o
  | .froute a x y z o => opFroute a x y z o
  | .spon a x y z o => opSpon a x y z o
  | .spoff a x y z o => opSpoff a x y z o
  | .spfrc a x y z o => opSpfrc a x y z o
  | .sprel a x y z o => opSprel a x y z o
  | .splim a x y z o => opSplim a x y z o
  | .spst a x y z o => opSpst a x y z o
  | .spgrp a x y z o => opSpgrp a x y z o
  | .psend a x y z o => opPsend a x y z o
  | _ => fun _ s => .exc excIllegal 0 0 s
/-- The operation of the instruction word at an engine address; an illegal word is an exception. -/
def wordOp (a : At) (w : Word) : EngOp :=
  match engineWord a w with
  | some i => engineOp i
  | none => fun _ s => .exc excIllegal 0 0 s
/-- The word an engine fetches at its PC. -/
def wordAt (s : State) (n : Fin 8) (pc : Word) : Word := toWord (ofLe ((List.range 4).map fun k => localByte s n (pc.toNat + k)))
/-- The operation of a stepped word: TEND leaves the engine in IDLE. -/
def stepOp (a : At) (w : Word) : EngOp :=
  match engineWord a w with
  | some (.tend ..) => tendOp false a
  | _ => wordOp a w
/-- The engine executes the instruction at its PC. -/
def runAtPc (a : At) (s : State) : State := issue a (stepOp a (wordAt s a.pe (eng s a.pe).pc)) s
/-- One step of a halted engine: it runs from the state in which it halted and halts again. In IDLE a pending source starts
its run first. -/
def stepOnce (a : At) (s : State) : State :=
  let n := a.pe
  let m : BitVec 8 := BitVec.ofNat 8 (2 ^ n.val)
  if (eng s n).st ≠ .halted then s
  else
    let s1 := updEng n (fun e => { e with st := e.haltSt }) { s with dbg := { s.dbg with pass := s.dbg.pass ||| m } }
    let s2 := if (eng s1 n).st = .idle then runStart n s1 else s1
    let s3 := runAtPc a s2
    match (eng s3 n).st with
    | .reset | .check | .halted => s3
    | .init | .idle | .tick | .handler =>
      let s4 := updEng n (fun e => { e with haltSt := e.st, st := .halted, sleep := .awake }) s3
      if (eng s4 n).portHold || (eng s4 n).portsLost then s4 else portsHold n s4
/-- Steps that a register write has commanded (DBG_PEn_CTL.STEP) are carried out, engine by engine; `k` bounds their number. -/
def runSteps : Nat → State → State
  | 0, s => s
  | k + 1, s =>
    match (allFin 8).find? fun n => s.dbg.stepping.getLsbD n.val with
    | none => s
    | some n =>
      let m : BitVec 8 := BitVec.ofNat 8 (2 ^ n.val)
      runSteps k (stepOnce { pe := n, fetch := .none, data := .none } { s with dbg := { s.dbg with stepping := s.dbg.stepping &&& ~~~m } })
/-- The end of a command that may have written registers. -/
def finish (s : State) : Host.Outcome State Fault Refusal := done (runSteps 8 s)

end Sys2Proof.Machine
end

