-- ==== Sys2Proof/Machine/Journal.lean ====
section
/-!
DEFINITION. PE7's journal writer, its readers, replication, and the lifetime counter blocks (R360 to R368).
-/

namespace Sys2Proof.Machine

open Sys2Proof

/-- SEQ of a stored record. -/
def recSeq (b : List Byte) : Word := BitVec.ofNat 32 (ofLe (b.take 4))
/-- The SEQ after one: 0xFFFF_FFFF is skipped. -/
def seqNext (n : Word) : Word := if n = 0xFFFFFFFE then 0 else n + 1
/-- The valid records, oldest first. -/
def journalRecs (s : State) : List (List Byte) := (s.jr.recs.filter (·.good)).map (·.bytes)
/-- The newest valid record. -/
def newestRec (s : State) : Option (List Byte) := (journalRecs s).getLast?
/-- The newest SEQ; 0xFFFF_FFFF while the journal holds no valid record. -/
def newestSeq (s : State) : Word := match newestRec s with | some b => recSeq b | none => 0xFFFFFFFF
/-- BOOTS: lifetime power-on resets plus module resets. -/
def boots (s : State) : Nat := Tbl.get s.jr.life 0 + Tbl.get s.jr.life 1
/-- Number of record slots. -/
def slotCount : Nat := 262144
/-- Write bytes into the next slot; entering a sector erases the next one (R360). -/
def slotWrite (b : List Byte) (good : Bool) (s : State) : State :=
  let k := s.jr.next
  let sector := (k / 64 + 1) % 4096
  let keep := if k % 64 = 0 then s.jr.recs.filter fun r => r.slot / 64 ≠ sector else s.jr.recs
  { s with jr := { s.jr with recs := keep ++ [{ slot := k, bytes := b, good := good }], next := (k + 1) % slotCount } }
/-- A record is written: SEQ, BOOTS and CRC are filled in. -/
def recWrite (item : List Byte) (s : State) : List Byte × State :=
  let body := le32 s.jr.seq.toNat ++ ((item.drop 4).take 52) ++ le32 (boots s)
  let b := body ++ le32 (crc32c body).toNat
  (b, lifeInc 3 (slotWrite b true { s with jr := { s.jr with seq := seqNext s.jr.seq } }))
/-- Replication: the record goes once to the node that OD 0x5401 sub 3 names (R368). -/
def replicate (b : List Byte) (s : State) : State :=
  let node := odNum s 0x5401 3
  if node = 0 then s
  else (frameSend 0 3 node 40 (dataWord 0 0 64 true false 4 (lo32 s.time.tb) ++ b) false s).2
/-- PE7 writes a record. -/
def recPut (item : List Byte) (s : State) : State := let (b, s1) := recWrite item s; replicate b s1
/-- PE7 writes a record of its own: the happening is now. -/
def recOwn (type sub src obj reason : Nat) (unclean : Bool) (data : List Byte) (s : State) : State :=
  recPut (recordBytes type sub src obj reason false unclean data s) s
/-- Records were lost: a JOURNAL record with their count. -/
def lostRecord (n : Nat) (s : State) : State := recOwn 13 1 srcDevice 0 0 false (le32 n) s
/-- The losses folded so far are recorded. -/
def lostFlush (s : State) : State :=
  if s.jr.lost = 0 then s else lostRecord s.jr.lost { s with jr := { s.jr with lost := 0 } }
/-- The record of an item, with a failed write verify when `verify` is false: the slot stays as it is, the record goes into
the next one, EV14 counts and a JOURNAL record follows (R362). -/
def itemRecord (item : List Byte) (verify : Bool) (s : State) : State :=
  if verify then recPut item s
  else
    let failed := s.jr.next
    let s1 := countEv 14 (recPut item (slotWrite item false s))
    recOwn 13 2 srcDevice 0 0 false (le32 failed) s1
/-- JOURNAL_WRITE: PE7 takes the next item of Q57. -/
def journalWrite (verify : Bool) (s : State) : State :=
  if !peRuns s 7 then s
  else
    let (d, s1) := qDequeue 57 64 s
    if d.status = qOK then
      if d.type = 1 then lostRecord (ofLe (d.data.take 4)) (lostFlush s1)
      else itemRecord d.data verify (lostFlush s1)
    else if d.status = qPOISON ∨ d.status = qABORTED then
      let s2 := { s1 with jr := { s1.jr with lost := s1.jr.lost + 1 } }
      if (headAt (swapIfDue 57 s2) 57).isNone then lostFlush s2 else s2
    else s1

/-! ## Reading (R367, R368) -/

/-- A SEQ lies at or after a cursor. -/
def seqFrom (cursor n : Word) : Bool := (n - cursor).toNat < 2 ^ 31
/-- Up to `n` records at a master's cursor, which advances by their number. -/
def journalTake (m : Fin 16) (replica : Bool) (n : Nat) (s : State) : List Byte × State :=
  let cur := Tbl.get (if replica then s.jr.repCursor else s.jr.cursor) m
  let l := if replica then s.jr.replica else journalRecs s
  let got := (l.dropWhile fun b => !seqFrom cur (recSeq b)).take n
  let upto := match got.getLast? with | some b => seqNext (recSeq b) | none => cur
  let jr := if replica then { s.jr with repCursor := Tbl.put s.jr.repCursor m upto } else { s.jr with cursor := Tbl.put s.jr.cursor m upto }
  (got.flatMap id, { s with jr := jr })
/-- JOURNAL_REPLICA_RECEIVE: PE7 keeps the newest 256 records it receives. -/
def replicaReceive (b : List Byte) (s : State) : State :=
  if !peRuns s 7 then s
  else
    let l := s.jr.replica ++ [b]
    { s with jr := { s.jr with replica := l.drop (l.length - 256) } }

/-! ## Lifetime counters (R366) -/

/-- COUNTER_BLOCK_WRITE. -/
def counterBlock (s : State) : State :=
  if !peRuns s 7 then s
  else { s with jr := { s.jr with block := some { life := s.jr.life, on := s.jr.lifeOn, trip := s.jr.lifeTrip, cut := s.jr.lifeCut, seq := newestSeq s } } }

end Sys2Proof.Machine
end

