-- ==== Sys2Proof/Machine/Profile.lean ====
section
/-!
DEFINITION. The power profiles RUN, NIGHT and STANDBY (R352). A profile carries out each of its domain commands and
its entry or exit before the next one.
-/

namespace Sys2Proof.Machine

open Sys2Proof

/-- One domain command of a profile; a refused one ends the profile with its code and domain in OD 0x5010 sub 2. -/
def profStep (x : Bool × State) (d target : Nat) : Bool × State :=
  if !x.1 then x
  else
    let s1 := domainCommand 8 d target (domResult 0 d x.2)
    if s1.ao.resCode ≠ 0 then
      (false, { s1 with od := { s1.od with profRes := BitVec.ofNat 16 (s1.ao.resCode + 256 * d) } })
    else match finOf 31 d with
      | some k => (true, if target = 0 then exitComplete k s1 else entryComplete k s1)
      | none => (true, s1)
/-- Domain commands in the order of a list. -/
def profSteps (l : List (Nat × Nat)) (x : Bool × State) : Bool × State := l.foldl (fun y c => profStep y c.1 c.2) x
/-- A step that no refusal has stopped. -/
def profDo (f : State → State) (x : Bool × State) : Bool × State := if x.1 then (true, f x.2) else x
/-- PE7 empties Q57 to flash. -/
def drainJournal : Nat → State → State
  | 0, s => s
  | k + 1, s => if !peRuns s 7 || qLevel s 57 = 0 then s else drainJournal k (journalWrite true s)
/-- Every slot is forced off with FORCE.FIRMWARE; the bits set are kept for RUN. -/
def forceAll (s : State) : State :=
  eachFin 24 (fun p t =>
    if (slot t p).forceFw then t
    else slotForceFw p true { t with od := { t.od with nightForced := t.od.nightForced ||| BitVec.ofNat 24 (2 ^ p.val) } }) s
/-- PE0 disables the queues that meet a condition, all in one apply. -/
def disableQueues (c : Fin 64 → Bool) (s : State) : State :=
  let s1 := eachFin 64 (fun q t =>
    if qEn t q && c q then writeShadow 8 (0x30000 + 0x40 * q.val) (setFld (shadowValue t (0x30000 + 0x40 * q.val)) 0 0 0) 0xFFFFFFFF t else t) s
  applyGroups (BitVec.ofNat 16 (2 ^ groupNo s 0x30000)) s1
/-- PE0 enables the queues from the configuration, in one apply. -/
def enableQueues (s : State) : State :=
  let s1 := eachFin 64 (fun q t =>
    writeShadow 8 (0x30000 + 0x40 * q.val) (toWord (ofLe (odGet t 0x582A (q.val + 1)))) 0xFFFFFFFF t) s
  applyGroups (BitVec.ofNat 16 (2 ^ groupNo s 0x30000)) s1
/-- A queue has a bank in one of the packet banks of a mask (bit 0 for PB0). -/
def queueIn (s : State) (mask : Nat) (q : Fin 64) : Bool :=
  (List.range 16).any fun k => mask.testBit k && ([0, 1] : List (Fin 2)).any fun b =>
    decide (qBase s q b < (k + 1) * 262144) && decide (k * 262144 < qBase s q b + qSize s q b)
/-- PROFILE RUN. -/
def profRun (s : State) : State :=
  let order := [24] ++ List.range 8 ++ (List.range 16).map (· + 8) ++ [25, 26, 27, 28, 29]
  let x := profSteps (order.map fun d => (d, 0)) (true, { s with od := { s.od with profRes := 0 } })
  (profDo (fun t =>
    let u := enableQueues t
    eachFin 24 (fun p v => if t.od.nightForced.getLsbD p.val then slotForceFw p false v else v)
      { u with od := { u.od with nightForced := 0 } }) x).2
/-- PROFILE NIGHT, with the masks of OD 0x5011. -/
def profNight (s : State) : State :=
  let a := odNum s 0x5011 1
  let b := odNum s 0x5011 2
  let s0 := { s with od := { s.od with profRes := 0 } }
  let s1 := if (a ||| b) % 256 ≠ 0 then drainJournal 4096 (forceAll s0) else s0
  let x1 := profSteps (([29, 28, 27, 26, 25].filter fun d => b.testBit d).map fun d => (d, 2)) (true, s1)
  let x2 := profDo (fun t => disableQueues (queueIn t ((a ||| b) / 256)) t) x1
  let rest := (List.range 31).filterMap fun d =>
    if a.testBit d then some (d, 1) else if b.testBit d && !(25 ≤ d && d < 30) then some (d, 2) else none
  (profSteps rest x2).2
/-- PROFILE STANDBY: the night-closure steps, ending with CORE OFF. -/
def profStandby (src : Nat) (s : State) : State :=
  if (allFin 3).any (hubConfigured s) then { s with od := { s.od with profRes := BitVec.ofNat 16 (7 + 256 * 25) } }
  else
    let s0 := forceAll { s with od := { s.od with profRes := 0 } }
    let s1 := counterBlock (drainJournal 4096 (journalPower 4 src 30 s0))
    let x1 := profSteps [(29, 2), (28, 2), (27, 2), (26, 2), (25, 2)] (true, s1)
    let x2 := profDo (disableQueues fun _ => true) x1
    let x3 := profSteps ((List.range 16).map fun k => (k + 8, 2)) x2
    (profSteps ([1, 2, 3, 4, 5, 6, 7].map (fun n => (n, 1)) ++ [(30, 2)]) x3).2
/-- OD 0x5010 sub 1: 0 RUN, 1 NIGHT, 2 STANDBY. -/
def profile (src code : Nat) (s : State) : State :=
  if code = 0 then profRun s else if code = 1 then profNight s else if code = 2 then profStandby src s else s

end Sys2Proof.Machine
end

