-- ==== Sys2Proof/Machine/OdRead.lean ====
section
/-!
DEFINITION. Reading the object dictionary: the values PE0 computes, mirrors of registers, values accepted and values
that wait for a tick (R273 to R277, R280, R302 and the entry tables of every chapter).
-/

namespace Sys2Proof.Machine

open Sys2Proof

/-! ## Values the device computes -/

/-- A register as a number. -/
def rr (s : State) (a : Nat) : Nat := (readReg s a).toNat
/-- A slot is in a fault state (OD 0x2060 sub 2). -/
def slotFaulty (s : State) (p : Fin 24) : Bool :=
  match (slot s p).st with
  | .tripped | .retryWait | .lockout | .fetFault => true
  | .off | .seating | .ramp | .on | .foldback | .forcedOff => false
/-- Bitmap of the slots with a property. -/
def slotMap (c : Fin 24 → Bool) : Nat := (allFin 24).foldl (fun n p => n + (if c p then 2 ^ p.val else 0)) 0
/-- OD 0x1001, the error register (R299). -/
def errorRegister (s : State) : Nat :=
  let hi := b2n (slotMap (slotFaulty s) ≠ 0) * 2 + b2n s.pow.warn * 4 + b2n s.can.canErr * 16 +
    b2n ((allFin 64).any fun n => routed s 5 n.val && evStatus s n) * 128
  if hi = 0 then 0 else hi + 1
/-- COB-ID of a PDO: as written, or its default with the node-ID (R298). -/
def cobId (s : State) (idx : Nat) : Nat :=
  match odGet s idx 1 with
  | [] => odPlainDefault idx 1 + canNode s
  | l => ofLe l
/-- The release in the header of an image slot. -/
def slotRelease (s : State) (k : Fin 2) : Nat :=
  match (imgSlot s k).st with
  | .empty | .loading | .invalid => (Config.noRelease k).toNat
  | .valid | .trial | .good | .retired => imgNum (imgSlot s k).bytes 12 2
/-- State code of an export record (R272). -/
def ExpSt.code : ExpSt → Nat
  | .empty => 0 | .enum => 1 | .refused => 2 | .ready => 3 | .bound => 4
/-- State code of an import (R272). -/
def ImpSt.code : ImpSt → Nat
  | .off => 0 | .binding => 1 | .bound => 2 | .refused => 3 | .lost => 4 | .noSpeed => 5
/-- OD 0x4800. -/
def exportWord (x : ExpS) : Nat :=
  (pk [(x.st.code, 0, 4), (x.refuse, 4, 4), (x.speed.code, 8, 3), (x.importer.toNat, 12, 12), (x.vslot.val, 24, 4), (x.breason, 28, 4)]).toNat
/-- Hops from an importer to its exporter: the distance of its route entry (R272). -/
def importHops (s : State) (v : Fin 16) : Nat := fld (routeEntry s false (impAddr s v).toNat) 13 8
/-- OD 0x4811. -/
def importWord (s : State) (v : Fin 16) : Nat :=
  let i := imp s v
  (pk [(i.st.code, 0, 3), (i.breason, 4, 4), (importHops s v, 8, 6)]).toNat

/-- Computed values and mirrors of indices below 0x3000. -/
def odLive2 (s : State) (idx sub : Nat) : Option Nat :=
  if idx = 0x1001 then some (errorRegister s)
  else if idx = 0x1003 then some (if sub = 0 then s.can.hist.length else (s.can.hist.getD (sub - 1) 0).toNat)
  else if idx = 0x1014 then some (0x80 + canNode s)
  else if idx = 0x1018 then
    some (if sub = 1 then Config.ciaVendor.toNat else if sub = 2 then 0x2404
      else if sub = 3 then Config.stepping.toNat * 65536 + firmwareRelease s else (lo32 Config.uniqueId).toNat)
  else if idx = 0x1200 then some ((if sub = 1 then 0x600 else 0x580) + canNode s)
  else if cobEntry idx sub then some (cobId s idx)
  else if idx = 0x2000 then
    some (match sub with
      | 1 => 0x2404 | 2 => Config.stepping.toNat | 3 => Config.uniqueId.toNat | 4 => firmwareRelease s
      | 5 => s.img.running.val | _ => Config.bootRelease.toNat)
  else if idx = 0x2002 then some (if sub = 1 then 0 else rr s 0x64)
  else if idx = 0x2003 then some s.od.storeSt
  else if idx = 0x2010 ∧ sub = 7 then some (firmwareRelease s)
  else if idx = 0x2020 ∧ sub = 6 then some s.pin.conflict.toNat
  else if idx = 0x2031 ∧ sub ≠ 5 then
    some (match sub with
      | 1 => (imgSlot s 0).st.code | 2 => (imgSlot s 1).st.code | 3 => s.img.running.val | 4 => 0
      | 6 => slotRelease s 0 | _ => slotRelease s 1)
  else if idx = 0x2040 ∧ sub = 2 then some (reserved s * 50)
  else if idx = 0x2040 ∧ sub = 5 then some (rr s 0x8380C)
  else if idx = 0x2041 ∧ 5 ≤ sub then some (if sub ≤ 8 then 0 else rr s (0x83008 + 0x40 * (sub - 9)))
  else if idx = 0x2060 then
    some (match sub with
      | 1 => slotMap (slotPowered s) | 2 => slotMap (slotFaulty s) | 3 => vinMin s | 4 => reserved s * 50
      | 5 => rr s 0x57208 % 256
      | _ => s.fab.tst.code + 16 * ((allFin 4).filter (fabUp s)).length)
  else if idx = 0x2F01 then
    some (match sub with
      | 1 => 0 | 2 => (match s.lease.owner with | some m => m.val | none => 0xFF) | 3 => s.lease.node.toNat | _ => leaseRemain s)
  else if idx = 0x2F02 ∧ 3 ≤ sub then some (if sub = 3 then 0 else s.od.commSt)
  else if idx = 0x2F10 then
    some (match sub with
      | 1 => b2n s.od.sealed | 2 => 0 | 3 => s.od.sealCount.toNat | 4 => s.od.sealCrc.toNat | _ => s.od.sealSec.toNat)
  else none
/-- Indices 0x3000 to 0x3FFF. -/
def odLive3 (s : State) (idx sub : Nat) : Option Nat :=
  if idx ≤ 0x3017 then
    (let b := 0x80000 + 0x100 * (idx - 0x3000)
     match sub with
     | 4 => some (rr s (b + 0x20)) | 5 => some (rr s (b + 0x24))
     | 6 => (finOf 24 (idx - 0x3000)).map fun p => (BitVec.ofInt 16 (slot s p).tmodel).toNat
     | 7 => some 0 | 8 => some (rr s (b + 0x2C)) | _ => none)
  else if 0x3100 ≤ idx ∧ idx ≤ 0x3117 then (if sub = 13 then some 0 else none)
  else if idx = 0x3210 then some (if sub = 1 then rr s 0x570A4 else rr s (0x57100 + 0x10 * (sub - 2)))
  else if idx = 0x3220 then some (rr s (0x50000 + 0x400 * (sub - 1)))
  else if idx = 0x3230 then some (rr s (0x50020 + 0x400 * (sub - 1)))
  else if idx = 0x3231 then some 0
  else if idx = 0x3240 ∧ sub = 6 then
    some (match (Tbl.get s.usb.fo 0).cmd, (Tbl.get s.usb.fo 1).cmd with
      | some true, _ => 1 | some false, _ => 3 | none, some true => 2 | none, some false => 4 | none, none => 0)
  else if idx = 0x3240 ∧ sub = 7 then some (rr s 0x57208)
  else none
/-- Indices 0x4000 to 0x4FFF. -/
def odLive4 (s : State) (idx sub : Nat) : Option Nat :=
  let i := sub - 1
  if idx = 0x4000 then
    some (match sub with
      | 1 => s.fab.addr.toNat | 2 => s.fab.asrc | 3 => Config.uniqueId.toNat
      | 4 => (match steward s with | some u => (addrOf s u).toNat | none => 0)
      | 5 => s.fab.masterAddr.toNat | 6 => s.fab.tst.code | _ => s.fab.db.length)
  else if idx = 0x4011 then some (rr s (0x90104 + 0x40 * i))
  else if idx = 0x4012 then some (rr s (0x90110 + 0x40 * i))
  else if idx = 0x4020 then some (if sub = 1 then s.fab.rtSel.toNat else rr s (0x94000 + 4 * s.fab.rtSel.toNat))
  else if idx = 0x4030 ∧ sub ≠ 3 then
    some (match sub with | 1 => s.fab.snapTarget.toNat | 2 => s.fab.snapId.toNat | _ => s.fab.snapStat)
  else if 0x4090 ≤ idx ∧ idx ≤ 0x409F ∧ sub ≠ 3 then
    (finOf 16 (idx - 0x4090)).map fun m =>
      let g := Tbl.get s.fab.gates m
      match sub with | 1 => g.target.toNat | 2 => g.sel.toNat | 4 => g.cmd.toNat | 5 => g.status | _ => g.remote
  else if idx = 0x4800 then (finOf 24 i).map fun p => exportWord (exps s p)
  else if idx = 0x4801 then (finOf 24 i).map fun p => (exps s p).vid.toNat + 65536 * (exps s p).pid.toNat
  else if idx = 0x4811 then (finOf 16 i).map fun v => importWord s v
  else if idx = 0x4830 then some (rr s (0xA0108 + 0x20 * i))
  else if idx = 0x4831 then some (rr s (0xA0408 + 0x10 * i))
  else none
/-- Indices 0x5000 to 0x5FFF. -/
def odLive5 (s : State) (idx sub : Nat) : Option Nat :=
  let i := sub - 1
  if idx = 0x5001 then some (rr s (0x10100 + 0x10 * i))
  else if idx = 0x5010 ∧ sub = 2 then some s.od.profRes.toNat
  else if idx = 0x5030 then
    (match sub with
     | 1 => some vtarget | 2 => some (rr s 0x10024)
     | _ => if (Sparse.find s.od.vals (odKey 0x5030 3)).isSome then none else some vtarget)
  else if idx = 0x5400 then
    (match sub with
     | 1 => some s.ao.calSec.toNat
     | 2 => if (Sparse.find s.od.vals (odKey 0x5400 2)).isSome then none else some s.ao.calSub
     | 4 => some s.ao.calQual | 5 => some s.ao.alarm.toNat | _ => none)
  else if idx = 0x5402 then some (if sub = 1 then s.time.tb.toNat else rr s 0xC000C)
  else if idx = 0x5410 then
    some (match sub with
      | 1 => (match journalRecs s with | b :: _ => (recSeq b).toNat | [] => 0xFFFFFFFF)
      | 2 => (newestSeq s).toNat | 3 => (journalRecs s).length | _ => (s.jr.recs.filter fun r => !r.good).length)
  else if (idx = 0x5411 ∨ idx = 0x5412) ∧ sub = 1 then none
  else if idx = 0x5420 then (finOf 12 i).map fun k => Tbl.get s.jr.life k
  else if idx = 0x5421 then (finOf 24 i).map fun p => Tbl.get s.jr.lifeOn p
  else if idx = 0x5422 then (finOf 24 i).map fun p => Tbl.get s.jr.lifeTrip p
  else if idx = 0x5423 then (finOf 24 i).map fun p => Tbl.get s.jr.lifeCut p
  else if idx = 0x5800 then some (rr s (0x1000 + 4 * i))
  else if idx = 0x5801 then some (rr s (0x1100 + 4 * i))
  else if idx = 0x5802 then some (rr s (0x1200 + 4 * i))
  else if idx = 0x5810 then some (rr s (if sub = 1 then 0x40000 else 0x40010))
  else if idx = 0x5811 then some (rr s (0x40100 + 0x10 * i))
  else if idx = 0x5812 then some (rr s (0x40104 + 0x10 * i))
  else if idx = 0x5820 then some (rr s (0x30020 + 0x40 * i))
  else if idx = 0x5821 then (finOf 64 i).map fun q => (queue s q).wmCross + 256 * b2n (queue s q).wm
  else if idx = 0x5822 then some (rr s (0x30028 + 0x40 * i))
  else if idx = 0x5823 then some (if sub = 1 then rr s 0x31004 else if sub ≤ 17 then rr s (0x31200 + 4 * (sub - 2)) else rr s 0x31240)
  else if idx = 0x5830 then some (if sub ≤ 16 then rr s (0x20200 + 4 * i) else rr s (0x20300 + 4 * (sub - 17)))
  else if idx = 0x5840 then some (rr s (0x808 + 0x20 * i))
  else if idx = 0x5841 then some (rr s (0x80C + 0x20 * i))
  else if idx = 0x5842 then some (rr s (0x810 + 0x20 * i))
  else if idx = 0x5845 then some 0
  else if idx = 0x5850 ∧ sub = 1 then some 0
  else none
/-- The number an entry shows when the device computes it, mirrors a register without a value of its own, or has taken
the trigger written to it. -/
def odLive (s : State) (idx sub : Nat) : Option Nat :=
  if idx < 0x3000 then odLive2 s idx sub else if idx < 0x4000 then odLive3 s idx sub
  else if idx < 0x5000 then odLive4 s idx sub else odLive5 s idx sub
/-- The byte strings the device computes. -/
def odLiveBytes (s : State) (idx sub : Nat) : Option (List Byte) :=
  if idx = 0x1008 then some [0x51, 0x48, 0x2D, 0x32, 0x34, 0x30, 0x34]
  else if idx = 0x100A then some ((Config.releaseText (BitVec.ofNat 16 (firmwareRelease s))).take 16)
  else if idx = 0x2F02 ∧ sub = 1 then some (s.lease.challenge.getD [])
  else if 0x4090 ≤ idx ∧ idx ≤ 0x409F ∧ sub = 3 then (finOf 16 (idx - 0x4090)).map fun m => (Tbl.get s.fab.gates m).value
  else if idx = 0x5400 ∧ sub = 3 then
    some (leBytes s.time.calTb.toNat 8 ++ le32 s.ao.calSec.toNat ++ [toByte s.ao.calQual, toByte (b2n s.time.tbEst), 0, 0])
  else if idx = 0x5851 then some (s.snap.copies.getD (sub - 1) [])
  else if idx = 0x5852 then
    some (match s.snap.copies[sub - 1]? with
      | some d => le32 (snapWord d 0) ++ le32 (snapWord d 1) ++ le32 (snapWord d 5) ++ le32 (crc32c d).toNat
      | none => [])
  else none

/-! ## Accepted values -/

/-- Entries that mirror a register: they show the value in force (R277). -/
def odMirror (idx sub : Nat) : Bool :=
  (0x5828 ≤ idx && idx ≤ 0x582C) || idx = 0x5832 || idx = 0x5843 || idx = 0x5844 || idx = 0x5803 || idx = 0x5002 ||
  (idx = 0x4820 && 4 ≤ sub)
/-- The value of a pending TICK write of an entry, the newest. -/
def odPending (s : State) (idx sub : Nat) : Option (List Byte) :=
  ((s.od.pend.filter fun x => x.key = odKey idx sub).getLast?).map (·.bytes)
/-- The value accepted for an entry, or what its block holds where the block has refused or overridden it (R277). -/
def odAccepted (s : State) (idx sub : Nat) : List Byte :=
  let plain := Sparse.get odDefault s.od.vals (odKey idx sub)
  match odBack idx sub with
  | none => plain
  | some b =>
    let own (w : Word) : List Byte := odBytes idx sub (b.read w)
    if odMirror idx sub then own (readReg s b.addr)
    else match odPending s idx sub with
      | some l => l
      | none =>
        let refused := match shadowAt s b.addr with | some h => h.refused | none => false
        if refused then own (regv s b.addr)
        else match b with
          | .pin k => if s.pin.conflict.getLsbD k then odBytes idx sub 0 else plain
          | .timer a =>
            (match famFin 0xC0200 0x10 16 a with
             | some n => if (Tbl.get s.eng.tm n).conflict then odBytes idx sub 8 else plain
             | none => plain)
          | .field .. => plain
/-- The value an entry reads as. -/
def odValue (s : State) (idx sub : Nat) : List Byte :=
  match odLiveBytes s idx sub with
  | some l => l
  | none => match odLive s idx sub with
    | some n => odBytes idx sub n
    | none => match odPending s idx sub with
      | some l => if odMirror idx sub then odAccepted s idx sub else l
      | none => odAccepted s idx sub

/-! ## Reading -/

/-- PE0 serves dictionary requests (R170, R281). -/
def odServes (s : State) : Bool := peRuns s 0 && !bootWait s
/-- REMOTE (R240). -/
def remoteLevel (s : State) : Nat := odNum s 0x4001 3
/-- The path of a master permits a read (R240, R275). -/
def odMayRead (s : State) (w : Who) (r : OdRow) (sub : Nat) : Bool :=
  w.m.val ≠ 4 || (r.idx = 0x5400 && sub = 3) || (if r.lvl = .basic then 1 ≤ remoteLevel s else remoteLevel s = 3)
/-- A dictionary read: status, value and state (a journal cursor advances). -/
def odRead (w : Who) (idx sub : Nat) (s : State) : Nat × List Byte × State :=
  if !odServes s then (8, [], s)
  else match odRow idx sub with
    | none =>
      if sub = 0 && !(odIndexRows idx).isEmpty then
        (if w.m.val = 4 && remoteLevel s = 0 then (2, [], s) else (0, [toByte (odHighest idx)], s))
      else (1, [], s)
    | some r =>
      if r.acc = .wo then (1, [], s)
      else if !odMayRead s w r sub then (2, [], s)
      else if (idx = 0x5411 ∨ idx = 0x5412) ∧ 1 < sub then
        (let (d, s1) := journalTake w.m (idx = 0x5412) (if sub = 2 then 1 else 64) s
         (0, d, s1))
      else if idx = 0x5411 ∨ idx = 0x5412 then
        (0, le32 (Tbl.get (if idx = 0x5411 then s.jr.cursor else s.jr.repCursor) w.m).toNat, s)
      else if idx = 0x5F00 ∧ sub = 2 then
        (let (c, v, s1) := readAt (ofLe (odAccepted s 0x5F00 1)) s
         (c, if c = 0 then le32 v.toNat else [], s1))
      else (0, odValue s idx sub, s)

end Sys2Proof.Machine
end

