-- ==== Sys2Proof/Machine/Gateway.lean ====
section
/-!
DEFINITION. The remote dictionary gateways of the sixteen masters (R242).
-/

namespace Sys2Proof.Machine

open Sys2Proof

/-- Gateway of a master. -/
def gate (s : State) (m : Fin 16) : GateS := Tbl.get s.fab.gates m
/-- Change a gateway. -/
def updGate (m : Fin 16) (f : GateS → GateS) (s : State) : State := { s with fab := { s.fab with gates := Tbl.upd s.fab.gates m f } }
/-- Low 12 bits of the target: the node's address. -/
def gateNode (g : GateS) : BitVec 12 := BitVec.ofNat 12 g.target.toNat
/-- Index and subindex that a gateway's sub 2 selects. -/
def gateIndex (g : GateS) : Half := BitVec.ofNat 16 (g.sel.toNat / 256)
def gateSub (g : GateS) : Byte := BitVec.ofNat 8 g.sel.toNat
/-- No route leads to a node. -/
def noRouteTo (s : State) (a : BitVec 12) : Bool :=
  match lookup s a.toNat false with | .none => true | .here => false | .port _ _ => false
/-- Send, or send again, the request of a gateway; without a route its status is 4. -/
def gateSend (m : Fin 16) (s : State) : State :=
  let g := gate s m
  if noRouteTo s (gateNode g) then updGate m (fun g => { g with status := 4, cmd := 0 }) s
  else
    odxSend (gateNode g) (if g.cmd = 2 then 0x02 else 0x01) g.tag (gateIndex g) (gateSub g) 0 (if g.cmd = 2 then g.value else []) s
/-- A command is written to sub 4: 1 read, 2 write. A command written while one is under way replaces it. -/
def gateCommand (m : Fin 16) (cmd : Nat) (s : State) : State :=
  let tag := s.fab.gateTag + 1
  gateSend m (updGate m (fun g => { g with cmd := toByte cmd, status := 1, remote := 0, tag := tag, attempts := 1 })
    { s with fab := { s.fab with gateTag := tag } })
/-- GATEWAY_TIMEOUT: ODX_TIMEOUT passes without the response; three attempts in all. -/
def gateTimeout (m : Fin 16) (s : State) : State :=
  let g := gate s m
  if g.status ≠ 1 then s
  else if g.attempts < 3 then gateSend m (updGate m (fun g => { g with attempts := g.attempts + 1 }) s)
  else updGate m (fun g => { g with status := 3, cmd := 0 }) s
/-- A response is the one a gateway waits for. -/
def gateWaits (g : GateS) (src : BitVec 12) (r : OdxMsg) : Bool :=
  g.status = 1 && g.tag = r.tag && gateNode g = src && r.write = (g.cmd = 2 : Bool) && gateIndex g = r.index && gateSub g = r.sub
/-- A part of a response reaches its gateway: a read's data go to sub 3; at the last part the gateway is done. A remote
status 2 reads as "level not permitted" in sub 5 as well (DEDUCED). -/
def gateResponse (m : Fin 16) (r : OdxMsg) (s : State) : State :=
  let g := gate s m
  if !r.write && r.off ≠ 0 && r.off ≠ g.value.length then s
  else
    let v := if r.write || r.status ≠ 0 then g.value else if r.off = 0 then r.data else g.value ++ r.data
    if r.last || r.status ≠ 0 then
      updGate m (fun g => { g with value := v, status := if r.status = 2 then 5 else 2, remote := r.status, cmd := 0 }) s
    else updGate m (fun g => { g with value := v }) s
/-- ODX_RESPONSE_RECEIVE: the response of a gateway, or the answer to an import's bind (R242, R252). -/
def odxResponse (src : BitVec 12) (r : OdxMsg) (info : BindInfo) (s : State) : State :=
  match (allFin 16).find? fun m => gateWaits (gate s m) src r with
  | some m => gateResponse m r s
  | none =>
    match (allFin 16).find? fun v => (imp s v).bindTag = some r.tag && impAddr s v = src && r.write with
    | some v => bindAnswer v r.status info s
    | none => s

end Sys2Proof.Machine
end

