-- ==== Sys2Proof/Machine/OdWrite.lean ====
section
/-!
DEFINITION. Writing the object dictionary: validation by type, range and level, what an accepted write does at once,
and what it does at the next device tick (R273 to R293).
-/

namespace Sys2Proof.Machine

open Sys2Proof

/-! ## Validation (R273 to R275, R278) -/

/-- The level of an entry permits a write of a master (R275, R240): 0, or the status that refuses it. -/
def odLevelCode (s : State) (w : Who) (r : OdRow) : Nat :=
  if 8 ≤ w.m.val then 0
  else match r.lvl with
    | .basic => 0
    | .expert => if leaseHeldBy s w then 0 else if w.m.val = 4 || s.lease.owner.isSome then 3 else 2
    | .comm => if commLevel s w then 0 else if !leaseHeldBy s w && s.lease.owner.isSome then 3 else 2
/-- REMOTE permits master 4 a write (R240). -/
def odRemoteMayWrite (s : State) (w : Who) (r : OdRow) : Bool :=
  w.m.val ≠ 4 ||
  (!(0x4090 ≤ r.idx && r.idx ≤ 0x409F) &&
   (match r.lvl with | .basic => 2 ≤ remoteLevel s | .expert => remoteLevel s = 3 | .comm => false))
/-- An object that a PDO may map (R297): `tx` for a TPDO. -/
def mappable (tx : Bool) (v : Nat) : Bool :=
  match odRow (v / 65536) (v / 256 % 256) with
  | some r =>
    let n := r.ty.size
    r.lvl = .basic && (n = 1 || n = 2 || n = 4) && v % 256 = 8 * n &&
    (if tx then (r.acc = .ro || r.acc = .rw) else (r.acc = .rw && r.takes = .tick))
  | none => false
/-- Bytes a PDO carries (R297). -/
def pdoMax (s : State) : Nat := if bit (regv s 0xB0004) 13 then 64 else 8
/-- The mapping entries of a PDO, the first `n`. -/
def mapping (s : State) (idx n : Nat) : List Nat := (List.range n).map fun k => ofLe (odGet s idx (k + 1))
/-- Bytes of mapped objects. -/
def mappedLen (l : List Nat) : Nat := (l.map fun v => v % 256 / 8).foldl (· + ·) 0
/-- A write of a mapping entry follows the procedure of R301: entries while the count is 0, then a count whose objects
may be mapped and fit. 0, or the status that refuses it. -/
def mappingCode (s : State) (tx : Bool) (idx sub v : Nat) : Nat :=
  if sub = 0 then
    (if 8 < v then 5
     else
       let l := mapping s idx v
       if l.all (mappable tx) && mappedLen l ≤ pdoMax s then 0 else 5)
  else if ofLe (odGet s idx 0) ≠ 0 then 2
  else if v = 0 || mappable tx v then 0 else 5
/-- Conditions of single entries beyond type, range and level: 0, or the status that refuses the write. -/
def odExtraCode (s : State) (w : Who) (idx sub v : Nat) : Nat :=
  if 0x3000 ≤ idx ∧ idx ≤ 0x3017 ∧ sub = 2 then
    (match finOf 24 (idx - 0x3000) with
     | some p => if slotCeil s p < v / 50 || !limitFits s p (v / 50) then 5 else 0
     | none => 1)
  else if idx = 0x2050 ∧ (sub = 2 ∨ sub = 4) then
    (let fd := if sub = 4 then v else ofLe (odAccepted s 0x2050 4)
     let rate := if sub = 2 then v else ofLe (odAccepted s 0x2050 2)
     if fd = 1 ∧ rate ≠ 0 ∧ rate ≠ 2 then 5 else 0)
  else if idx = 0x3240 ∧ sub = 6 then
    (if (v = 1 ∧ w.m.val ≠ 0) ∨ (v = 2 ∧ w.m.val ≠ 1) then (if leaseHeldBy s w || 8 ≤ w.m.val then 0 else 2) else 0)
  else if 0x4090 ≤ idx ∧ idx ≤ 0x409F then (if idx - 0x4090 = w.m.val then 0 else 2)
  else if idx = 0x2F10 ∧ sub = 2 then (if v = 1 ∧ (odGet s 0x2F12 0).isEmpty then 5 else 0)
  else if 0x1600 ≤ idx ∧ idx ≤ 0x1603 then mappingCode s false idx sub v
  else if 0x1A00 ≤ idx ∧ idx ≤ 0x1A03 then mappingCode s true idx sub v
  else if idx = 0x5030 then (if s.ao.pmBusy then 7 else 0)
  else if idx = 0x1010 then (if s.od.store.isSome then 3 else 0)
  else 0
/-- What PE0 can tell before the value is known: existence, access, seal and level (R278). -/
def odStartCode (w : Who) (idx sub : Nat) (s : State) : Nat :=
  if !odServes s then 8
  else match odRow idx sub with
    | none => if sub = 0 && !(odIndexRows idx).isEmpty then 2 else 1
    | some r =>
      if r.acc = .ro || r.acc = .const then 2
      else if !odRemoteMayWrite s w r then 2
      else if r.keep = .sealed && s.od.sealed then 2
      else odLevelCode s w r
/-- PE0's validation of a value by length, type, range and the entry's own conditions (R278). -/
def odValueCode (w : Who) (idx sub : Nat) (data : List Byte) (s : State) : Nat :=
  match odRow idx sub with
  | none => 1
  | some r =>
    if !r.ty.fits data.length then 5
    else match r.ty with
      | .bool => if 1 < ofLe data then 5 else odExtraCode s w idx sub (ofLe data)
      | .num _ => if !odRangeOk idx sub (ofLe data) then 5 else odExtraCode s w idx sub (ofLe data)
      | .text _ => odExtraCode s w idx sub 0
      | .octets _ => odExtraCode s w idx sub 0
/-- PE0's validation of a write (R278): 0 accepted, else the status that refuses it. -/
def odWriteCode (w : Who) (idx sub : Nat) (data : List Byte) (s : State) : Nat :=
  let c := odStartCode w idx sub s
  if c ≠ 0 then c else odValueCode w idx sub data s
/-- The CANopen abort code of a refused access (R278, R297): `write` with the data's length. -/
def odAbort (s : State) (write : Option Nat) (idx sub code : Nat) : Word :=
  if code = 1 then
    (if (odIndexRows idx).isEmpty then 0x06020000
     else match odRow idx sub with | none => 0x06090011 | some _ => 0x06010001)
  else if code = 2 then
    (match write, odRow idx sub with
     | some _, some r => if r.acc = .ro || r.acc = .const then 0x06010002 else 0x06010000
     | some _, none => 0x06010002
     | none, _ => 0x06010000)
  else if code = 3 then 0x08000022
  else if code = 4 then 0x08000021
  else if code = 5 then
    (match write, odRow idx sub with
     | some n, some r =>
       if !r.ty.fits n then 0x06070010
       else if (0x1600 ≤ idx ∧ idx ≤ 0x1603) ∨ (0x1A00 ≤ idx ∧ idx ≤ 0x1A03) then 0x06040041
       else 0x06090030
     | _, _ => 0x06090030)
  else if code = 6 then 0x06090030
  else if code = 7 then 0x06060000
  else if code = 8 then 0x08000020
  else if code = 9 ∨ code = 10 then 0x08000000
  else (if s.start.stage = .run then 0x08000000 else 0x08000020)

/-! ## Stores and the seal (R283 to R285, R291, R292) -/

/-- Keep a value as accepted. -/
def odPut (k : Nat) (data : List Byte) (s : State) : State :=
  { s with od := { s.od with vals := Sparse.put odDefault s.od.vals k data } }
/-- A store command. -/
def storeCommand (seals : Bool) (m : Fin 16) (s : State) : State :=
  { s with od := { s.od with store := some { seals := seals, master := m, copy := none }, storeSt := if s.od.storeSt = 2 then 2 else 1 } }
/-- The record with the higher sequence number (R284). -/
def newestCfg (s : State) : Option (Fin 2 × CfgRec) :=
  match Tbl.get s.od.recs 0, Tbl.get s.od.recs 1 with
  | some a, some b => if a.seq.toNat < b.seq.toNat then some (1, b) else some (0, a)
  | some a, none => some (0, a)
  | none, some b => some (1, b)
  | none, none => none
/-- Persistence of an entry by its key. -/
def keepOf (k : Nat) : OdKeep := match odRow (k / 256) (k % 256) with | some r => r.keep | none => .vol
/-- Every SEALED entry that can be written, in index order. -/
def sealedKeys : List Nat :=
  (odRows1 ++ odRows2 ++ odRows3 ++ odRows4 ++ odRows5).flatMap fun r =>
    if r.keep = .sealed && r.acc = .rw then
      (List.range r.count).flatMap fun i => (List.range (r.hi + 1 - r.lo)).map fun j => odKey (r.idx + i) (r.lo + j)
    else []
/-- CRC-32C of all SEALED values in index order (R291). -/
def sealCrcOf (s : State) : Word := crc32c (sealedKeys.flatMap fun k => odAccepted s (k / 256) (k % 256))
/-- PE0 copies the values of a store that waits, at the first device tick after its command (R283). -/
def storeCopy (s : State) : State :=
  match s.od.store with
  | some st =>
    if st.copy.isSome || !odServes s then s
    else
      let old := newestCfg s
      let now := (s.od.vals.map fun e => (e.1, odAccepted s (e.1 / 256) (e.1 % 256))).filter fun e =>
        decide (e.2 ≠ odDefault e.1) && (keepOf e.1 = .nv || (keepOf e.1 = .sealed && !s.od.sealed))
      let kept := if s.od.sealed then (match old with | some x => x.2.vals.filter fun e => keepOf e.1 = .sealed | none => []) else []
      let vals := kept.foldl (fun l e => Sparse.insert e.1 e.2 l) now
      let target : Fin 2 := match old with | some x => if x.1 = 0 then 1 else 0 | none => 0
      let rec_ : CfgRec :=
        { seq := match old with | some x => x.2.seq + 1 | none => 0
          vals := vals
          crcRef := regv s 0x100
          sealed := s.od.sealed || st.seals
          sealCount := s.od.sealCount + (if st.seals then 1 else 0)
          sealCrc := if st.seals then sealCrcOf s else s.od.sealCrc
          sealSec := s.od.sealSec }
      { s with od := { s.od with store := some { st with copy := some rec_ }, recs := Tbl.put s.od.recs target none } }
  | none => s
/-- STORE_COMPLETE: the record verifies, or its write fails. -/
def storeComplete (ok : Bool) (s : State) : State :=
  match s.od.store with
  | some st =>
    (match st.copy with
     | some r =>
       let target : Fin 2 := match newestCfg s with | some x => if x.1 = 0 then 1 else 0 | none => 0
       let next : Option StoreS := s.od.sealNext.map fun m => { seals := true, master := m, copy := none }
       let base := { s with od := { s.od with store := next, sealNext := none } }
       if !ok then countEv 13 { base with od := { base.od with storeSt := 2 } }
       else
         let r1 := if st.seals then { r with sealSec := s.ao.calSec } else r
         let done_ := { base with od := { base.od with
           recs := Tbl.put base.od.recs target (some r1), storeSt := if next.isSome then 1 else 0, loadMark := false } }
         if st.seals then
           journalConfig 3 st.master.val objFlash 0 0 (lifeInc 9 { done_ with od := { done_.od with
             sealed := true, sealCount := r1.sealCount, sealCrc := r1.sealCrc, sealSec := r1.sealSec } })
         else journalConfig 2 st.master.val objFlash 0 0 done_
     | none => s)
  | none => s
/-- The seal command is taken at its tick: its store starts, or follows the one in progress (R291, R303). -/
def sealTake (m : Fin 16) (s : State) : State :=
  if s.od.store.isSome then { s with od := { s.od with sealNext := some m } } else storeCommand true m s
/-- The reopen command is taken at its tick (R292). -/
def reopenTake (m : Fin 16) (s : State) : State :=
  if s.od.sealed then
    journalConfig 4 m.val objFlash 0 0 { s with od := { s.od with sealed := false, sealCrc := 0, sealSec := 0 } }
  else s

/-! ## Effects of an accepted write -/

/-- Write an entry's value into the register that backs it, as `m`. -/
def odToRegister (m : Fin 16) (b : OdBack) (v : Nat) (s : State) : State :=
  if hasShadow b.addr then writeShadow m b.addr (b.write (shadowValue s b.addr) v) 0xFFFFFFFF s
  else setReg b.addr (b.write (regv s b.addr) v) s
/-- A value waits for the next device tick. -/
def odTickPut (w : Who) (k : Nat) (data : List Byte) (s : State) : State :=
  let s1 := odPut k data s
  { s1 with od := { s1.od with pend := s1.od.pend ++ [{ key := k, bytes := data, master := w.m, node := w.node }] } }
/-- Writing OD 0x2061: bit `s` of the value to 0x3000 + s sub 1 of every slot, as one basic write (R298). -/
def slotEnables (w : Who) (v : Nat) (s : State) : State :=
  eachFin 24 (fun p t => odTickPut w (odKey (0x3000 + p.val) 1) [toByte (b2n (v.testBit p.val))] t) s
/-- A gateway entry: target, selection, value or command. -/
def gateWrite (m : Fin 16) (sub : Nat) (data : List Byte) (s : State) : State :=
  match sub with
  | 1 => updGate m (fun g => { g with target := BitVec.ofNat 16 (ofLe data) }) s
  | 2 => updGate m (fun g => { g with sel := BitVec.ofNat 32 (ofLe data) }) s
  | 3 => updGate m (fun g => { g with value := data }) s
  | _ => gateCommand m (ofLe data) s
/-- What an IMM entry of an index below 0x4000 does when it is written: status and state. -/
def odImmLow (w : Who) (idx sub : Nat) (data : List Byte) (s : State) : Nat × State :=
  let n := ofLe data
  if idx = 0x1003 then (0, { s with can := { s.can with hist := [] } })
  else if idx = 0x1010 then (0, storeCommand false w.m s)
  else if idx = 0x1011 then (0, { s with od := { s.od with loadMark := true } })
  else if idx = 0x2041 then
    (match finOf 4 (sub - 5) with
     | some g => (0, if n = 1 then groupOpen g s else groupClose g s)
     | none => (1, s))
  else if idx = 0x2F01 then leaseAction w n s
  else if idx = 0x2F02 then (if sub = 2 then commResponse w data s else commChallenge w s)
  else if idx = 0x2F03 then
    (0, if sub = 1 then portsSettle (applyGroups (BitVec.ofNat 16 n) s) else armWrite (BitVec.ofNat 16 n) 0 s)
  else (0, odPut (odKey idx sub) data s)
/-- The same for indices 0x4000 and above. -/
def odImmHigh (w : Who) (idx sub : Nat) (data : List Byte) (s : State) : Nat × State :=
  let n := ofLe data
  let k := odKey idx sub
  if idx = 0x4020 then (0, { s with fab := { s.fab with rtSel := BitVec.ofNat 16 n } })
  else if idx = 0x4030 then
    (0, if sub = 1 then { s with fab := { s.fab with snapTarget := BitVec.ofNat 64 n } }
        else { s with fab := { s.fab with snapId := BitVec.ofNat 32 n } })
  else if 0x4090 ≤ idx ∧ idx ≤ 0x409F then (0, gateWrite w.m sub data s)
  else if idx = 0x4804 then
    (match finOf 24 (sub - 1) with
     | some p => let (c, s1) := bindWrite w p (toWord n) s; (c, if c = 0 then odPut k data s1 else s1)
     | none => (1, s))
  else if idx = 0x5030 then (0, voltStart n (odPut k data s))
  else if idx = 0x5400 then
    (match sub with
     | 1 =>
       let (c, s1) := hostTimeWrite w (toWord n) (ofLe (odGet s 0x5400 2)) s
       (c, if c = 0 then { s1 with od := { s1.od with vals := Sparse.drop s1.od.vals (odKey 0x5400 2) } } else s1)
     | 2 => (0, odPut k data s)
     | _ => (0, { s with ao := { s.ao with alarm := toWord n } }))
  else if idx = 0x5411 then (0, { s with jr := { s.jr with cursor := Tbl.put s.jr.cursor w.m (toWord n) } })
  else if idx = 0x5412 then (0, { s with jr := { s.jr with repCursor := Tbl.put s.jr.repCursor w.m (toWord n) } })
  else if idx = 0x5801 then
    (match finOf 64 (sub - 1) with | some e => (0, eventAck e (BitVec.ofNat 16 n) s) | none => (1, s))
  else if idx = 0x5832 then
    (match odBack idx sub with | some b => (0, odToRegister w.m b n (odPut k data s)) | none => (1, s))
  else if idx = 0x5845 then
    (match finOf 8 (sub - 1) with | some e => (0, if n = 1 then engineResetIf e 5 w.m.val s else s) | none => (1, s))
  else if idx = 0x5850 then (0, snapRaise 0 w.m.val s)
  else if idx = 0x5F00 then
    (if sub = 1 then (0, odPut k data s) else writeReg w (ofLe (odAccepted s 0x5F00 1)) (toWord n) s)
  else (0, odPut k data s)
/-- An accepted write takes effect as its entry states (R276): status and state. -/
def odTake (w : Who) (r : OdRow) (idx sub : Nat) (data : List Byte) (s : State) : Nat × State :=
  let k := odKey idx sub
  match r.takes with
  | .imm => if idx < 0x4000 then odImmLow w idx sub data s else odImmHigh w idx sub data s
  | .reset => (0, odPut k data s)
  | .apply =>
    (match odBack idx sub with
     | some b => (0, odToRegister w.m b (ofLe data) (odPut k data s))
     | none => (0, odPut k data s))
  | .tick =>
    if idx = 0x2002 then (0, resetRequest (if ofLe data = 1 then .module w.m else .core w.m) s)
    else if idx = 0x2031 then imageCommand w.m (ofLe data) s
    else if idx = 0x3240 ∧ sub = 6 then (0, foCommand w.m (ofLe data) s)
    else if idx = 0x2061 then (0, slotEnables w (ofLe data) (odPut k data s))
    else (0, odTickPut w k data s)
/-- A dictionary write: status and state (R278). -/
def odWrite (w : Who) (idx sub : Nat) (data : List Byte) (s : State) : Nat × State :=
  let c := odWriteCode w idx sub data s
  if c ≠ 0 then (c, s)
  else match odRow idx sub with
    | some r => odTake w r idx sub data s
    | none => (1, s)

/-! ## At the tick (R276, R282) -/

/-- PE0 carries out one pending write: it sets the register, arms its group, and sets ADOPT (R276, R323). -/
def odTickOne (x : OdPend) (s : State) : State :=
  let idx := x.key / 256
  let sub := x.key % 256
  let n := ofLe x.bytes
  if 0x3000 ≤ idx ∧ idx ≤ 0x3017 ∧ sub = 2 then
    (match finOf 24 (idx - 0x3000) with
     | some p =>
       if limitFits s p (n / 50) then limitSet p (n / 50) s
       else odPut x.key (le16 (slotLimit s p * 50)) s
     | none => s)
  else if 0x3000 ≤ idx ∧ idx ≤ 0x3017 ∧ sub = 7 then
    (match finOf 24 (idx - 0x3000) with | some p => if n = 1 then lockoutClear x.master.val p s else s | none => s)
  else if 0x3100 ≤ idx ∧ idx ≤ 0x3117 ∧ sub = 13 then
    (match finOf 24 (idx - 0x3100) with | some p => if n = 1 then fetClear x.master.val p s else s | none => s)
  else if idx = 0x3231 then (match finOf 24 (sub - 1) with | some p => if n = 1 then babblerAck p s else s | none => s)
  else if idx = 0x4030 then snapSchedule s
  else if idx = 0x4810 then xptFollow s
  else if idx = 0x5000 then
    (let s1 := domainCommand 8 (sub - 1) n (domResult 0 (sub - 1) s)
     { s1 with od := { s1.od with profRes := BitVec.ofNat 16 (s1.ao.resCode + 256 * s1.ao.resDom) } })
  else if idx = 0x5010 then profile x.master.val n s
  else if idx = 0x2F10 then (if n = 1 then sealTake x.master s else reopenTake x.master s)
  else match odBack idx sub with
    | some b =>
      let s1 := { s with regs := { s.regs with adopt := some 8, passAdopts := false } }
      let s2 := odToRegister 8 b n s1
      if hasShadow b.addr then armWrite (BitVec.ofNat 16 (2 ^ groupNo s2 b.addr)) 0 s2 else s2
    | none => s
/-- At T+1 PE0 carries out the pending TICK writes, oldest first. Trigger entries keep no value. -/
def odTick (s : State) : State :=
  if !odServes s then s
  else
    let l := s.od.pend
    let s1 := l.foldl (fun t x => odTickOne x t) s
    { s1 with od := { s1.od with pend := [] } }

end Sys2Proof.Machine
end

