-- ==== Sys2Proof/Machine/Odx.lean ====
section
/-!
DEFINITION. Remote dictionary requests that this node answers, and the lease of a remote master (R239 to R241, R281).
-/

namespace Sys2Proof.Machine

open Sys2Proof

/-- The requesting node acts as master 4 (R240). -/
def remoteWho (src : BitVec 12) : Who := { m := 4, node := src }
/-- Send the response to a request. -/
def odxReply (src : BitVec 12) (r : OdxMsg) (status : Nat) (data : List Byte) (s : State) : State :=
  odxSend src (if r.write then 0x82 else 0x81) r.tag r.index r.sub status data s
/-- An instant lies within the last second. -/
def within1s (s : State) (t : DWord) : Bool := s.time.tb.toNat < t.toNat + 1000000000
/-- Answer a request and keep the response among the last 16 (R241). -/
def odxAnswer (src : BitVec 12) (r : OdxMsg) (status : Nat) (data : List Byte) (s : State) : State :=
  let e : OdxStore :=
    { src := src, tag := r.tag, at_ := s.time.tb, op := if r.write then 0x82 else 0x81, index := r.index, sub := r.sub, status := status, data := data }
  let l := s.fab.odxStore ++ [e]
  odxReply src r status data { s with fab := { s.fab with odxStore := l.drop (l.length - 16) } }
/-- Stored responses and parts older than 1 s are discarded. -/
def odxExpire (s : State) : State :=
  { s with fab := { s.fab with
    odxStore := s.fab.odxStore.filter fun e => within1s s e.at_
    odxParts := s.fab.odxParts.filter fun e => within1s s e.at_ } }
/-- Parts of a write that this request continues. -/
def odxPartOf (s : State) (src : BitVec 12) (tag : Byte) : Option OdxPart := s.fab.odxParts.find? fun e => e.src = src && e.tag = tag
/-- The parts of a write are discarded. -/
def odxPartDrop (src : BitVec 12) (tag : Byte) (s : State) : State :=
  { s with fab := { s.fab with odxParts := s.fab.odxParts.filter fun e => !(e.src = src && e.tag = tag) } }
/-- A part of a write: applied together when the last part completes the value (R241). -/
def odxWritePart (src : BitVec 12) (r : OdxMsg) (s : State) : State :=
  let got := match odxPartOf s src r.tag with | some e => e.data | none => []
  let s1 := odxPartDrop src r.tag s
  if r.off ≠ got.length then odxAnswer src r 5 [] s1
  else
    let all := got ++ r.data
    if !r.last then
      { s1 with fab := { s1.fab with odxParts := s1.fab.odxParts ++ [{ src := src, tag := r.tag, at_ := s1.time.tb, data := all }] } }
    else if all.length ≠ r.total then odxAnswer src r 5 [] s1
    else
      let (c, s2) := odWrite (remoteWho src) r.index.toNat r.sub.toNat all s1
      odxAnswer src r c [] s2
/-- ODX_REQUEST_RECEIVE. -/
def odxRequest (src : BitVec 12) (r : OdxMsg) (s : State) : State :=
  if !odServes s then odxReply src r 8 [] s
  else
    let s1 := odxExpire s
    match s1.fab.odxStore.find? fun e => e.src = src && e.tag = r.tag with
    | some e => odxSend src e.op e.tag e.index e.sub e.status e.data s1
    | none =>
      if r.write then odxWritePart src r s1
      else
        let (c, d, s2) := odRead (remoteWho src) r.index.toNat r.sub.toNat s1
        odxAnswer src r c d s2
/-- REMOTE_LEASE_REVOKE: the route to the node that holds master 4's lease has been invalid for 1 s (R240). -/
def remoteRevoke (s : State) : State :=
  if s.lease.owner = some 4 && noRouteTo s s.lease.node then leaseRevoke s else s

end Sys2Proof.Machine
end

