-- ==== Sys2Proof/Machine/Can.lean ====
section
/-!
DEFINITION. The CANopen node: SDO and USDO transfers, PDOs, NMT, EMCY, SYNC, TIME and heartbeat (R294 to R301). The
bytes of classic SDO frames are those of CiA 301 (PRESUMED, log entry 10).
-/

namespace Sys2Proof.Machine

open Sys2Proof

/-- The CAN master. -/
def canWho : Who := { m := 3, node := 0 }
/-- FDEN in force. -/
def canFd (s : State) : Bool := bit (regv s 0xB0004) 13
/-- The node takes part in traffic: controller on, not bus off, PE7 running, past INIT (R170, R295). -/
def canLive (s : State) : Bool := canEn s && s.can.bus ≠ 2 && peRuns s 7 && s.can.nmt ≠ .init
/-- SDO and USDO are served: PRE-OPERATIONAL and OPERATIONAL. -/
def sdoLive (s : State) : Bool := canLive s && s.can.nmt ≠ .stopped
/-- Send a CAN frame. -/
def canOut (cob : Nat) (data : List Byte) (s : State) : State := s.emit [.can cob data]

/-! ## EMCY (R299) -/

/-- An EMCY waits to be sent; its code heads 0x1003. -/
def emcyRaise (code : Nat) (info : List Byte) (s : State) : State :=
  { s with can := { s.can with
    emcy := s.can.emcy ++ [{ code := BitVec.ofNat 16 code, info := info }]
    hist := (BitVec.ofNat 32 code :: s.can.hist).take 8
    emcyOpen := true } }
/-- A CAN error of R299. -/
def canError (code : Nat) (s : State) : State := emcyRaise code [] { s with can := { s.can with canErr := true } }
/-- An EMCY-routed event is not acknowledged. -/
def emcyEvents (s : State) : Bool := (allFin 64).any fun n => routed s 5 n.val && evStatus s n
/-- The last EMCY-routed event is acknowledged and no CAN error remains: error code 0x0000. -/
def emcyClear (s : State) : State :=
  if s.can.emcyOpen && !s.can.canErr && !emcyEvents s then
    { s with can := { s.can with emcyOpen := false, emcy := s.can.emcy ++ [{ code := 0, info := [] }] } }
  else s
/-- At a tick: one EMCY for each routed event changed since the last tick, in the order of the changes. -/
def emcyTick (s : State) : State :=
  let l := s.can.changed
  let s1 := l.foldl (fun t n =>
    emcyRaise (0xFF00 + n.val) ([toByte n.val] ++ le16 (Tbl.get t.ev.cnt n).toNat ++ le16 (t.ao.calSec.toNat % 65536)) t) s
  emcyClear { s1 with can := { s1.can with changed := [] } }
/-- The inhibit time of 0x1015 has passed since the last EMCY. -/
def emcyMay (s : State) : Bool :=
  match s.can.emcyAt with
  | some t => decide (t.toNat + ofLe (odGet s 0x1015 0) * 100000 ≤ s.time.tb.toNat)
  | none => true
/-- EMCY_SEND. -/
def emcySend (s : State) : State :=
  if !sdoLive s || !emcyMay s then s
  else match s.can.emcy with
    | [] => s
    | e :: rest =>
      canOut (0x80 + canNode s) (padTo 8 (le16 e.code.toNat ++ [toByte (errorRegister s)] ++ e.info))
        { s with can := { s.can with emcy := rest, emcyAt := some s.time.tb } }

/-! ## SDO (R296) -/

/-- A server frame. -/
def sdoOut (b : List Byte) (s : State) : State := canOut (0x580 + canNode s) (padTo 8 b) s
/-- Index and subindex of a frame. -/
def sdoIdx (f : List Byte) : Half := BitVec.ofNat 16 (ofLe ((f.drop 1).take 2))
def sdoSub (f : List Byte) : Byte := f.getD 3 0
/-- Index and subindex as bytes. -/
def muxBytes (idx : Half) (sub : Byte) : List Byte := le16 idx.toNat ++ [sub]
/-- The server aborts: the transfer is discarded and ABORTS counts. -/
def sdoAbortWith (idx : Half) (sub : Byte) (code : Word) (s : State) : State :=
  (sdoOut ([0x80] ++ muxBytes idx sub ++ le32 code.toNat)
    { s with can := { s.can with sdo := none, aborts := sat8 s.can.aborts } }).answer (.sdoAbort code)
/-- A specifier that is not valid in the transfer's state. -/
def sdoBad (f : List Byte) (s : State) : State :=
  match s.can.sdo with
  | some x => sdoAbortWith x.idx x.sub 0x05040001 s
  | none => sdoAbortWith (sdoIdx f) (sdoSub f) 0x05040001 s
/-- Keep a transfer. -/
def sdoPut (x : SdoXfer) (s : State) : State := { s with can := { s.can with sdo := some x } }
/-- The transfer ends. -/
def sdoEnd (s : State) : State := { s with can := { s.can with sdo := none } }
/-- A fresh transfer. -/
def xferNew (idx : Half) (sub : Byte) (down block : Bool) (data : List Byte) (size : Option Nat) (blk : Nat) : SdoXfer :=
  { idx := idx, sub := sub, down := down, block := block, data := data, size := size, toggle := false, seq := 0, blk := blk, flight := [],
    ending := false, started := false }
/-- Write the value a transfer carried (R303: the lease lost on the way gives status 3): status and state. -/
def xferWrite (x : SdoXfer) (s : State) : Nat × State :=
  if (odStartCode canWho x.idx.toNat x.sub.toNat s = 2 : Bool) && !leaseHeldBy s canWho then (3, s)
  else odWrite canWho x.idx.toNat x.sub.toNat x.data s
/-- The transfer's value is complete: it is written and answered with `ok`, or aborted. -/
def sdoFinish (x : SdoXfer) (ok : List Byte) (s : State) : State :=
  if x.size.isSome && x.size ≠ some x.data.length then sdoAbortWith x.idx x.sub 0x06070010 s
  else
    let (c, s1) := xferWrite x s
    if c = 0 then (sdoOut ok (sdoEnd s1)).answer (.done [])
    else sdoAbortWith x.idx x.sub (odAbort s1 (some x.data.length) x.idx.toNat x.sub.toNat c) s1
/-- An entry can be written by CAN: begin a transfer, or abort. -/
def sdoBegin (x : SdoXfer) (ok : List Byte) (s : State) : State :=
  let c := odStartCode canWho x.idx.toNat x.sub.toNat s
  if c ≠ 0 then sdoAbortWith x.idx x.sub (odAbort s (some 0) x.idx.toNat x.sub.toNat c) s
  else if (match x.size with | some n => decide (4096 < n) | none => false) then sdoAbortWith x.idx x.sub 0x06070010 s
  else sdoOut ok (sdoPut x s)
/-- SDO_INITIATE_DOWNLOAD. -/
def sdoInitDown (f : List Byte) (s : State) : State :=
  let b := (f.getD 0 0).toNat
  let idx := sdoIdx f
  let sub := sdoSub f
  if !sdoLive s || canFd s then s
  else if s.can.sdo.isSome || b / 32 ≠ 1 then sdoBad f s
  else if b.testBit 1 then
    let n := if b.testBit 0 then 4 - b / 4 % 4 else match odRow idx.toNat sub.toNat with | some r => min 4 (max 1 r.ty.size) | none => 4
    let d := (f.drop 4).take n
    let (c, s1) := odWrite canWho idx.toNat sub.toNat d s
    if c = 0 then (sdoOut ([0x60] ++ muxBytes idx sub) s1).answer (.done [])
    else sdoAbortWith idx sub (odAbort s1 (some n) idx.toNat sub.toNat c) s1
  else
    sdoBegin (xferNew idx sub true false [] (if b.testBit 0 then some (ofLe ((f.drop 4).take 4)) else none) 0) ([0x60] ++ muxBytes idx sub) s
/-- SDO_DOWNLOAD_SEGMENT. -/
def sdoSegDown (f : List Byte) (s : State) : State :=
  let b := (f.getD 0 0).toNat
  if !sdoLive s || canFd s then s
  else match s.can.sdo with
    | some x =>
      if !x.down || x.block || b / 32 ≠ 0 then sdoBad f s
      else if b.testBit 4 ≠ x.toggle then sdoAbortWith x.idx x.sub 0x05030000 s
      else
        let d := x.data ++ (f.drop 1).take (7 - b / 2 % 8)
        let ok : List Byte := [toByte (0x20 + 16 * b2n x.toggle)]
        if 4096 < d.length then sdoAbortWith x.idx x.sub 0x06070010 s
        else if b.testBit 0 then sdoFinish { x with data := d } ok s
        else sdoOut ok (sdoPut { x with data := d, toggle := !x.toggle } s)
    | none => sdoBad f s
/-- SDO_INITIATE_UPLOAD. -/
def sdoInitUp (f : List Byte) (s : State) : State :=
  let b := (f.getD 0 0).toNat
  let idx := sdoIdx f
  let sub := sdoSub f
  if !sdoLive s || canFd s then s
  else if s.can.sdo.isSome || b / 32 ≠ 2 then sdoBad f s
  else
    let (c, d, s1) := odRead canWho idx.toNat sub.toNat s
    let n := d.length
    if c ≠ 0 then sdoAbortWith idx sub (odAbort s1 none idx.toNat sub.toNat c) s1
    else if 1 ≤ n ∧ n ≤ 4 then (sdoOut ([toByte (0x43 + 4 * (4 - n))] ++ muxBytes idx sub ++ d) s1).answer (.done d)
    else sdoOut ([0x41] ++ muxBytes idx sub ++ le32 n) (sdoPut (xferNew idx sub false false d (some n) 0) s1)
/-- SDO_UPLOAD_SEGMENT. -/
def sdoSegUp (f : List Byte) (s : State) : State :=
  let b := (f.getD 0 0).toNat
  if !sdoLive s || canFd s then s
  else match s.can.sdo with
    | some x =>
      if x.down || x.block || b / 32 ≠ 3 then sdoBad f s
      else if b.testBit 4 ≠ x.toggle then sdoAbortWith x.idx x.sub 0x05030000 s
      else
        let d := x.data.take 7
        let rest := x.data.drop 7
        let last := rest.isEmpty
        let out : List Byte := [toByte (16 * b2n x.toggle + 2 * (7 - d.length) + b2n last)] ++ d
        if last then (sdoOut out (sdoEnd s)).answer (.done d) else sdoOut out (sdoPut { x with data := rest, toggle := !x.toggle } s)
    | none => sdoBad f s
/-- A segment of a block download. A sub-block ends with its last segment or with the value's. -/
def sdoBlockSeg (x : SdoXfer) (f : List Byte) (s : State) : State :=
  let b := (f.getD 0 0).toNat
  let n := b % 128
  let last := b.testBit 7
  let good := decide (n = x.seq + 1)
  let x1 := if good then { x with seq := n, data := x.data ++ (f.drop 1).take 7, ending := last } else x
  if 4096 + 7 < x1.data.length then sdoAbortWith x.idx x.sub 0x06070010 s
  else if last || n = x.blk then sdoOut [0xA2, toByte x1.seq, toByte x.blk] (sdoPut { x1 with seq := 0 } s)
  else sdoPut x1 s
/-- SDO_BLOCK_DOWNLOAD: initiate, segment or end. -/
def sdoBlockDown (f : List Byte) (s : State) : State :=
  let b := (f.getD 0 0).toNat
  if !sdoLive s || canFd s then s
  else match s.can.sdo with
    | none =>
      if b / 32 = 6 ∧ !b.testBit 0 then
        sdoBegin (xferNew (sdoIdx f) (sdoSub f) true true [] (if b.testBit 1 then some (ofLe ((f.drop 4).take 4)) else none) 127)
          ([0xA0] ++ muxBytes (sdoIdx f) (sdoSub f) ++ [127]) s
      else sdoBad f s
    | some x =>
      if !x.down || !x.block then sdoBad f s
      else if x.ending then
        (if b / 32 = 6 ∧ b.testBit 0 then sdoFinish { x with data := x.data.take (x.data.length - b / 4 % 8) } [0xA1] s else sdoBad f s)
      else sdoBlockSeg x f s
/-- Send the next sub-block of a block upload. -/
def sdoBlockOut (x : SdoXfer) (s : State) : State :=
  let segs := chunks 7 (x.data.length / 7 + 1) x.data
  let segs := if segs.isEmpty then [[]] else segs
  let now := segs.take x.blk
  (now.zipIdx.foldl (fun t y => sdoOut ([toByte (y.2 + 1 + 128 * b2n (decide (y.2 + 1 = segs.length)))] ++ y.1) t)
    (sdoPut { x with started := true, seq := now.length, flight := now.flatMap id } s))
/-- Bytes of the last segment that hold no data. -/
def blockPad (x : SdoXfer) : Nat := match x.size with | some 0 => 7 | some n => (7 - n % 7) % 7 | none => 0
/-- The client acknowledges a sub-block. -/
def sdoBlockAck (x : SdoXfer) (ack blk : Nat) (s : State) : State :=
  if x.seq < ack then sdoAbortWith x.idx x.sub 0x05040003 s
  else
    let rest := x.data.drop (7 * ack)
    if rest.isEmpty && ack ≠ 0 then sdoOut [toByte (0xC1 + 4 * blockPad x)] (sdoPut { x with data := [], ending := true } s)
    else if blk = 0 ∨ 127 < blk then sdoAbortWith x.idx x.sub 0x05040002 s
    else sdoBlockOut { x with data := rest, blk := blk } s
/-- SDO_BLOCK_UPLOAD: initiate, start, acknowledge or end. -/
def sdoBlockUp (f : List Byte) (s : State) : State :=
  let b := (f.getD 0 0).toNat
  if !sdoLive s || canFd s then s
  else match s.can.sdo with
    | none =>
      if b / 32 = 5 ∧ b % 4 = 0 then
        let blk := (f.getD 4 0).toNat
        let (c, d, s1) := odRead canWho (sdoIdx f).toNat (sdoSub f).toNat s
        if c ≠ 0 then sdoAbortWith (sdoIdx f) (sdoSub f) (odAbort s1 none (sdoIdx f).toNat (sdoSub f).toNat c) s1
        else if blk = 0 ∨ 127 < blk then sdoAbortWith (sdoIdx f) (sdoSub f) 0x05040002 s1
        else
          sdoOut ([0xC2] ++ muxBytes (sdoIdx f) (sdoSub f) ++ le32 d.length)
            (sdoPut (xferNew (sdoIdx f) (sdoSub f) false true d (some d.length) blk) s1)
      else sdoBad f s
    | some x =>
      if x.down || !x.block || b / 32 ≠ 5 then sdoBad f s
      else if x.ending then (if b % 4 = 1 then (sdoEnd s).answer (.done []) else sdoBad f s)
      else if !x.started then (if b % 4 = 3 then sdoBlockOut x s else sdoBad f s)
      else if b % 4 = 2 then sdoBlockAck x (f.getD 1 0).toNat (f.getD 2 0).toNat s
      else sdoBad f s
/-- SDO_CLIENT_ABORT: nothing of the transfer is written. -/
def sdoClientAbort (s : State) : State := if canLive s then sdoEnd s else s
/-- SDO_TIMEOUT: no client frame of a transfer for 1 s. -/
def sdoTimeout (s : State) : State :=
  let s1 := match s.can.sdo with | some x => sdoAbortWith x.idx x.sub 0x05040000 s | none => s
  match s1.can.usdo with
  | some _ => { s1 with can := { s1.can with usdo := none, aborts := sat8 s1.can.aborts } }.answer (.sdoAbort 0x05040000)
  | none => s1

/-! ## USDO (R296) -/

/-- Data bytes of one USDO frame (PRESUMED, log entry 10). -/
def usdoMax : Nat := 56
/-- A USDO transfer is aborted by the server. -/
def usdoAbort (code : Word) (s : State) : State :=
  { s with can := { s.can with usdo := none, aborts := sat8 s.can.aborts } }.answer (.sdoAbort code)
/-- Write the value a USDO download carried. -/
def usdoFinish (x : SdoXfer) (s : State) : State :=
  if x.size ≠ some x.data.length then usdoAbort 0x06070010 s
  else
    let (c, s1) := xferWrite x s
    if c = 0 then { s1 with can := { s1.can with usdo := none } }.answer (.done [])
    else usdoAbort (odAbort s1 (some x.data.length) x.idx.toNat x.sub.toNat c) s1
/-- USDO_REQUEST. -/
def usdoRequest (r : UsdoReq) (s : State) : State :=
  if !sdoLive s || !canFd s then s
  else match r with
    | .upload idx sub =>
      if s.can.usdo.isSome then usdoAbort 0x05040001 s
      else
        let (c, d, s1) := odRead canWho idx.toNat sub.toNat s
        if c ≠ 0 then usdoAbort (odAbort s1 none idx.toNat sub.toNat c) s1
        else
          let rest := d.drop usdoMax
          let s2 := if rest.isEmpty then s1
            else { s1 with can := { s1.can with usdo := some (xferNew idx sub false false rest (some d.length) 0) } }
          s2.answer (.done (d.take usdoMax))
    | .upSegment =>
      (match s.can.usdo with
       | some x =>
         if x.down then usdoAbort 0x05040001 s
         else
           let rest := x.data.drop usdoMax
           { s with can := { s.can with usdo := if rest.isEmpty then none else some { x with data := rest } } }.answer (.done (x.data.take usdoMax))
       | none => usdoAbort 0x05040001 s)
    | .download idx sub total data =>
      if s.can.usdo.isSome then usdoAbort 0x05040001 s
      else
        let c := odStartCode canWho idx.toNat sub.toNat s
        let x := xferNew idx sub true false data (some total) 0
        if c ≠ 0 then usdoAbort (odAbort s (some total) idx.toNat sub.toNat c) s
        else if 4096 < total then usdoAbort 0x06070010 s
        else if total ≤ data.length then usdoFinish x s
        else { s with can := { s.can with usdo := some x } }.answer (.done [])
    | .downSegment last data =>
      (match s.can.usdo with
       | some x =>
         if !x.down then usdoAbort 0x05040001 s
         else
           let x1 := { x with data := x.data ++ data }
           if last then usdoFinish x1 s
           else { s with can := { s.can with usdo := some x1 } }.answer (.done [])
       | none => usdoAbort 0x05040001 s)
    | .abort => { s with can := { s.can with usdo := none } }

/-! ## PDOs (R297) -/

/-- Communication parameter of a PDO as a number. -/
def pdoParam (s : State) (idx sub : Nat) : Nat := ofLe (odGet s idx sub)
/-- A PDO exists: bit 31 of its COB-ID is 0. -/
def pdoValid (s : State) (idx : Nat) : Bool := !(cobId s idx).testBit 31
/-- COB-ID bits that a frame carries. -/
def cobOf (c : Nat) : Nat := if c.testBit 29 then c % 2 ^ 29 else c % 2 ^ 11
/-- Value of a TPDO from its mapping. -/
def tpdoBytes (s : State) (n : Fin 4) : List Byte :=
  (mapping s (0x1A00 + n.val) (pdoParam s (0x1A00 + n.val) 0)).flatMap fun v =>
    padTo (v % 256 / 8) (odValue s (v / 65536) (v / 256 % 256))
/-- The inhibit time of a TPDO has passed. -/
def tpdoMay (s : State) (n : Fin 4) : Bool :=
  match Tbl.get s.can.tpdoAt n with
  | some t => decide (t.toNat + pdoParam s (0x1800 + n.val) 3 * 100000 ≤ s.time.tb.toNat)
  | none => true
/-- A cause makes a TPDO due, for its transmission type. -/
def tpdoDue (s : State) (n : Fin 4) (why : PdoCause) : Bool :=
  let ty := pdoParam s (0x1800 + n.val) 2
  let changed := decide (tpdoBytes s n ≠ Tbl.get s.can.tpdoLast n)
  let syncs := Tbl.get s.can.tpdoSync n
  match why with
  | .change => 254 ≤ ty && changed && tpdoMay s n
  | .timer => 254 ≤ ty && pdoParam s (0x1800 + n.val) 5 ≠ 0 && tpdoMay s n
  | .sync => (ty = 0 && 1 ≤ syncs && changed) || (1 ≤ ty && ty ≤ 240 && ty ≤ syncs)
/-- TPDO_TRANSMIT. -/
def tpdoSend (n : Fin 4) (why : PdoCause) (s : State) : State :=
  if !canLive s || s.can.nmt ≠ .oper || !pdoValid s (0x1800 + n.val) || !tpdoDue s n why then s
  else
    let b := tpdoBytes s n
    canOut (cobOf (cobId s (0x1800 + n.val))) b
      { s with can := { s.can with
        tpdoLast := Tbl.put s.can.tpdoLast n b
        tpdoSync := Tbl.put s.can.tpdoSync n 0
        tpdoAt := Tbl.put s.can.tpdoAt n (some s.time.tb) } }
/-- Write the objects of an RPDO, each as a dictionary write by master 3. -/
def rpdoWrites : List Nat → List Byte → State → State
  | [], _, s => s
  | v :: l, d, s =>
    let n := v % 256 / 8
    let (c, s1) := odWrite canWho (v / 65536) (v / 256 % 256) (d.take n) s
    rpdoWrites l (d.drop n) (if c = 0 then s1 else countEv 12 s1)
/-- The mapping of an RPDO. -/
def rpdoMap (s : State) (n : Fin 4) : List Nat := mapping s (0x1600 + n.val) (pdoParam s (0x1600 + n.val) 0)
/-- RPDO_RECEIVE. -/
def rpdoReceive (n : Fin 4) (data : List Byte) (s : State) : State :=
  if !canLive s || s.can.nmt ≠ .oper || !pdoValid s (0x1400 + n.val) then s
  else if data.length < mappedLen (rpdoMap s n) then canError 0x8210 s
  else if pdoParam s (0x1400 + n.val) 2 ≤ 240 then { s with can := { s.can with rpdoHeld := Tbl.put s.can.rpdoHeld n (some data) } }
  else rpdoWrites (rpdoMap s n) data s
/-- CAN_SYNC: synchronous RPDO values are taken, and synchronous TPDOs count it. -/
def canSync (s : State) : State :=
  if !canLive s || s.can.nmt ≠ .oper then s
  else
    let s1 := eachFin 4 (fun n t =>
      match Tbl.get t.can.rpdoHeld n with
      | some d => rpdoWrites (rpdoMap t n) d { t with can := { t.can with rpdoHeld := Tbl.put t.can.rpdoHeld n none } }
      | none => t) s
    { s1 with can := { s1.can with tpdoSync := Vector.map (· + 1) s1.can.tpdoSync } }

/-! ## NMT (R295) -/

/-- OPERATIONAL is entered: PDOs start afresh. -/
def nmtOper (s : State) : State :=
  { s with can := { s.can with
    nmt := .oper, tpdoLast := Tbl.fill 4 [], tpdoSync := Tbl.fill 4 0, tpdoAt := Tbl.fill 4 none, rpdoHeld := Tbl.fill 4 none } }
/-- NMT start. -/
def nmtStart (s : State) : State := if canLive s && s.can.nmt ≠ .oper then nmtOper s else s
/-- NMT stop. -/
def nmtStop (s : State) : State := if canLive s then { s with can := { s.can with nmt := .stopped } } else s
/-- NMT enter pre-operational. -/
def nmtPreOp (s : State) : State := if canLive s then { s with can := { s.can with nmt := .preOp } } else s
/-- INIT ends: the boot-up message, PRE-OPERATIONAL, and OPERATIONAL with AUTOSTART. -/
def canBoot (s : State) : State :=
  let s1 := canOut (0x700 + canNode s) [0] { s with can := { s.can with nmt := .preOp } }
  if ofLe (odGet s 0x2050 5) = 1 then nmtOper s1 else s1
/-- Entries that NMT reset communication reloads. -/
def canKey (k : Nat) : Bool := k / 256 < 0x2000 || k / 256 = 0x2050
/-- 0x1000 to 0x1FFF and 0x2050 are reloaded from the stored record. -/
def canReload (s : State) : State :=
  let stored : List OdVal := match newestCfg s with | some x => x.2.vals.filter (fun (e : OdVal) => canKey e.1) | none => []
  let mix (l : List OdVal) : List OdVal :=
    stored.foldl (fun (t : List OdVal) (e : OdVal) => Sparse.insert e.1 e.2 t) (l.filter fun (e : OdVal) => !canKey e.1)
  let s1 := { s with od := { s.od with vals := mix s.od.vals, run := mix s.od.run } }
  [1, 2, 3, 4, 6].foldl (fun t sub =>
    match odBack 0x2050 sub with
    | some b => setReg b.addr (b.write (regv t b.addr) (ofLe (Sparse.get odDefault t.od.vals (odKey 0x2050 sub)))) t
    | none => t) s1
/-- NMT reset communication, and reset node, which acts in the same way. -/
def nmtReset (s : State) : State :=
  if !canEn s || !peRuns s 7 then s
  else
    let s1 := ownerLoss 3 s
    canBoot (canReload { s1 with can := { s1.can with
      nmt := .init, sdo := none, usdo := none, emcy := [], emcyAt := none, hbRun := Tbl.fill 4 false } })

/-! ## TIME, heartbeat, bus state (R299, R300) -/

/-- CAN_TIME: milliseconds after midnight and days since 1984-01-01 (R300, R356). -/
def canTime (ms : BitVec 28) (days : Half) (s : State) : State :=
  if !sdoLive s || !(ofLe (odGet s 0x1012 0)).testBit 31 || days.toNat < 5844 then s
  else
    (hostTimeWrite canWho (toWord ((days.toNat - 5844) * 86400 + ms.toNat / 1000)) (ms.toNat % 1000 * 32768 / 1000) s).2
/-- Heartbeat byte of the NMT state. -/
def nmtByte : Nmt → Byte
  | .init => 0 | .stopped => 4 | .oper => 5 | .preOp => 0x7F
/-- HEARTBEAT_PRODUCE. -/
def heartbeatSend (s : State) : State :=
  if canLive s && ofLe (odGet s 0x1017 0) ≠ 0 then canOut (0x700 + canNode s) [nmtByte s.can.nmt] s else s
/-- 0x1016 sub k + 1. -/
def hbEntry (s : State) (k : Fin 4) : Nat := ofLe (odGet s 0x1016 (k.val + 1))
/-- HEARTBEAT_RECEIVE. -/
def heartbeatReceive (node : BitVec 7) (s : State) : State :=
  if !canLive s then s
  else eachFin 4 (fun k t =>
    if hbEntry s k / 65536 % 128 = node.toNat && hbEntry s k % 65536 ≠ 0 then
      { t with can := { t.can with hbRun := Tbl.put t.can.hbRun k true } }
    else t) s
/-- HEARTBEAT_TIMEOUT. -/
def heartbeatTimeout (k : Fin 4) (s : State) : State :=
  if canLive s && Tbl.get s.can.hbRun k && hbEntry s k % 65536 ≠ 0 then
    canError 0x8130 (countEv 12 { s with can := { s.can with hbRun := Tbl.put s.can.hbRun k false, hbLoss := sat8 s.can.hbLoss } })
  else s
/-- BUS_OFF. -/
def busOff (s : State) : State :=
  if canEn s && s.can.bus ≠ 2 then { s with can := { s.can with bus := 2, busOff := sat8 s.can.busOff } } else s
/-- BUS_OFF_RECOVERY: the controller starts again with its counters at 0. -/
def busOffRecovery (s : State) : State :=
  if s.can.bus = 2 then canError 0x8140 (countEv 12 { s with can := { s.can with bus := 0, tec := 0, rec_ := 0 } }) else s
/-- ERROR_PASSIVE. -/
def errorPassive (tec rec_ : Byte) (s : State) : State :=
  if canEn s && s.can.bus = 0 then canError 0x8120 { s with can := { s.can with bus := 1, tec := tec, rec_ := rec_ } } else s
/-- RECEIVE_OVERRUN. -/
def receiveOverrun (s : State) : State :=
  if canEn s then canError 0x8110 { s with can := { s.can with rxOvr := sat8 s.can.rxOvr } } else s
/-- CAN_ERROR_ACTIVE: the counters fall back below 128, to values the spec does not state (log entry 3). -/
def canErrorActive (s : State) : State :=
  if s.can.bus = 2 then s
  else
    let k := s.free
    emcyClear { s with
      free := s.free + 2
      can := { s.can with
        bus := 0, canErr := false
        tec := BitVec.ofNat 8 ((Config.word k).toNat % 128), rec_ := BitVec.ofNat 8 ((Config.word (k + 1)).toNat % 128) } }

end Sys2Proof.Machine
end

