-- ==== Sys2Proof/Machine/Start.lean ====
section
/-!
DEFINITION. Resets and the start sequence (R29, R63, R350, R358, R365, R376 to R386).
-/

namespace Sys2Proof.Machine

open Sys2Proof

/-! ## What a reset keeps (R207, R385) -/

/-- A slot after a reset that turned every supply off. AO keeps its seating pins; a module or core reset keeps LOCKED,
RETRIES, OFF_REMAIN and the states TRIPPED (also for RETRY_WAIT) and LOCKOUT; flash keeps FET_FAULT. -/
def SlotS.afterReset (por : Bool) (x : SlotS) : SlotS :=
  let y := { SlotS.reset with
    pinA := x.pinA, pinB := x.pinB, pinSkew := x.pinSkew, skew := x.skew, flashFet := x.flashFet,
    firstPin := if por then 0 else x.firstPin,
    seatedSince := if por then (if x.pinA && x.pinB then some 0 else none) else x.seatedSince }
  let z := if por then y else { y with locked := x.locked, retries := x.retries, offDue := x.offDue }
  match x.flashFet with
  | some r => { z with st := .fetFault, reason := r }
  | none =>
    if por then { z with st := z.restSt }
    else match x.st with
      | .tripped | .retryWait => { z with st := .tripped }
      | .lockout => { z with st := .lockout }
      | .off | .seating | .ramp | .on | .foldback | .fetFault | .forcedOff => { z with st := z.restSt }
/-- Registers a reset of the core keeps: those of AO, and DBGOFF of SYS_WLOCK until a power-on reset. -/
def keptRegs (s : State) : List (Nat × Word) :=
  s.regs.active.filterMap fun x =>
    if 0x10000 ≤ x.1 ∧ x.1 < 0x20000 then some x else if x.1 = 0x34 ∧ bit x.2 0 then some (0x34, 1) else none
/-- Everything but AO and flash takes its reset value. The pins keep their levels; engine and packet memories are loaded
or emptied by the start. -/
def coreReset (por : Bool) (s0 : State) : State :=
  let s := imageAbortAll s0
  { State.reset with
    pending := s.pending, reply := s.reply, out := s.out, free := s.free
    time := { s.time with tick := 0, tbEst := false, tbUnc := 0, calTb := 0 }
    regs := { RegS.reset with active := if por then [] else keptRegs s }
    pin := { s.pin with conflict := 0 }
    usb := { UsbS.reset with
      ccAttached := s.usb.ccAttached, ccOrient := s.usb.ccOrient, ccRp := s.usb.ccRp
      trees := s.usb.trees.map fun t => { TreeS.reset with vbus := t.vbus } }
    qm := { QmS.reset with mem := s.qm.mem }
    eng := { tm := Tbl.fill 16 TimerS.reset, pe := Tbl.fill 8 EngS.reset, mem := s.eng.mem }
    pow := { PowS.reset with slots := s.pow.slots.map (SlotS.afterReset por) }
    fab := { FabS.reset with pref := s.fab.pref }
    od := { OdS.reset with recs := s.od.recs, loadMark := s.od.loadMark }
    ao := { s.ao with onPll := false, pllEn := false, pllLock := false, selPend := none }
    jr := { s.jr with lost := 0, cursor := Tbl.fill 16 0, repCursor := Tbl.fill 16 0 }
    img := { s.img with load := none, confirmDue := none }
    start := s.start
    dbg := { DbgS.reset with
      ir := s.dbg.ir, authst := if !por && s.dbg.authst = 4 then 4 else 0, fails := if por then [] else s.dbg.fails } }
/-- The core stops: AO keeps the last copy of TB and counts from it (R358). -/
def coreStop (s : State) : State :=
  if s.start.stage = .run then { s with ao := { s.ao with tbCopy := s.time.tb, sleep := 0 } } else s
/-- A module or core reset with its KIND and SRC. The core is released again once VCORE_PG is high; in standby, VCORE_EN
goes high first. -/
def resetTo (kind src : Nat) (s : State) : State :=
  let t := lifeInc 1 (coreReset false (coreStop s))
  let st : Stage := match s.start.stage with | .run | .ready => .ready | .off | .vcore => .vcore
  let t1 := { t with start := { StartS.init with stage := st, kind := kind, src := src, scanHold := s.start.scanHold } }
  if s.start.vcoreEn then t1 else t1.emit [.vcoreEn true]
/-- A module reset by RESET_N, or by the command that waits (R384, R386). -/
def moduleReset (strap : BitVec 4) (s : State) : State :=
  let s1 := { s with pin := { s.pin with strap := strap } }
  match s.start.rstCmd with
  | .module m => resetTo 3 m.val s1
  | .image (some m) => resetTo 4 m.val s1
  | .image none => resetTo 4 0x1F s1
  | .core _ | .none => resetTo 2 0x1F s1
/-- A core reset by the command that waits; the straps are not sampled. -/
def coreResetNow (s : State) : State :=
  match s.start.rstCmd with
  | .core m => resetTo 5 m.val s
  | .module _ | .image _ | .none => resetTo 5 0x1F s
/-- A reset command that waits takes effect at cycle T of a boundary (R384). -/
def pendingReset (s : State) : State :=
  match s.start.rstCmd with
  | .none => s
  | .core _ => coreResetNow s
  | .module _ | .image _ => moduleReset s.pin.strap s
/-- A reset command is waiting for the boundary. -/
def resetWaits (s : State) : Bool := match s.start.rstCmd with | .none => false | .core _ | .module _ | .image _ => true
/-- VCORE_LOSS outside a voltage request: CORE goes OFF and the start begins again at step 2 (R346, R386). -/
def vcoreLoss (s : State) : State :=
  if s.ao.pmBusy || s.start.stage = .off then s
  else
    let t := resetTo 6 0x1F s
    { t with start := { t.start with stage := .vcore }, ao := { t.ao with pg := false } }
/-- V1P8_LOSS: a VCORE loss while CORE is ON; retained contents are lost with VRET (R351, R406). -/
def v1p8Loss (s : State) : State :=
  let t := { s with ao := { s.ao with dom := s.ao.dom.map fun d => { d with sig := none } } }
  if s.start.stage = .off then t
  else
    let u := resetTo 6 0x1F t
    { u with start := { u.start with stage := .vcore }, ao := { u.ao with pg := false } }
/-- V3P3_LOSS: the core stops; AO runs on VBAT, or without it loses its contents (R353, R406). -/
def v3p3Loss (vbat : Bool) (s : State) : State :=
  let t := coreReset true (coreStop s)
  { t with
    regs := { t.regs with active := if vbat then keptRegs s else [] }
    ao := if vbat then { t.ao with onVbat := true, pg := false, items := [] } else AoS.reset
    start := { StartS.init with stage := .off, vcoreEn := false, kind := if vbat then 0 else 1, scanHold := s.start.scanHold } }
/-- The AO block after a power-on reset that it survived on VBAT: every domain ON, no signature valid (R351, R385). -/
def AoS.survives (a : AoS) : AoS :=
  { a with
    dom := a.dom.map fun d => { d with st := .on, toOff := false, latched := false, sig := none }
    onPll := false, pllEn := false, pllLock := false, selPend := none
    pmBusy := false, pmAck := false, pmTimeout := false, pg := false, statusw := 0, onVbat := false }
/-- POWER_ON_RESET (step 1 of R376): the straps are sampled and VCORE_EN goes high. Lifetime counts of minutes since the
last counter block are lost (R366). -/
def powerOn (aoLost : Bool) (strap : BitVec 4) (s : State) : State :=
  let t := coreReset true s
  let mins := match t.jr.block with | some b => Tbl.get b.life 2 | none => 0
  let u := { t with
    pin := { t.pin with strap := strap }
    time := { t.time with tb := 0, frac := 0, nextBoundary := 125000 }
    regs := { t.regs with active := if aoLost then [] else (keptRegs s).filter fun x => x.1 ≠ 0x34 }
    ao := if aoLost then AoS.reset else s.ao.survives
    jr := { t.jr with onSecs := 0, life := Tbl.put t.jr.life 2 mins }
    start := { StartS.init with kind := if aoLost then 1 else 0, scanHold := s.start.scanHold } }
  (lifeInc 0 u).emit [.vcoreEn true]
/-- VCORE_PG_RISE (step 2): the regulator stands at its boot voltage. -/
def vcorePg (s : State) : State :=
  if s.start.stage = .vcore then
    { s with start := { s.start with stage := .ready }, ao := { s.ao with pg := true, vnow := Config.bootVoltage.toNat } }
  else s
/-- VCORE_EN_RETRY: VCORE_EN low for 100 ms, then high again (R377). -/
def vcoreRetry (s : State) : State :=
  if s.start.stage = .vcore then s.emit [.vcoreEn false, .vcoreEn true] else s

/-! ## Release of the core: TB and domains (R339, R350, R351, R358) -/

/-- TB at the release of the core. -/
def releaseTime (s : State) : State :=
  let t := { s.time with tick := 0, nextBoundary := 125000 }
  let s1 := steerNominal
    (if s.start.kind ≤ 1 then { s with time := { t with tb := 0, frac := 0, tbEst := false, tbUnc := 0 } }
     else
       let n := s.ao.sleep * 30517578125
       let tb := (s.ao.tbCopy.toNat + n / 1000000) % 2 ^ 64
       { s with time := { t with
         tb := BitVec.ofNat 64 tb, frac := n % 1000000 * 2 ^ 24 / 1000000, nextBoundary := BitVec.ofNat 64 ((tb / 125000 + 1) * 125000),
         tbEst := true, tbUnc := 31 } })
  if s.start.kind ≤ 1 then s1 else countEv 62 s1
/-- A retained domain's contents pass their check. -/
def retainedGood (s : State) (d : Fin 31) : Bool :=
  (dom s d).st = .retention && (dom s d).sig.isSome && domainSig s d = (dom s d).sig
/-- Every domain returns to ON; one that held contents and fails its check sets RLOST (R340). -/
def domainsOn (s : State) : State :=
  eachFin 31 (fun d t =>
    let lost := (dom t d).st = .retention && !retainedGood s d
    let t1 := updDom d (fun x => { x with st := .on, toOff := false, latched := false, rlost := x.rlost || lost }) t
    let t2 := if lost then journalPower 1 srcDevice d.val (countEv 53 t1) else t1
    if 8 ≤ d.val ∧ d.val < 24 then (if lost then bankRlost (d.val - 8) true t2 else t2) else t2) s
/-- Memories after the domains' return: a standby wake keeps contents that passed; every other start begins empty, and
engine memories are loaded later. `old` holds the domains before their return. -/
def memoriesStart (old s : State) : State :=
  let wake := decide (s.start.kind = 7)
  let s1 := (List.range 16).foldl (fun t k =>
    if h : k < 16 then (if wake && retainedGood old ⟨8 + k, by omega⟩ then t else bankZero k t) else t) s
  if wake && retainedGood old 24 then s1 else { s1 with jr := { s1.jr with replica := [] } }

/-! ## Boot ROM: image choice (R378, R379) -/

/-- Order of the slots by the straps; none where no slot is tried. -/
def bootOrder (s : State) : List (Fin 2) :=
  let b := s.pin.strap.toNat
  if 8 ≤ b then [] else if b % 4 = 0 then [0, 1] else if b % 4 = 1 then [1, 0] else []
/-- Slots to try, in the order of R378. -/
def bootSlots (s : State) : List (Fin 2) :=
  let o := bootOrder s
  let is (c : ImgSt → Bool) : List (Fin 2) := o.filter fun k => c (imgSlot s k).st
  (o.filter fun k => (imgSlot s k).st = .trial && !(imgSlot s k).started) ++ is (fun x => x = .valid || x = .good) ++ is (fun x => x = .retired)
/-- Try slots in turn: the first that verifies, and whether one failed before it. -/
def bootTry : List (Fin 2) → Bool → State → Option (Fin 2) × Bool × State
  | [], f, s => (none, f, s)
  | k :: l, f, s =>
    if imageOk s (imgSlot s k).bytes then (some k, f, s)
    else bootTry l true (countEv 10 (updImg k (fun x => { x with st := .invalid }) s))
/-- Trials that started before and were not confirmed end (R184). -/
def oldTrials (s : State) : State :=
  eachFin 2 (fun k t => if (imgSlot t k).started then trialEnds k t else t) s
/-- CONFIRM_WAIT in ns. -/
def confirmWait (s : State) : DWord := BitVec.ofNat 64 (odNum s 0x2031 5 * 1000000000)
/-- A slot is started. -/
def imageStarted (k : Fin 2) (s : State) : State :=
  let st := (imgSlot s k).st
  let s1 := updImg k (fun x => { x with st := if st = .retired then .good else st, started := decide (st = .trial) || x.started }) s
  { s1 with img := { s1.img with running := k, confirmDue := if st = .trial then some (s.time.tb + confirmWait s) else none } }

/-! ## Engines (R185, step 7) -/

/-- The engines are loaded, checked and have run their restart code. The spec says nothing of what that code leaves in g1 to
g15: free values (log entry 3). `old` holds the domains before their return. -/
def enginesStart (old s : State) : State :=
  let wake := decide (s.start.kind = 7)
  let s1 := if wake && retainedGood old 24 then s else loadEcm s
  eachFin 8 (fun n t =>
    let t1 := if wake && retainedGood old (engDomain n) then updEng n (fun e => { e with isig := iramSig t n }) t else loadEngine n t
    let k := t1.free
    setReg (0x800 + 0x20 * n.val) 0
      (updEng n (fun e => { e with st := .idle, regs := Vector.ofFn fun i => Config.word (k + i.val), wd := wdTicks t1 n })
        { t1 with free := k + 16 })) s1

/-! ## RUN point and clock (step 8, R348, R380) -/

/-- The RUN point request of a start: acknowledged, with the PLL locked and selected, or timed out with EV55. -/
def runPoint (ok : Bool) (s : State) : State :=
  if ok then
    clockMove true { (voltStart vtarget s) with ao := { (voltStart vtarget s).ao with
      pmBusy := false, pmAck := true, vnow := vtarget, pllEn := true, pllLock := true } }
  else
    let s1 := voltStart vtarget s
    journalPower 3 srcDevice 30 (countEv 55 (({ s1 with ao := { s1.ao with pmBusy := false, pmTimeout := true } }).emit
      [.pmbus (pmbAddress s) 0x03 0, .pmbus (pmbAddress s) 0x21 (voutCode s.ao.vnow)]))

/-! ## Configuration (step 9, R284, R285, R381) -/

/-- Dictionary values at the start: the newest record's, less the NV entries that a "load" has marked. -/
def configValues (s : State) : State :=
  match newestCfg s with
  | some (_, r) =>
    let vals : List OdVal := if s.od.loadMark then r.vals.filter (fun (e : OdVal) => keepOf e.1 = .sealed) else r.vals
    { s with od := { s.od with vals := vals, run := vals, loadMark := false, sealed := r.sealed, sealCount := r.sealCount, sealCrc := r.sealCrc, sealSec := r.sealSec } }
  | none => { s with od := { s.od with loadMark := false } }
/-- The registers that the record's values back: shadows of PE0 for RS registers, direct writes for the others. -/
def configRegs (s : State) : State :=
  s.od.vals.foldl (fun (t : State) (e : OdVal) =>
    match odBack (e.1 / 256) (e.1 % 256) with
    | some b => odToRegister 8 b (ofLe e.2) t
    | none => t) s
/-- All 16 groups are applied at once; every block validates its part. -/
def configApply (s : State) : State :=
  let l := s.regs.shadows
  let s1 := [Part.plain, .pins, .cfg, .serve, .qm, .topo, .spw, .timers].foldl
    (fun t p => applyPart true p (l.filter fun h => partOf h.addr = p) t) { s with regs := { s.regs with shadows := [] } }
  if s1.usb.topoValid then s1 else xptFollow (layoutChange s s1)
/-- The reference, and the first pass after the apply. Defaults commit themselves: ADOPT by PE0, EV2, DEFAULTS. -/
def configCheck (s : State) : State :=
  let s1 := match newestCfg s with
    | some (_, r) => passStart (setReg 0x100 r.crcRef s)
    | none => passStart (countEv 2 { s with start := { s.start with defaults := true }, regs := { s.regs with adopt := some 8 } })
  let s2 := crcPassComplete s1
  if s2.regs.matched then s2 else journalConfig 5 srcDevice 0 0 0 s2
/-- A commissioned static address (R225). -/
def staticAddress (s : State) : State :=
  let a := odNum s 0x4001 1
  if a = 0 then s else { s with fab := { s.fab with addr := BitVec.ofNat 12 a, asrc := 1, lsDue := true } }
/-- Step 9. -/
def configStart (s : State) : State :=
  eachFin 24 slotForceEval (staticAddress (configCheck (configApply (configRegs s))))

/-! ## Journal at the start (R355, R364, R365) -/

/-- SUBTYPE of the START record. -/
def startSub (kind : Nat) : Nat := if kind ≤ 1 then 1 else if kind ≤ 4 then 2 else if kind ≤ 6 then 3 else 4
/-- The start is unclean (R365). -/
def uncleanStart (s : State) : Bool :=
  match newestRec s with
  | some b => !(decide (s.start.kind = 3) || (b.drop 4).take 2 == [12, 4])
  | none => false
/-- PE7 at the start: the next SEQ, a lost calendar from the journal, the START record, and a TIME record where TB is
estimated. -/
def journalStart (s : State) : State :=
  let newest := newestSeq s
  let s1 := { s with jr := { s.jr with seq := if (newestRec s).isSome then seqNext newest else 0 } }
  let s2 := match newestRec s with
    | some b => if s.ao.calQual = 2 then { s1 with ao := { s1.ao with calSec := toWord (ofLe ((b.drop 8).take 4) + 1) } } else s1
    | none => s1
  let un := uncleanStart s
  let s3 := recOwn 1 (startSub s.start.kind) srcDevice 0 0 un
    ([toByte s.img.running.val, toByte s.pin.strap.toNat] ++ le16 (imageField s 12 2) ++ le32 newest.toNat) s2
  let s4 := if un then countEv 50 { s3 with start := { s3.start with unclean := true } } else s3
  if s.time.tbEst then recOwn 11 4 srcDevice 0 s4.ao.calQual false (le32 s4.ao.calSec.toNat ++ le32 s4.ao.calSec.toNat ++ leBytes 31000 8) s4 else s4

/-! ## The sequence -/

/-- Step 10 (R382): the upstream ports are enabled; START_WAIT runs. -/
def upstreamsEnable (s : State) : State :=
  let s1 := eachFin 3 (fun u t => updTree t u fun x => { x with enabled := true, presents := x.vbus && !coreFault s, lost := !x.vbus || coreFault s }) s
  let s2 := eachFin 2 (fun x t => updFo t x fun f => { f with startWait := true }) s1
  portEvalAll (countEv 0 { s2 with start := { s2.start with phase := 4 } })
/-- Steps 7 to 10 with the image of the running slot: step 10 waits while the core stays on FIRC, with PHASE 8 (R380). -/
def bootContinue (old : State) (pll : Bool) (s : State) : State :=
  let s1 := journalStart (configStart (enginesStart old s))
  let s2 := canBoot s1
  if pll then upstreamsEnable s2 else { s2 with start := { s2.start with phase := 8 } }
/-- The boot ROM waits for an image (R63): PHASE 7; UP_S presents its management function once the PLL is selected, unless
the straps name the factory test. -/
def bootWaits (pll : Bool) (s : State) : State :=
  let s1 := { s with start := { s.start with phase := 7 } }
  if pll && s.pin.strap.toNat < 8 then updTree s1 2 fun x => { x with enabled := true, presents := x.vbus } else s1
/-- CORE_RELEASE: steps 3 to 10 of R376. A standby wake starts the image that ran. -/
def coreRelease (go : StartIn) (s : State) : State :=
  if s.start.stage ≠ .ready || s.start.scanHold then s
  else
    let wake := decide (s.start.kind = 7)
    let r := if wake then lifeInc 1 (coreReset false s) else s
    let s0 := { r with start := { r.start with stage := .run, phase := 0, image := false, fallback := false, unclean := false, defaults := false } }
    let s1 := if s.start.kind = 1 then { s0 with ao := { s0.ao with ftrim := go.ftrim } } else s0
    let s2 := configValues (memoriesStart s (domainsOn (releaseTime s1)))
    let t := if wake then s2 else oldTrials s2
    let (k, failed, s3) := if wake then (some t.img.running, false, t) else bootTry (bootSlots t) false t
    let s4 := runPoint go.runPoint s3
    match k with
    | some n =>
      let s5 := if wake then s4 else imageStarted n s4
      let s6 := if failed then countEv 49 { s5 with start := { s5.start with fallback := true } } else s5
      bootContinue s go.runPoint { s6 with start := { s6.start with image := decide (n.val = 1), phase := 2 } }
    | none => bootWaits go.runPoint s4
/-- IMAGE_CTL end-and-verify: in the boot-ROM wait an image that passes becomes TRIAL and the start continues from step 7
(R379), unless the straps name the factory test. -/
def imageEndVerify (m : Fin 16) (s : State) : Nat × State :=
  let wait := bootWait s
  let slot := s.img.load
  let r := imageEnd m s
  match slot with
  | some (k, _, _) =>
    if wait && r.1 = 0 && s.pin.strap.toNat < 8 then
      let s1 := imageStarted k r.2
      (0, bootContinue s s1.ao.onPll { s1 with start := { s1.start with image := decide (k.val = 1), phase := 2 } })
    else r
  | none => r
/-- RUN_POINT_RETRY: PE0, or the boot ROM, repeats the RUN point request while the core stays on FIRC (R63, R380). -/
def runPointRetry (s : State) : State :=
  if (s.start.phase = 8 || s.start.phase = 7) && s.start.stage = .run && !s.ao.onPll && !s.ao.pmBusy then
    { (voltStart vtarget s) with ao := { (voltStart vtarget s).ao with pllEn := true } }
  else s
/-- A start held on FIRC goes on once the RUN point is acknowledged and the PLL has locked: PE0 selects it, and from the next
boundary on step 10, or the connection of UP_S in the boot-ROM wait, follows. -/
def heldStart (s : State) : State :=
  if s.start.stage ≠ .run || !(s.start.phase = 8 || s.start.phase = 7) then s
  else if s.ao.onPll then (if s.start.phase = 8 then upstreamsEnable s else bootWaits true s)
  else if s.ao.pmAck && !selRefuse s true && s.ao.selPend.isNone then selWrite true s
  else s

end Sys2Proof.Machine
end

