-- ==== Sys2Proof/Machine/Debug.lean ====
section
/-!
DEFINITION. The debug port: the TAP's instructions, authentication, the access register, the mailbox
(R390 to R400).
-/

namespace Sys2Proof.Machine

open Sys2Proof

/-! ## Sessions (R393 to R395) -/

/-- Master 5. -/
def dbgWho : Who := { m := 5, node := 0 }
/-- Change the debug port. -/
def updDbg (f : DbgS → DbgS) (s : State) : State := { s with dbg := f s.dbg }
/-- A session is granted. -/
def dbgGranted (s : State) : Bool := authNow s = 2
/-- Every halted engine resumes, and no halt stays requested. -/
def resumeAll (s : State) : State :=
  updDbg (fun d => { d with halt := 0, stepping := 0 })
    (eachFin 8 (fun n t => if (eng t n).st = .halted then resume n t else t) s)
/-- Breakpoints and watchpoints of every engine clear (DBG_PEn_BP0 to WP1M). -/
def breaksClear (s : State) : State :=
  (List.range 8).foldl (fun t n => (List.range 8).foldl (fun u k => setReg (0xE0110 + 0x40 * n + 4 * k) 0 u) t) s
/-- A debug disconnect: master 5 loses its lease, and a session that was granted ends. A lock of 60 s stays. -/
def dbgDisconnect (s : State) : State :=
  let s1 := ownerLoss 5 s
  let s2 := if s1.dbg.authst = 2 then breaksClear (resumeAll s1) else s1
  updDbg (fun d => { d with
    authst := if d.authst = 4 then 4 else 0
    challenge := [], resp := none, accStatus := 3, accCode := 0, msgIn := [], msgOut := [] }) s2
/-- The 520 bits that DBG_AUTH captures, without its zeros: challenge, AUTHST, unique ID. -/
def authCapture (s : State) : List Byte :=
  padTo 32 s.dbg.challenge ++ [BitVec.ofNat 8 (authNow s)] ++ leBytes Config.uniqueId.toNat 8
/-- DBG_AUTH commands are taken: not locked, not disabled. -/
def authTakes (s : State) : Bool := authNow s ≠ 4 && authNow s ≠ 5
/-- Command 1: a challenge, or the session at once while no key is set and the seal is open. -/
def dbgChallenge (s : State) : State :=
  let s1 :=
    if !authTakes s then s
    else if odGet s 0x2F13 0 == [] then updDbg (fun d => { d with authst := 2, accStatus := if d.authst = 2 then d.accStatus else 0 }) s
    else
      let (n, t) := s.draw
      updDbg (fun d => { d with challenge := padTo 32 (Config.challenge n), resp := none, authst := if d.authst = 2 then 2 else 1 }) t
  s1.answer (.done (authCapture s1))
/-- Command 2: the response is verified; AUTHST reads 1 until then. A session that is granted takes none. -/
def dbgResponse (sig : List Byte) (s : State) : State :=
  let s1 := if authTakes s && !dbgGranted s then updDbg (fun d => { d with resp := some sig, authst := 1 }) s else s
  s1.answer (.done (authCapture s1))
/-- The bytes a debug response signs. -/
def dbgMessage (c : List Byte) : List Byte := c ++ leBytes Config.uniqueId.toNat 8 ++ [0x05]
/-- Verification ends: the session is granted, or the response is refused; the third refusal within 60 s locks. -/
def dbgVerifyComplete (s : State) : State :=
  match s.dbg.resp with
  | none => s
  | some sig =>
    if !authTakes s then updDbg (fun d => { d with resp := none }) s
    else if s.dbg.challenge.length = 32 && edOk (odGet s 0x2F13 0) (dbgMessage s.dbg.challenge) sig then
      updDbg (fun d => { d with authst := 2, resp := none, challenge := [], accStatus := 0 }) s
    else
      let l := within60 s s.dbg.fails ++ [s.time.tb]
      let full := decide (3 ≤ l.length)
      countEv 7 (updDbg (fun d => { d with
        authst := if full then 4 else 3
        resp := none, challenge := [], fails := if full then [] else l }) s)
/-- DBG_AUTH_LOCK_END. -/
def dbgLockEnd (s : State) : State := if s.dbg.authst = 4 then updDbg (fun d => { d with authst := 0 }) s else s
/-- Command 3, ignored while disabled. -/
def dbgEnd (s : State) : State :=
  let s1 := if authNow s = 5 then s else dbgDisconnect s
  s1.answer (.done (authCapture s1))

/-! ## The TAP (R390 to R392) -/

/-- A code that holds the hub die in module reset: EXTEST, CLAMP, HIGHZ. -/
def irHolds (ir : Nat) : Bool := ir = 0x00 || ir = 0x04 || ir = 0x05
/-- Update-IR loads an instruction. -/
def loadIr (ir : Nat) (s : State) : State :=
  let s1 := updDbg (fun d => { d with ir := BitVec.ofNat 8 ir }) s
  if irHolds ir then
    (if s.start.scanHold then s1
     else
       let t := dbgDisconnect s1
       moduleReset s.pin.strap { t with start := { t.start with scanHold := true, rstCmd := .none } })
  else { s1 with start := { s1.start with scanHold := false } }
/-- IDCODE register. -/
def idcodeWord : Nat := Config.stepping.toNat * 2 ^ 28 + 0x2404 * 2 ^ 12 + Config.jedec.toNat * 2 + 1
/-- IDCODE is loaded: its register is shifted out. -/
def tapIdcode (s : State) : State := (loadIr 0x01 s).answer (.done (le32 idcodeWord))
/-- The TAP resets: IDCODE is selected and the session ends. -/
def tapReset (s : State) : State := loadIr 0x01 (dbgDisconnect s)
/-- A code without an instruction of its own acts as BYPASS. -/
def bypassCode (c : Byte) : Bool := !([0x00, 0x01, 0x02, 0x04, 0x05, 0x20, 0x21, 0x22].contains c)
/-- BYPASS is loaded. -/
def tapBypass (c : Byte) (s : State) : State := if bypassCode c then loadIr c.toNat s else s

/-! ## DBG_ACC (R396) -/

/-- The 72 bits that a shift of DBG_ACC returns: the result of the previous operation. -/
def accCapture (s : State) : List Byte :=
  let st := if dbgGranted s then s.dbg.accStatus else 3
  le32 s.dbg.accData.toNat ++ le32 s.dbg.accAddr.toNat ++ [BitVec.ofNat 8 (st + 16 * (if st = 2 then s.dbg.accCode else 0))]
/-- The result of an operation is kept for the next shift. -/
def accResult (addr : Word) (code : Nat) (data : Word) (s : State) : State :=
  updDbg (fun d => { d with accData := data, accAddr := addr, accStatus := if code = 0 then 0 else 2, accCode := code }) s
/-- A shift with OP 0. -/
def accPoll (s : State) : State := (loadIr 0x21 s).answer (.done (accCapture s))
/-- A shift with OP 1. -/
def accRead (addr : Word) (s : State) : State :=
  let s1 := loadIr 0x21 s
  let s2 :=
    if dbgGranted s1 then
      let (c, v, t) := readAt addr.toNat s1
      accResult addr c v t
    else s1
  s2.answer (.done (accCapture s))
/-- A shift with OP 2. -/
def accWrite (addr val : Word) (s : State) : State :=
  let s1 := loadIr 0x21 s
  let s2 :=
    if dbgGranted s1 then
      let (c, t) := writeReg dbgWho addr.toNat val s1
      accResult addr c val t
    else s1
  s2.answer (.done (accCapture s))

/-! ## DBG_MBOX (R61, R398) -/

/-- IMAGE_CTL by its wValue. -/
def mboxImageCtl (wValue slot : Nat) (s : State) : Nat × State :=
  match wValue, slot with
  | 1, 0 => imageBegin 5 0 s
  | 1, 1 => imageBegin 5 1 s
  | 2, _ => imageEndVerify 5 s
  | 3, _ => imageAbort 5 s
  | _, _ => (5, s)
/-- One request of the mailbox: status, data and state. -/
def mboxServe (op idx sub len : Nat) (data : List Byte) (s : State) : Nat × List Byte × State :=
  if 4096 < len then (5, [], s)
  else if !peRuns s 0 && !bootWait s then (8, [], s)
  else match op with
    | 0x01 => (let (c, d, t) := odRead dbgWho idx sub s
               (c, if c = 0 then d.take len else [], t))
    | 0x02 => (let (c, t) := odWrite dbgWho idx sub data s
               (c, [], t))
    | 0x10 => (let (c, t) := mboxImageCtl idx sub s
               (c, [], t))
    | 0x11 => (let (c, t) := imageData 5 idx data s
               (c, [], t))
    | _ => (5, [], s)
/-- 64-bit words of a byte string; the last is filled with 0. -/
def dwordsOf : Nat → List Byte → List DWord
  | 0, _ => []
  | k + 1, l => BitVec.ofNat 64 (ofLe (l.take 8)) :: dwordsOf k (l.drop 8)
/-- Bytes of the words of a message. -/
def bytesOf (l : List DWord) : List Byte := l.flatMap fun w => leBytes w.toNat 8
/-- Field of a message header. -/
def hdrNum (b : List Byte) (off n : Nat) : Nat := ofLe ((b.drop off).take n)
/-- Data bytes that follow the header of a request. -/
def mboxData (b : List Byte) : Nat := if hdrNum b 0 1 = 0x02 ∨ hdrNum b 0 1 = 0x11 then hdrNum b 6 2 else 0
/-- A word of a request is taken; a complete request is answered. -/
def mboxTake (w : DWord) (s : State) : State :=
  let b := bytesOf (s.dbg.msgIn ++ [w])
  let need := mboxData b
  if b.length < 8 + need then updDbg (fun d => { d with msgIn := d.msgIn ++ [w] }) s
  else
    let s1 := updDbg (fun d => { d with msgIn := [] }) s
    let (c, d, t) := mboxServe (hdrNum b 0 1) (hdrNum b 2 2) (hdrNum b 4 1) (hdrNum b 6 2) ((b.drop 8).take need) s1
    let r := [b.headD 0 ||| 0x80] ++ (b.drop 1).take 4 ++ [BitVec.ofNat 8 c] ++ le16 d.length ++ d
    updDbg (fun x => { x with msgOut := x.msgOut ++ dwordsOf ((r.length + 7) / 8) r }) t
/-- A shift of DBG_MBOX: one response word out, with RVALID and MORE, and one message word in. -/
def mboxTransfer (w : DWord) (valid : Bool) (s : State) : State :=
  let s1 := loadIr 0x22 s
  if !dbgGranted s1 then s1.answer (.status 3)
  else
    let out := s1.dbg.msgOut
    let s2 := updDbg (fun d => { d with msgOut := d.msgOut.drop 1 }) s1
    let s3 := if valid then mboxTake w s2 else s2
    s3.answer (.done (leBytes (out.headD 0).toNat 8 ++ [BitVec.ofNat 8 (b2n (decide (0 < out.length)) + 2 * b2n (decide (1 < out.length)))]))

end Sys2Proof.Machine
end

