-- ==== Sys2Proof/Machine/Tick.lean ====
section
/-!
DEFINITION. The device tick and the step of TB (R14 to R19).
-/

namespace Sys2Proof.Machine

open Sys2Proof

/-- TB reaches the boundary, and the tick number increments (R14). -/
def tickCount (s : State) : State :=
  { s with time := { s.time with tb := s.time.nextBoundary, nextBoundary := s.time.nextBoundary + 125000, tick := s.time.tick + 1 } }

/-! ## The start's last steps (R383) -/

/-- A slot in SEATING meets conditions 1 to 6 of R190. -/
def startReady (s : State) (p : Fin 24) : Bool :=
  (slot s p).st = .seating && (waitCode s p == 0 || waitCode s p == 6 || waitCode s p == 7)
/-- PE1 closes the group FETs, except those held open for a shorted slot. -/
def groupsStart (s : State) : State :=
  eachFin 4 (fun g t =>
    match shortedIn t g with
    | some p => updGroup g (fun x => { x with isol := true, islot := p.val }) t
    | none => groupClose g t) s
/-- Steps 11 and 12 at a tick: PE1 closes the groups; later, with no slot left to start, PHASE reads 6. -/
def staggerStart (s : State) : State :=
  if s.start.stage ≠ .run || !roleRuns s 29 then s
  else if s.start.phase = 4 then groupsStart { s with start := { s.start with phase := 5 } }
  else if s.start.phase = 5 && !(allFin 4).any (fun g => (group s g).closing) && !(allFin 24).any (startReady s) then
    { s with start := { s.start with phase := 6 } }
  else s

/-! ## The boundary -/

/-- Cycle T: the tick number, scheduled snapshots, the frame boundary, a waiting reset, a written clock selection (R16,
R218, R237, R348, R384). -/
def tickT (s : State) : State := clockSwitch (pendingReset (framePeriod (snapScheduled (tickCount s))))
/-- Cycle T+1: dictionary values due at the tick, then the armed groups (R16, R276, R317), with the copy of a store (R283). -/
def tickT1 (s : State) : State :=
  let t := applyArmed (storeCopy (odTick s))
  if s.regs.armed = 0 then t else portsSettle t
/-- Cycle T+2: watchdogs count, engines get their tick entry (R16, R164, R166). -/
def tickT2 (s : State) : State := eachFin 8 tickEntry (eachFin 8 watchdogTick s)
/-- PE5's work: the hello template, an address granted, the election, a SYNC (R222, R226, R232, R234). -/
def tickFabric (s : State) : State :=
  let s1 := if peRuns s 5 then { s with fab := { s.fab with fwTb := s.time.tb } } else s
  eachFin 4 fifoDrain (syncSend (elect (takeAddress s1)))
/-- What hubs and management functions do at a tick: a loss that stands starts its hold (R81), bridged frames, ERDY, event reports, virtual ports that were not served
before (R56, R62, R84, R252). -/
def tickUsb (s : State) : State :=
  let s0 := if peRuns s 0 then foWatch 1 (foWatch 0 s) else s
  let s1 := queueReports (erdyTick (bridgeSof s0))
  let s2 := if roleRuns s1 27 then eachFin 16 (fun v t => if (imp t v).st = .noSpeed then impPresent v t else t) s1 else s1
  { s2 with xb := { s2.xb with stompTick := 0 } }
/-- AO and CAN at a tick: entries that timed out, patrol items held, EMCY (R299, R336, R342). -/
def tickAo (s : State) : State := emcyTick (postHeld (entryTimeouts s))
/-- TICK_BOUNDARY. Without a released core there is no tick; a reset that was waiting ends this one. -/
def tickBoundary (s : State) : State :=
  if s.start.stage ≠ .run then s
  else
    let s1 := tickT s
    if s1.start.stage ≠ .run then s1
    else
      let s2 := tickUsb (tickFabric (tickAo (tickT2 (tickT1 s1))))
      heldStart (staggerStart s2)

/-- The first multiple of 125,000 ns at least 125 us after a step (R14, R19). -/
def boundaryAfterStep (tb : DWord) : DWord := BitVec.ofNat 64 ((tb.toNat + 125000 + 124999) / 125000 * 125000)
/-- TB_STEP: the forward step that is due is taken; an edge of TIMEREF_IN keeps its distance to the next. -/
def tbStep (s : State) : State :=
  let d := s.fab.step
  if d = 0 || s.start.stage ≠ .run then s
  else
    let tb := s.time.tb + BitVec.ofNat 64 d
    journalTime 2 srcDevice s.ao.calSec s.ao.calSec d
      { s with
        time := { s.time with tb := tb, nextBoundary := boundaryAfterStep tb }
        fab := { s.fab with step := 0, trefLast := s.fab.trefLast.map fun t => t + BitVec.ofNat 64 d } }

end Sys2Proof.Machine
end

