-- ==== Sys2Proof/Machine/Serve.lean ====
section
/-!
DEFINITION. How requests are carried to the machine: the hub server's and the management functions' gates, and the
register, dictionary and command paths of a master.
-/

namespace Sys2Proof.Machine

open Sys2Proof

/-! ## Masters' paths (R58, R63, R304 to R312) -/

/-- A master's access: a host master's comes through the management function of its upstream. -/
def masterGate (m : Fin 16) (f : State → State) (s : State) : State := if h : m.val < 3 then mfGate ⟨m.val, h⟩ f s else f s
/-- A master's request with its status: it is answered; in the boot-ROM wait the management functions carry none of the
kind (R63). -/
def carried (w : Who) (f : State → Nat × List Byte × State) (s : State) : State :=
  masterGate w.m (fun s =>
    if bootWait s && w.m.val < 3 then respond w 8 [] s
    else
      let (c, d, t) := f s
      respond w c d t) s
/-- A register write of a master, answered. -/
def regBy (w : Who) (a : Nat) (v : Word) (s : State) : State :=
  carried w (fun s => let (c, t) := writeReg w a v s; (c, [], t)) s
/-- A write of DBG_PEn_CTL by a master (R399, R400): the rows name one bit; PHOLD stays as it is. -/
def dbgCtlWrite (w : Who) (n : Fin 8) (v : Nat) (s : State) : State :=
  let hold := if s.dbg.phold.getLsbD n.val then 8 else 0
  regBy w (0xE0100 + 0x40 * n.val) (BitVec.ofNat 32 (v + hold)) s
/-- STEP: one instruction, with its ECC outcomes, and the engine halts again (R399). -/
def dbgStep (w : Who) (a : At) (s : State) : State :=
  let t := dbgCtlWrite w a.pe 4 s
  if t.dbg.stepping.getLsbD a.pe.val then
    stepOnce a (updDbg (fun d => { d with stepping := d.stepping &&& ~~~(BitVec.ofNat 8 (2 ^ a.pe.val)) }) t)
  else t
/-- A 32-bit read of a master, answered. -/
def readBy (w : Who) (a : Nat) (s : State) : State :=
  carried w (fun s => let (c, v, t) := readAt a s; (c, le32 v.toNat, t)) s
/-- A dictionary write of a master, answered. -/
def odBy (w : Who) (idx sub : Nat) (d : List Byte) (s : State) : State :=
  carried w (fun s => let (c, t) := odWrite w idx sub d s; (c, [], t)) s
/-- A dictionary read of a master, answered. -/
def odReadBy (w : Who) (idx sub : Nat) (s : State) : State := carried w (odRead w idx sub) s
/-- A lease action of a master, answered. -/
def leaseBy (w : Who) (cmd : Nat) (s : State) : State :=
  carried w (fun s => let (c, t) := leaseAction w cmd s; (c, [], t)) s
/-- A command that needs the lease of masters 0 to 7, with its own status. -/
def leasedBy (w : Who) (f : State → Nat × State) (s : State) : State :=
  carried w (fun s =>
    if w.m.val < 8 && !leaseHeldBy s w then (3, [], s)
    else let (c, t) := f s; (c, [], t)) s
/-- A command that needs the commissioning level of masters 0 to 7. -/
def commBy (w : Who) (f : State → State) (s : State) : State :=
  carried w (fun s =>
    if w.m.val < 8 && !commLevel s w then (if !leaseHeldBy s w && s.lease.owner.isSome then 3 else 2, [], s)
    else (0, [], f s)) s
/-- A domain command of a master (R335): masters 0 to 5, with the lease, and PE0. -/
def domainBy (w : Who) (d : Fin 31) (target : Nat) (s : State) : State :=
  carried w (fun s =>
    if !domMaster w then (5, [], countEv 6 s)
    else if w.m.val < 8 && !leaseHeldBy s w then (3, [], s)
    else (0, [], domainCommand w.m d.val target s)) s
/-- A voltage request of a master (R345). -/
def voltBy (w : Who) (mv : Nat) (s : State) : State :=
  leasedBy w (fun s =>
    if s.ao.pmBusy then (7, countEv 9 s)
    else if voltRefuse s mv ≠ 0 then (voltRefuse s mv, s)
    else (0, voltStart mv s)) s
/-- A write of AO_CLK.SEL (R348). -/
def selBy (w : Who) (pll : Bool) (s : State) : State :=
  leasedBy w (fun s => if selRefuse s pll then (5, s) else (0, selWrite pll s)) s
/-- A power profile of a master (R352): a basic entry of the dictionary. -/
def profileBy (w : Who) (code : Nat) (s : State) : State :=
  carried w (fun s =>
    let c := odWriteCode w 0x5010 1 [toByte code] s
    if c ≠ 0 then (c, [], s) else (0, [], profile w.m.val code s)) s

/-! ## Engines that serve (R169, R170, R401) -/

/-- Done by the firmware of one engine. -/
def byEngine (n : Fin 8) (f : State → State) (s : State) : State := if peRuns s n then f s else s
/-- Done by the firmware of the engine that holds a serve bit. -/
def byRole (b : Nat) (f : State → State) (s : State) : State := if roleRuns s b then f s else s
/-- XP32 holds a hub half off: NAK on USB 2.0; NRDY on SuperSpeed, with ERDY owed on the engine's return. -/
def hubHold (n : Fin 8) (lh : Fin 6) (hs : Bool) (s : State) : State :=
  if hs then s.answer .nak
  else (updEng n (fun e => { e with owedErdy := e.owedErdy ||| BitVec.ofNat 6 (2 ^ lh.val) }) s).answer .nrdy
/-- A transaction to a hub half: served while the engine that holds HUBS runs. `poll` tells a status-change poll from a
control request. -/
def hubServed (poll : Bool) (lh : Fin 6) (hs : Bool) (f : State → State) (s : State) : State :=
  if !hubReached s lh then s
  else match roleOf s 28 with
    | none => if poll then s.answer (if hs then .nak else .nrdy) else s.answer .requestError
    | some n =>
      match (eng s n).st with
      | .reset | .check | .init | .halted => hubHold n lh hs s
      | .idle | .tick | .handler => f s
/-- A control request to a hub half. -/
def hubReq (lh : Fin 6) (hs : Bool) (f : State → State) (s : State) : State := hubServed false lh hs f s
/-- A standard request to a USB function of an upstream. -/
def fnReq (fn : UsbFn) (f : State → State) (s : State) : State :=
  match fn with
  | .hub lh hs => hubReq lh hs f s
  | .mf u => mfGate u f s
/-- A control request to a virtual slot is held off while its proxy does not run (R169, R271). -/
def virtualReq (v : Fin 16) (f : State → State) (s : State) : State :=
  if roleRuns s 27 then f s
  else if (imp s v).st = .bound then s.answer (if (imp s v).speed.isSS then .nrdy else .nak)
  else s

/-! ## Management function requests (R58, R61, R63) -/

/-- The master of an upstream's management function. -/
def mfWho (u : Fin 3) : Who := { m := ⟨u.val, by omega⟩, node := 0 }
/-- OD_READ. -/
def mfOdRead (u : Fin 3) (idx sub len : Nat) (s : State) : State :=
  carried (mfWho u) (fun s =>
    if len = 0 ∨ 4096 < len then (5, [], s)
    else
      let (c, d, t) := odRead (mfWho u) idx sub s
      (c, d.take len, t)) s
/-- OD_WRITE. -/
def mfOdWrite (u : Fin 3) (idx sub : Nat) (d : List Byte) (s : State) : State :=
  carried (mfWho u) (fun s =>
    if d.length = 0 ∨ 4096 < d.length then (5, [], s)
    else
      let (c, t) := odWrite (mfWho u) idx sub d s
      (c, [], t)) s
/-- Consecutive words; the first that cannot be read ends them. -/
def readWords (a : Nat) : Nat → State → Nat × List Byte × State
  | 0, s => (0, [], s)
  | k + 1, s =>
    let (c, v, t) := readAt a s
    if c ≠ 0 then (c, [], t)
    else
      let (c2, d, t2) := readWords (a + 4) k t
      (c2, le32 v.toNat ++ d, t2)
/-- REG_READ. -/
def mfRegRead (u : Fin 3) (a len : Nat) (s : State) : State :=
  carried (mfWho u) (fun s =>
    if len < 4 ∨ 256 < len ∨ len % 4 ≠ 0 then (5, [], s) else readWords a (len / 4) s) s
/-- REG_WRITE. -/
def mfRegWrite (u : Fin 3) (a : Nat) (v : Word) (s : State) : State :=
  regBy (mfWho u) a v s
/-- A dictionary message: with four responses unread it is held off with NAK. -/
def mfDict (u : Fin 3) (op tag : Byte) (idx : Half) (sub : Byte) (f : State → Nat × List Byte × State) (s : State) : State :=
  mfPipe u (fun s =>
  if bootWait s then s
  else if 4 ≤ (Tbl.get s.usb.mf u).resp.length then s.answer .nak
  else
    let (c, d, t) := f s
    let r : DictResp := { opcode := op, tag := tag, index := idx, sub := sub, status := c, data := if c = 0 then d else [] }
    ({ t with usb := { t.usb with mf := Tbl.upd t.usb.mf u fun m => { m with resp := m.resp ++ [r] } } }).answer (.done [])) s
/-- A read message. -/
def mfDictRead (u : Fin 3) (tag : Byte) (idx : Half) (sub : Byte) (s : State) : State :=
  mfDict u 0x01 tag idx sub (odRead (mfWho u) idx.toNat sub.toNat) s
/-- A write message. -/
def mfDictWrite (u : Fin 3) (tag : Byte) (idx : Half) (sub : Byte) (d : List Byte) (s : State) : State :=
  mfDict u 0x02 tag idx sub (fun s =>
    if 4096 < d.length then (5, [], s)
    else
      let (c, t) := odWrite (mfWho u) idx.toNat sub.toNat d s
      (c, [], t)) s
/-- An image request of a master: it is carried in the boot-ROM wait too. -/
def imageBy (m : Fin 16) (f : State → Nat × State) (s : State) : State :=
  masterGate m (fun s =>
    let (c, t) := f s
    respond { m := m, node := 0 } c [] t) s

/-! ## Happenings with a condition of their own -/

/-- TIMEREF_OUT_PULSE: while the feature holds its pin (R33, R236). -/
def timerefOut (s : State) : State := if s.start.stage = .run && pinHeld s 2 then s.emit [.timerefOut] else s
/-- LEASE_EXPIRED: as a release, and EV8 (R286). -/
def leaseExpired (s : State) : State := if s.lease.owner.isSome then countEv 8 (leaseEnd s) else s
/-- The forwarding core has power. -/
def byCore (f : State → State) (s : State) : State := if domainOn s 25 then f s else s
/-- REBUILD_COMPLETE: the core returns to RUN; an OFF command that waited for it is carried out (R337). -/
def rebuildDone (s : State) : State :=
  let t := rebuildComplete s
  match t.xb.offWait with
  | some m => if t.xb.st = .run then domainCommand m 25 2 { t with xb := { t.xb with offWait := none } } else t
  | none => t
/-- LPM transaction (R65). -/
def lpm (x : LpmTarget) (s : State) : State :=
  match x with
  | .hub lh => lpmHub lh s
  | .device p ack => lpmDevice p ack s
/-- DEVICE_WAKE by its source; a device's wake is latched while its port's engine is lost (R67, R169). -/
def wakeFrom (x : WakeSrc) (s : State) : State :=
  match x with
  | .device e hs => linkEvent e (.wake hs) s
  | .portChange e hs k => changeWake e hs k s
  | .mfEvent u => mfWake u s
/-- Seating is sampled by AO while V3P3 stands; a change of the pins posts an item (R342, R353). -/
def seated (p : Fin 24) (f : State → State) (s : State) : State := if s.ao.onVbat then s else seatItem p (f s)
/-- A queue command by a register write or by an engine. -/
def queueBy (x : QBy) (bitNo : Nat) (op : At → Fin 16 → Fin 16 → Fin 16 → Byte → EngOp) (s : State) : State :=
  match x with
  | .reg w q => regBy w (0x30018 + 0x40 * q.val) (toWord (2 ^ bitNo)) s
  | .prim a rd ra rb obj => issue a (op a rd ra rb obj) s
/-- TWAIT_WAKE: the engine resumes. -/
def twaitWake (n : Fin 8) (s : State) : State :=
  updEng n (fun e => match e.sleep with | .twait _ => { e with sleep := .awake } | .waitg | .awake => e) s
/-- MAXWAIT_RESET: a write of the point's statistics register. -/
def maxWaitBy (w : Who) (pt : Fin 49) (s : State) : State :=
  regBy w (if pt.val < 16 then 0x20200 + 4 * pt.val else 0x20300 + 4 * (pt.val - 16)) 0 s
/-- A binding register of a channel, with EN as given (R266). -/
def bindBy (w : Who) (n : Fin 48) (on : Bool) (s : State) : State :=
  let v := regv s (bindAddr n.val)
  regBy w (bindAddr n.val) (if on then v ||| 1 else v &&& 0xFFFFFFFE) s
/-- SNAP_CTL with one action bit; its stored fields stay (R369, R373). -/
def snapBy (w : Who) (bitNo : Nat) (s : State) : State := regBy w 0xD0000 (regv s 0xD0000 ||| toWord (2 ^ bitNo)) s
/-- SNAP_N falls: a trigger while PINEN is 1 (R369). -/
def snapPin (s : State) : State := if bit (regv s 0xD0000) 1 then snapRaise 1 srcDevice s else s
/-- SYS_PEn_CTL: HOLD and RST. -/
def peCtlBy (w : Who) (n : Fin 8) (v : Nat) (s : State) : State := regBy w (0x800 + 0x20 * n.val) (toWord v) s
/-- RST once: HOLD stays as it is; OD 0x5845 does the same. -/
def engineRst (w : Who) (n : Fin 8) (od : Bool) (s : State) : State :=
  if od then odBy w 0x5845 (n.val + 1) [1] s else peCtlBy w n (2 + b2n (engHold s n)) s
/-- A held key write lapses (R311). -/
def heldKeyLapse (m : Fin 6) (s : State) : State := { s with regs := { s.regs with heldKey := Tbl.put s.regs.heldKey m none } }

end Sys2Proof.Machine
end

