-- ==== Sys2Proof/Machine/ExecCal.lean ====
section
/-!
DEFINITION. The calendar, the journal and snapshots (R353 to R373).
-/

namespace Sys2Proof.Machine

open Sys2Proof

/-- VBAT_CHECK (R354). -/
def execVbatCheck (mv : Half) (s : State) : Host.Outcome State Fault Refusal := done (vbatCheck mv s.fresh)
/-- CALENDAR_SECOND (R353). -/
def execCalendarSecond (s : State) : Host.Outcome State Fault Refusal := done (calendarSecond s.fresh)
/-- CAL_HOLD_EXPIRED (R355). -/
def execCalHoldExpired (s : State) : Host.Outcome State Fault Refusal := done (calHoldExpired s.fresh)
/-- HOST_TIME_WRITE (R356). -/
def execHostTimeWrite (w : Who) (sec : Word) (s : State) : Host.Outcome State Fault Refusal :=
  done (odBy w 0x5400 1 (le32 sec.toNat) s.fresh)
/-- FABRIC_TIME_READ (R356). -/
def execFabricTimeRead (caltb : DWord) (sec : Word) (qual : Fin 3) (s : State) : Host.Outcome State Fault Refusal :=
  done (fabricTimeRead caltb sec qual.val s.fresh)
/-- CALENDAR_ALARM (R357). -/
def execCalendarAlarm (s : State) : Host.Outcome State Fault Refusal := done (calendarAlarm s.fresh)
/-- JOURNAL_WRITE (R362). -/
def execJournalWrite (verify : Bool) (s : State) : Host.Outcome State Fault Refusal := done (journalWrite verify s.fresh)
/-- JOURNAL_READ (R367). -/
def execJournalRead (w : Who) (replica : Bool) (s : State) : Host.Outcome State Fault Refusal :=
  done (odReadBy w (if replica then 0x5412 else 0x5411) 2 s.fresh)
/-- JOURNAL_READ_BLOCK (R367). -/
def execJournalReadBlock (w : Who) (replica : Bool) (s : State) : Host.Outcome State Fault Refusal :=
  done (odReadBy w (if replica then 0x5412 else 0x5411) 3 s.fresh)
/-- JOURNAL_REPLICA_RECEIVE (R368). -/
def execJournalReplicaReceive (record : List Byte) (s : State) : Host.Outcome State Fault Refusal :=
  done (replicaReceive record s.fresh)
/-- COUNTER_BLOCK_WRITE (R366). -/
def execCounterBlockWrite (s : State) : Host.Outcome State Fault Refusal := done (counterBlock s.fresh)
/-- SOFTWARE_SNAPSHOT (R369). -/
def execSoftwareSnapshot (w : Who) (od : Bool) (s : State) : Host.Outcome State Fault Refusal :=
  done ((fun t => if od then odBy w 0x5850 1 [1] t else snapBy w 0 t) s.fresh)
/-- SNAP_N_EDGE (R369). -/
def execSnapNEdge (s : State) : Host.Outcome State Fault Refusal := done (snapPin s.fresh)
/-- SNAPSHOT_COPY (R373). -/
def execSnapshotCopy (s : State) : Host.Outcome State Fault Refusal := done (snapCopy s.fresh)
/-- SNAPSHOT_RELEASE_B0 (R373). -/
def execSnapshotReleaseB0 (w : Who) (s : State) : Host.Outcome State Fault Refusal := done (snapBy w 11 s.fresh)
/-- SNAPSHOT_RELEASE_B1 (R373). -/
def execSnapshotReleaseB1 (w : Who) (s : State) : Host.Outcome State Fault Refusal := done (snapBy w 12 s.fresh)

end Sys2Proof.Machine
end

