-- ==== Sys2Proof/Machine/ExecCan.lean ====
section
/-!
DEFINITION. The CANopen node (R294 to R300).
-/

namespace Sys2Proof.Machine

open Sys2Proof

/-- SDO_INITIATE_DOWNLOAD (R296). -/
def execSdoInitiateDownload (frame : List Byte) (s : State) : Host.Outcome State Fault Refusal :=
  finish (sdoInitDown frame s.fresh)
/-- SDO_DOWNLOAD_SEGMENT (R296). -/
def execSdoDownloadSegment (frame : List Byte) (s : State) : Host.Outcome State Fault Refusal :=
  finish (sdoSegDown frame s.fresh)
/-- SDO_INITIATE_UPLOAD (R296). -/
def execSdoInitiateUpload (frame : List Byte) (s : State) : Host.Outcome State Fault Refusal :=
  done (sdoInitUp frame s.fresh)
/-- SDO_UPLOAD_SEGMENT (R296). -/
def execSdoUploadSegment (frame : List Byte) (s : State) : Host.Outcome State Fault Refusal := done (sdoSegUp frame s.fresh)
/-- SDO_BLOCK_DOWNLOAD (R296). -/
def execSdoBlockDownload (frame : List Byte) (s : State) : Host.Outcome State Fault Refusal :=
  finish (sdoBlockDown frame s.fresh)
/-- SDO_BLOCK_UPLOAD (R296). -/
def execSdoBlockUpload (frame : List Byte) (s : State) : Host.Outcome State Fault Refusal := done (sdoBlockUp frame s.fresh)
/-- SDO_CLIENT_ABORT (R296). -/
def execSdoClientAbort (_frame : List Byte) (s : State) : Host.Outcome State Fault Refusal := done (sdoClientAbort s.fresh)
/-- SDO_TIMEOUT (R296). -/
def execSdoTimeout (s : State) : Host.Outcome State Fault Refusal := done (sdoTimeout s.fresh)
/-- USDO_REQUEST (R296). -/
def execUsdoRequest (req : UsdoReq) (s : State) : Host.Outcome State Fault Refusal := finish (usdoRequest req s.fresh)
/-- RPDO_RECEIVE (R297). -/
def execRpdoReceive (n : Fin 4) (data : List Byte) (s : State) : Host.Outcome State Fault Refusal :=
  finish (rpdoReceive n data s.fresh)
/-- TPDO_TRANSMIT (R297). -/
def execTpdoTransmit (n : Fin 4) (why : PdoCause) (s : State) : Host.Outcome State Fault Refusal :=
  done (tpdoSend n why s.fresh)
/-- NMT_START (R295). -/
def execNmtStart (s : State) : Host.Outcome State Fault Refusal := done (nmtStart s.fresh)
/-- NMT_STOP (R295). -/
def execNmtStop (s : State) : Host.Outcome State Fault Refusal := done (nmtStop s.fresh)
/-- NMT_ENTER_PREOPERATIONAL (R295). -/
def execNmtEnterPreoperational (s : State) : Host.Outcome State Fault Refusal := done (nmtPreOp s.fresh)
/-- NMT_RESET_COMMUNICATION (R295). -/
def execNmtResetCommunication (s : State) : Host.Outcome State Fault Refusal := done (nmtReset s.fresh)
/-- NMT_RESET_NODE (R295). -/
def execNmtResetNode (s : State) : Host.Outcome State Fault Refusal := done (nmtReset s.fresh)
/-- CAN_SYNC (R300). -/
def execCanSync (s : State) : Host.Outcome State Fault Refusal := done (canSync s.fresh)
/-- CAN_TIME (R300). -/
def execCanTime (ms : BitVec 28) (days : Half) (s : State) : Host.Outcome State Fault Refusal :=
  done (canTime ms days s.fresh)
/-- HEARTBEAT_PRODUCE (R300). -/
def execHeartbeatProduce (s : State) : Host.Outcome State Fault Refusal := done (heartbeatSend s.fresh)
/-- HEARTBEAT_RECEIVE (R300). -/
def execHeartbeatReceive (node : BitVec 7) (s : State) : Host.Outcome State Fault Refusal :=
  done (heartbeatReceive node s.fresh)
/-- HEARTBEAT_TIMEOUT (R300). -/
def execHeartbeatTimeout (k : Fin 4) (s : State) : Host.Outcome State Fault Refusal := done (heartbeatTimeout k s.fresh)
/-- BUS_OFF (R300). -/
def execBusOff (s : State) : Host.Outcome State Fault Refusal := done (busOff s.fresh)
/-- BUS_OFF_RECOVERY (R300). -/
def execBusOffRecovery (s : State) : Host.Outcome State Fault Refusal := done (busOffRecovery s.fresh)
/-- ERROR_PASSIVE (R299). -/
def execErrorPassive (tec rec_ : Byte) (s : State) : Host.Outcome State Fault Refusal := done (errorPassive tec rec_ s.fresh)
/-- CAN_ERROR_ACTIVE (R299). -/
def execCanErrorActive (s : State) : Host.Outcome State Fault Refusal := done (canErrorActive s.fresh)
/-- RECEIVE_OVERRUN (R299). -/
def execReceiveOverrun (s : State) : Host.Outcome State Fault Refusal := done (receiveOverrun s.fresh)
/-- EMCY_SEND (R299). -/
def execEmcySend (s : State) : Host.Outcome State Fault Refusal := done (emcySend s.fresh)

end Sys2Proof.Machine
end

