-- ==== Sys2Proof/Machine/ExecChannel.lean ====
section
/-!
DEFINITION. Export channels and relays of the XPT (R262 to R268).
-/

namespace Sys2Proof.Machine

open Sys2Proof

/-- CHANNEL_SEND (R263). -/
def execChannelSend (n : Fin 48) (s : State) : Host.Outcome State Fault Refusal := done (channelSend n s.fresh)
/-- CHANNEL_DATA_RECEIVE (R264). -/
def execChannelDataReceive (n : Fin 48) (seq : Byte) (payload : List Byte) (good poison : Bool)
    (s : State) : Host.Outcome State Fault Refusal :=
  done (dataReceive n seq payload good poison s.fresh)
/-- CHANNEL_ACK_RECEIVE (R266). -/
def execChannelAckReceive (n : Fin 48) (src : BitVec 12) (next : Byte) (nak : Bool) (win : BitVec 6)
    (s : State) : Host.Outcome State Fault Refusal :=
  done (ackReceive n src next nak win s.fresh)
/-- ACK_SEND (R265). -/
def execAckSend (n : Fin 48) (s : State) : Host.Outcome State Fault Refusal := done (ackSend n s.fresh)
/-- ACK_TIMEOUT (R266). -/
def execAckTimeout (n : Fin 48) (s : State) : Host.Outcome State Fault Refusal := done (ackTimeout n s.fresh)
/-- CHANNEL_OPEN (R266). -/
def execChannelOpen (w : Who) (n : Fin 48) (s : State) : Host.Outcome State Fault Refusal := finish (bindBy w n true s.fresh)
/-- CHANNEL_CLOSE (R266). -/
def execChannelClose (w : Who) (n : Fin 48) (s : State) : Host.Outcome State Fault Refusal :=
  finish (bindBy w n false s.fresh)
/-- RELAY_POLL (R268). -/
def execRelayPoll (n : Fin 48) (report : List Byte) (s : State) : Host.Outcome State Fault Refusal :=
  done (relayPoll n report s.fresh)
/-- RELAY_HOST_POLL (R268). -/
def execRelayHostPoll (n : Fin 48) (s : State) : Host.Outcome State Fault Refusal := done (relayHostPoll n s.fresh)

end Sys2Proof.Machine
end

