-- ==== Sys2Proof/Machine/ExecDebug.lean ====
section
/-!
DEFINITION. The debug port: its TAP, authentication, access and mailbox (R390 to R398).
-/

namespace Sys2Proof.Machine

open Sys2Proof

/-- TAP_RESET (R390). -/
def execTapReset (s : State) : Host.Outcome State Fault Refusal := done (tapReset s.fresh)
/-- EXTEST (R392). -/
def execExtest (s : State) : Host.Outcome State Fault Refusal := done (loadIr 0x00 s.fresh)
/-- IDCODE (R391). -/
def execIdcode (s : State) : Host.Outcome State Fault Refusal := done (tapIdcode s.fresh)
/-- SAMPLE_PRELOAD (R390). -/
def execSamplePreload (s : State) : Host.Outcome State Fault Refusal := done (loadIr 0x02 s.fresh)
/-- CLAMP (R392). -/
def execClamp (s : State) : Host.Outcome State Fault Refusal := done (loadIr 0x04 s.fresh)
/-- HIGHZ (R392). -/
def execHighz (s : State) : Host.Outcome State Fault Refusal := done (loadIr 0x05 s.fresh)
/-- BYPASS (R390). -/
def execBypass (code : Byte) (s : State) : Host.Outcome State Fault Refusal := done (tapBypass code s.fresh)
/-- DBG_CHALLENGE (R393). -/
def execDbgChallenge (s : State) : Host.Outcome State Fault Refusal := done ((fun t => dbgChallenge (loadIr 0x20 t)) s.fresh)
/-- DBG_RESPONSE (R394). -/
def execDbgResponse (sig : List Byte) (s : State) : Host.Outcome State Fault Refusal :=
  done ((fun t => dbgResponse sig (loadIr 0x20 t)) s.fresh)
/-- DBG_VERIFY_COMPLETE (R394). -/
def execDbgVerifyComplete (s : State) : Host.Outcome State Fault Refusal := done (dbgVerifyComplete s.fresh)
/-- DBG_END_SESSION (R395). -/
def execDbgEndSession (s : State) : Host.Outcome State Fault Refusal := done ((fun t => dbgEnd (loadIr 0x20 t)) s.fresh)
/-- DBG_POLL (R396). -/
def execDbgPoll (s : State) : Host.Outcome State Fault Refusal := done (accPoll s.fresh)
/-- DBG_READ (R396). -/
def execDbgRead (addr : Word) (s : State) : Host.Outcome State Fault Refusal := done (accRead addr s.fresh)
/-- DBG_WRITE (R396). -/
def execDbgWrite (addr val : Word) (s : State) : Host.Outcome State Fault Refusal := finish (accWrite addr val s.fresh)
/-- DBG_MBOX_TRANSFER (R398). -/
def execDbgMboxTransfer (word : DWord) (valid : Bool) (s : State) : Host.Outcome State Fault Refusal :=
  finish (mboxTransfer word valid s.fresh)
/-- DBG_AUTH_LOCK_END (R394). -/
def execDbgAuthLockEnd (s : State) : Host.Outcome State Fault Refusal := done (dbgLockEnd s.fresh)

end Sys2Proof.Machine
end

