-- ==== Sys2Proof/Machine/ExecEngine.lean ====
section
/-!
DEFINITION. Life of a port engine: runs, resets, holds, timers, the debug halt (R160 to R178, R399).
-/

namespace Sys2Proof.Machine

open Sys2Proof

/-- ENGINE_RUN_START (R160). -/
def execEngineRunStart (pe : Fin 8) (s : State) : Host.Outcome State Fault Refusal := done (runStart pe s.fresh)
/-- TICK_OVERRUN (R163). -/
def execTickOverrun (pe : Fin 8) (s : State) : Host.Outcome State Fault Refusal := done (tickOverrun pe s.fresh)
/-- WATCHDOG_EXPIRY (R166). -/
def execWatchdogExpiry (pe : Fin 8) (s : State) : Host.Outcome State Fault Refusal := done (watchdogExpiry pe s.fresh)
/-- IRAM_CHECK_COMPLETE (R168). -/
def execIramCheckComplete (pe : Fin 8) (s : State) : Host.Outcome State Fault Refusal := done (checkDone pe s.fresh)
/-- ENGINE_RELOAD_COMPLETE (R168). -/
def execEngineReloadComplete (pe : Fin 8) (s : State) : Host.Outcome State Fault Refusal := done (reloadComplete pe s.fresh)
/-- PORT_HOLD_EXPIRED (R169). -/
def execPortHoldExpired (pe : Fin 8) (s : State) : Host.Outcome State Fault Refusal := done (portHoldExpired pe s.fresh)
/-- TIMER_EXPIRY (R178). -/
def execTimerExpiry (t : Fin 16) (s : State) : Host.Outcome State Fault Refusal := done (timerExpiry t s.fresh)
/-- HOLD_SET (R162). -/
def execHoldSet (w : Who) (pe : Fin 8) (s : State) : Host.Outcome State Fault Refusal := finish (peCtlBy w pe 1 s.fresh)
/-- HOLD_CLEAR (R162). -/
def execHoldClear (w : Who) (pe : Fin 8) (s : State) : Host.Outcome State Fault Refusal := finish (peCtlBy w pe 0 s.fresh)
/-- ENGINE_RST (R162). -/
def execEngineRst (w : Who) (pe : Fin 8) (od : Bool) (s : State) : Host.Outcome State Fault Refusal :=
  finish (engineRst w pe od s.fresh)
/-- TWAIT_WAKE (R176). -/
def execTwaitWake (pe : Fin 8) (s : State) : Host.Outcome State Fault Refusal := done (twaitWake pe s.fresh)
/-- HALT_REQUEST (R399). -/
def execHaltRequest (w : Who) (pe : Fin 8) (s : State) : Host.Outcome State Fault Refusal :=
  finish (dbgCtlWrite w pe 1 s.fresh)
/-- RESUME (R400). -/
def execResume (w : Who) (pe : Fin 8) (s : State) : Host.Outcome State Fault Refusal := finish (dbgCtlWrite w pe 2 s.fresh)
/-- STEP (R399). -/
def execStep (w : Who) (a : At) (s : State) : Host.Outcome State Fault Refusal := finish (dbgStep w a s.fresh)

end Sys2Proof.Machine
end

