-- ==== Sys2Proof/Machine/ExecExport.lean ====
section
/-!
DEFINITION. Remote export and import of devices (R247 to R260, R270).
-/

namespace Sys2Proof.Machine

open Sys2Proof

/-- EXPORT_PORT_POWER (R247). -/
def execExportPortPower (p : Fin 24) (s : State) : Host.Outcome State Fault Refusal := done (exportPortPower p s.fresh)
/-- EXPORT_ENUM_START (R248). -/
def execExportEnumStart (p : Fin 24) (s : State) : Host.Outcome State Fault Refusal := done (exportEnumStart p s.fresh)
/-- EXPORT_ENUM_COMPLETE (R249). -/
def execExportEnumComplete (p : Fin 24) (failed : Bool) (descs : List Desc) (s : State) : Host.Outcome State Fault Refusal :=
  done (exportEnumComplete p failed descs s.fresh)
/-- EXPORT_ENUM_TIMEOUT (R249). -/
def execExportEnumTimeout (p : Fin 24) (s : State) : Host.Outcome State Fault Refusal :=
  done (byRole 27 (exportEnumTimeout p) s.fresh)
/-- EXPORT_DEVICE_GONE (R250). -/
def execExportDeviceGone (p : Fin 24) (s : State) : Host.Outcome State Fault Refusal := done (exportGone p s.fresh)
/-- BIND (R251). -/
def execBind (w : Who) (p : Fin 24) (importer : BitVec 12) (v : Fin 16) (s : State) : Host.Outcome State Fault Refusal :=
  done (odBy w 0x4804 (p.val + 1) (le32 (importer.toNat + 2 ^ 12 * v.val + 2 ^ 24)) s.fresh)
/-- UNBIND (R251). -/
def execUnbind (w : Who) (p : Fin 24) (s : State) : Host.Outcome State Fault Refusal :=
  done (odBy w 0x4804 (p.val + 1) (le32 (2 ^ 25)) s.fresh)
/-- IMPORT_BIND_ATTEMPT (R252). -/
def execImportBindAttempt (v : Fin 16) (s : State) : Host.Outcome State Fault Refusal := done (importBindAttempt v s.fresh)
/-- VIRTUAL_CONTROL_REQUEST (R254). -/
def execVirtualControlRequest (v : Fin 16) (setup data : List Byte) (s : State) : Host.Outcome State Fault Refusal :=
  done (virtualReq v (virtualControl v setup data) s.fresh)
/-- CTRL_REQ (R256). -/
def execCtrlReq (p : Fin 24) (src : BitVec 12) (tag : Half) (setup data : List Byte) (res : Option (Bool × List Byte))
    (s : State) : Host.Outcome State Fault Refusal :=
  done (byRole 27 (ctrlReq p src tag setup data res) s.fresh)
/-- CTRL_RSP (R259). -/
def execCtrlRsp (peer : BitVec 12) (slot : Nat) (tag : Half) (status : Nat) (data : List Byte)
    (s : State) : Host.Outcome State Fault Refusal :=
  done (byRole 27 (ctrlRsp peer slot tag status data) s.fresh)
/-- CTRL_ABORT (R74). -/
def execCtrlAbort (p : Fin 24) (src : BitVec 12) (tag : Half) (s : State) : Host.Outcome State Fault Refusal :=
  done (byRole 27 (ctrlAbort p src tag) s.fresh)
/-- CTRL_RESET (R270). -/
def execCtrlReset (p : Fin 24) (src : BitVec 12) (tag : Half) (kind : Fin 4)
    (s : State) : Host.Outcome State Fault Refusal :=
  done (byRole 27 (ctrlReset p src tag kind) s.fresh)
/-- CTRL_RESET_ANSWER (R270). -/
def execCtrlResetAnswer (peer : BitVec 12) (slot : Nat) (tag : Half) (speed : SpeedCode)
    (s : State) : Host.Outcome State Fault Refusal :=
  done (byRole 27 (ctrlResetAnswer peer slot tag speed.toSpeed) s.fresh)
/-- CTRL_SUSPEND (R270). -/
def execCtrlSuspend (p : Fin 24) (src : BitVec 12) (tag : Half) (s : State) : Host.Outcome State Fault Refusal :=
  done (byRole 27 (ctrlSuspend p src tag) s.fresh)
/-- CTRL_RESUME (R270). -/
def execCtrlResume (p : Fin 24) (src : BitVec 12) (tag : Half) (s : State) : Host.Outcome State Fault Refusal :=
  done (byRole 27 (ctrlResume p src tag) s.fresh)
/-- CTRL_WAKE (R270). -/
def execCtrlWake (peer : BitVec 12) (slot : Nat) (tag : Half) (s : State) : Host.Outcome State Fault Refusal :=
  done (byRole 27 (ctrlWake peer slot tag) s.fresh)
/-- CTRL_DETACH (R270). -/
def execCtrlDetach (peer : BitVec 12) (slot : Nat) (tag : Half) (s : State) : Host.Outcome State Fault Refusal :=
  done (byRole 27 (ctrlDetach peer slot tag) s.fresh)
/-- CTRL_CHFAIL (R270). -/
def execCtrlChfail (peer : BitVec 12) (slot : Nat) (tag : Half) (ep : Byte) (s : State) : Host.Outcome State Fault Refusal :=
  done (byRole 27 (ctrlChfail peer slot tag ep) s.fresh)
/-- CTRL_PING (R258). -/
def execCtrlPing (peer : BitVec 12) (slot : Nat) (tag : Half) (s : State) : Host.Outcome State Fault Refusal :=
  done (byRole 27 (ctrlPing peer slot tag) s.fresh)
/-- CTRL_ANSWER (R258). -/
def execCtrlAnswer (peer : BitVec 12) (op : Byte) (slot : Nat) (tag : Half) (s : State) : Host.Outcome State Fault Refusal :=
  done (byRole 27 (ctrlAnswered peer op slot tag) s.fresh)
/-- CTRL_RESEND (R260). -/
def execCtrlResend (tag : Half) (s : State) : Host.Outcome State Fault Refusal := done (byRole 27 (ctrlResend tag) s.fresh)
/-- PING_SEND (R258). -/
def execPingSend (peer : BitVec 12) (slot : Nat) (s : State) : Host.Outcome State Fault Refusal :=
  done (byRole 27 (pingSend peer slot) s.fresh)
/-- DEVICE_ALLOWANCE_EXPIRED (R257). -/
def execDeviceAllowanceExpired (p : Fin 24) (s : State) : Host.Outcome State Fault Refusal :=
  done (byRole 27 (deviceAllowance p) s.fresh)
/-- IMPORT_LIMIT_EXPIRED (R257). -/
def execImportLimitExpired (v : Fin 16) (s : State) : Host.Outcome State Fault Refusal :=
  done (byRole 27 (importLimit v) s.fresh)
/-- VIRTUAL_RESET_TIMEOUT (R270). -/
def execVirtualResetTimeout (v : Fin 16) (s : State) : Host.Outcome State Fault Refusal :=
  done (byRole 27 (virtualResetTimeout v) s.fresh)
/-- PEER_LOST (R270). -/
def execPeerLost (peer : BitVec 12) (s : State) : Host.Outcome State Fault Refusal :=
  done (byRole 27 (peerLost peer) s.fresh)

end Sys2Proof.Machine
end

