-- ==== Sys2Proof/Machine/ExecFabTime.lean ====
section
/-!
DEFINITION. Fabric time and scheduled snapshots (R232 to R238).
-/

namespace Sys2Proof.Machine

open Sys2Proof

/-- DREQ_SEND (R233). -/
def execDreqSend (f : Fin 4) (t1 : DWord) (s : State) : Host.Outcome State Fault Refusal := done (dreqSend f t1 s.fresh)
/-- DREQ_RECEIVE (R233). -/
def execDreqReceive (f : Fin 4) (q : Byte) (t1 t2 t3 : DWord) (s : State) : Host.Outcome State Fault Refusal :=
  done (dreqReceive f q t1 t2 t3 s.fresh)
/-- DRESP_RECEIVE (R233). -/
def execDrespReceive (f : Fin 4) (q : Byte) (t1 t2 t3 t4 : DWord) (s : State) : Host.Outcome State Fault Refusal :=
  done (drespReceive f q t1 t2 t3 t4 s.fresh)
/-- SYNC_RECEIVE (R234). -/
def execSyncReceive (f : Fin 4) (master : BitVec 12) (sseq : Word) (origin corr trx : DWord) (ttx : Tbl 4 DWord)
    (s : State) : Host.Outcome State Fault Refusal :=
  done (syncReceive f master sseq origin corr trx ttx s.fresh)
/-- SYNC_LOSS (R235). -/
def execSyncLoss (s : State) : Host.Outcome State Fault Refusal := done (syncLoss s.fresh)
/-- HOLDOVER_EXPIRED (R235). -/
def execHoldoverExpired (s : State) : Host.Outcome State Fault Refusal := done (holdoverExpired s.fresh)
/-- TIMEREF_IN_EDGE (R232). -/
def execTimerefInEdge (s : State) : Host.Outcome State Fault Refusal := done (trefEdge s.fresh)
/-- TIMEREF_IN_LOSS (R232). -/
def execTimerefInLoss (s : State) : Host.Outcome State Fault Refusal := done (trefLoss s.fresh)
/-- SNAPSHOT_SCHEDULE (R237). -/
def execSnapshotSchedule (w : Who) (s : State) : Host.Outcome State Fault Refusal := done (odBy w 0x4030 3 [1] s.fresh)
/-- SNAPT_RECEIVE (R237). -/
def execSnaptReceive (f : Fin 4) (src : BitVec 12) (ttl : BitVec 6) (id : Word) (origin : BitVec 12) (t : DWord)
    (s : State) : Host.Outcome State Fault Refusal :=
  done (snaptReceive f src ttl id origin t s.fresh)

end Sys2Proof.Machine
end

