-- ==== Sys2Proof/Machine/ExecFabric.lean ====
section
/-!
DEFINITION. The Asjor fabric: links, frames, topology records, addresses, routes (R213 to R229).
-/

namespace Sys2Proof.Machine

open Sys2Proof

/-- FRAME_RECEIVE (R213). -/
def execFrameReceive (f : Fin 4) (bytes : List Byte) (aborted : Bool) (stamps : Stamps)
    (s : State) : Host.Outcome State Fault Refusal :=
  done (frameReceive f bytes aborted stamps s.fresh)
/-- CREDIT_BLOCK_RECEIVE (R215). -/
def execCreditBlockReceive (f : Fin 4) (stop : BitVec 4) (rf : Bool) (s : State) : Host.Outcome State Fault Refusal :=
  done (creditReceive f stop rf s.fresh)
/-- CREDIT_BLOCK_SEND (R215). -/
def execCreditBlockSend (f : Fin 4) (s : State) : Host.Outcome State Fault Refusal := done (creditSend f s.fresh)
/-- BLOCK_LOCK_ACQUIRED (R220). -/
def execBlockLockAcquired (f : Fin 4) (s : State) : Host.Outcome State Fault Refusal := done (blockLock f s.fresh)
/-- TRAIN_COMPLETE (R220). -/
def execTrainComplete (f : Fin 4) (t1 : DWord) (s : State) : Host.Outcome State Fault Refusal :=
  done (trainComplete f t1 s.fresh)
/-- TRAIN_TIMEOUT (R220). -/
def execTrainTimeout (f : Fin 4) (s : State) : Host.Outcome State Fault Refusal := done (trainTimeout f s.fresh)
/-- PROBE_COMPLETE (R220). -/
def execProbeComplete (f : Fin 4) (s : State) : Host.Outcome State Fault Refusal := done (probeComplete f s.fresh)
/-- PROBE_TIMEOUT (R220). -/
def execProbeTimeout (f : Fin 4) (s : State) : Host.Outcome State Fault Refusal := done (probeTimeout f s.fresh)
/-- LOSS_OF_SIGNAL (R220). -/
def execLossOfSignal (f : Fin 4) (lock : Bool) (s : State) : Host.Outcome State Fault Refusal :=
  done (lossOfSignal f lock s.fresh)
/-- REMOTE_FAULT (R220). -/
def execRemoteFault (f : Fin 4) (s : State) : Host.Outcome State Fault Refusal := done (remoteFault f s.fresh)
/-- HELLO_DEAD (R220). -/
def execHelloDead (f : Fin 4) (s : State) : Host.Outcome State Fault Refusal := done (helloDead f s.fresh)
/-- FAULT_HOLD_EXPIRED (R220). -/
def execFaultHoldExpired (f : Fin 4) (s : State) : Host.Outcome State Fault Refusal := done (faultHold f s.fresh)
/-- HELLO_SEND (R222). -/
def execHelloSend (f : Fin 4) (s : State) : Host.Outcome State Fault Refusal := done (helloSend f s.fresh)
/-- HELLO_RECEIVE (R222). -/
def execHelloReceive (f : Fin 4) (hello : Hello) (s : State) : Host.Outcome State Fault Refusal :=
  done (helloReceive f hello s.fresh)
/-- LSR_SEND (R223). -/
def execLsrSend (s : State) : Host.Outcome State Fault Refusal := done (lsrSend s.fresh)
/-- LSR_REFRESH (R223). -/
def execLsrRefresh (s : State) : Host.Outcome State Fault Refusal := done (lsrRefresh s.fresh)
/-- LSR_RECEIVE (R224). -/
def execLsrReceive (f : Fin 4) (src : BitVec 12) (ttl : BitVec 6) (lsr : Lsr)
    (s : State) : Host.Outcome State Fault Refusal :=
  done (lsrReceive f src ttl lsr s.fresh)
/-- LSR_EXPIRE (R223). -/
def execLsrExpire (uid : DWord) (s : State) : Host.Outcome State Fault Refusal := done (lsrExpire uid s.fresh)
/-- ADDRREQ_SEND (R226). -/
def execAddrreqSend (s : State) : Host.Outcome State Fault Refusal := done (addrReqSend s.fresh)
/-- ADDRREQ_RECEIVE (R226). -/
def execAddrreqReceive (f : Fin 4) (src : BitVec 12) (ttl : BitVec 6) (uid : DWord) (pref : BitVec 12) (seq : Word)
    (s : State) : Host.Outcome State Fault Refusal :=
  done (addrReqReceive f src ttl uid pref seq s.fresh)
/-- ADDR_RECEIVE (R226). -/
def execAddrReceive (f : Fin 4) (src : BitVec 12) (ttl : BitVec 6) (target : DWord) (addr : BitVec 12) (seq : Word) (stew : DWord)
    (s : State) : Host.Outcome State Fault Refusal :=
  done (addrReceive f src ttl target addr seq stew s.fresh)
/-- ROUTE_RECOMPUTE (R228). -/
def execRouteRecompute (s : State) : Host.Outcome State Fault Refusal := done (routeRecompute s.fresh)
/-- ROUTE_BANK_SWAP (R229). -/
def execRouteBankSwap (w : Who) (s : State) : Host.Outcome State Fault Refusal := finish (regBy w 0x90020 1 s.fresh)

end Sys2Proof.Machine
end

