-- ==== Sys2Proof/Machine/ExecFailover.lean ====
section
/-!
DEFINITION. The failover machine of PE0 and bridging (R80 to R89, R170).
-/

namespace Sys2Proof.Machine

open Sys2Proof

/-- FAIL_HOLD_EXPIRED (R81). -/
def execFailHoldExpired (x : Fin 2) (s : State) : Host.Outcome State Fault Refusal :=
  done (byEngine 0 (holdExpired x) s.fresh)
/-- ALTERNATE_PRESENT (R81). -/
def execAlternatePresent (x : Fin 2) (s : State) : Host.Outcome State Fault Refusal :=
  done (byEngine 0 (alternatePresent x) s.fresh)
/-- START_WAIT_EXPIRED (R80). -/
def execStartWaitExpired (x : Fin 2) (s : State) : Host.Outcome State Fault Refusal :=
  done (byEngine 0 (startWaitExpired x) s.fresh)
/-- HANDOVER (R81). -/
def execHandover (x : Fin 2) (s : State) : Host.Outcome State Fault Refusal := done (byEngine 0 (handover x) s.fresh)
/-- FAILBACK (R86). -/
def execFailback (x : Fin 2) (s : State) : Host.Outcome State Fault Refusal := done (byEngine 0 (failback x) s.fresh)
/-- REATTACH (R83). -/
def execReattach (x : Fin 2) (s : State) : Host.Outcome State Fault Refusal := done (byEngine 0 (reattach x) s.fresh)
/-- HELD_RELEASE (R83). -/
def execHeldRelease (p : Fin 24) (s : State) : Host.Outcome State Fault Refusal := done (heldRelease p s.fresh)
/-- BRIDGE_TIMEOUT (R84). -/
def execBridgeTimeout (p : Fin 24) (s : State) : Host.Outcome State Fault Refusal := done (bridgeTimeout p s.fresh)

end Sys2Proof.Machine
end

