-- ==== Sys2Proof/Machine/ExecHub.lean ====
section
/-!
DEFINITION. Requests to hub halves and the standard requests of USB functions (R43 to R69, R92).
-/

namespace Sys2Proof.Machine

open Sys2Proof

/-- SET_CONFIGURATION (R50). -/
def execSetConfiguration (fn : UsbFn) (on : Bool) (s : State) : Host.Outcome State Fault Refusal :=
  done (fnReq fn (configureFn fn on) s.fresh)
/-- GET_HUB_STATUS (R49). -/
def execGetHubStatus (lh : Fin 6) (hs : Bool) (s : State) : Host.Outcome State Fault Refusal :=
  done (hubReq lh hs (getHubStatus lh hs) s.fresh)
/-- GET_PORT_STATUS (R49). -/
def execGetPortStatus (lh : Fin 6) (hs : Bool) (n : Nat) (ext : Bool) (s : State) : Host.Outcome State Fault Refusal :=
  done (hubReq lh hs (getPortStatus lh hs n ext) s.fresh)
/-- CLEAR_HUB_FEATURE (R49). -/
def execClearHubFeature (lh : Fin 6) (hs ovc : Bool) (s : State) : Host.Outcome State Fault Refusal :=
  done (hubReq lh hs (clearHubFeature lh hs ovc) s.fresh)
/-- SET_PORT_POWER (R50). -/
def execSetPortPower (lh : Fin 6) (hs : Bool) (n : Nat) (s : State) : Host.Outcome State Fault Refusal :=
  done (hubReq lh hs (setPortPower lh hs n) s.fresh)
/-- CLEAR_PORT_POWER (R50). -/
def execClearPortPower (lh : Fin 6) (hs : Bool) (n : Nat) (s : State) : Host.Outcome State Fault Refusal :=
  done (hubReq lh hs (clearPortPower lh hs n) s.fresh)
/-- SET_PORT_RESET (R52). -/
def execSetPortReset (lh : Fin 6) (hs : Bool) (n : Nat) (s : State) : Host.Outcome State Fault Refusal :=
  done (hubReq lh hs (setPortReset lh hs n) s.fresh)
/-- SET_BH_PORT_RESET (R52). -/
def execSetBhPortReset (lh : Fin 6) (n : Nat) (s : State) : Host.Outcome State Fault Refusal :=
  done (hubReq lh false (setBhPortReset lh n) s.fresh)
/-- SET_PORT_LINK_STATE (R65). -/
def execSetPortLinkState (lh : Fin 6) (n : Nat) (ls : Fin 16) (s : State) : Host.Outcome State Fault Refusal :=
  done (hubReq lh false (setPortLinkState lh n ls) s.fresh)
/-- SET_PORT_U1_TIMEOUT (R65). -/
def execSetPortU1Timeout (lh : Fin 6) (n : Nat) (t : Byte) (s : State) : Host.Outcome State Fault Refusal :=
  done (hubReq lh false (setPortTimeout false lh n t) s.fresh)
/-- SET_PORT_U2_TIMEOUT (R65). -/
def execSetPortU2Timeout (lh : Fin 6) (n : Nat) (t : Byte) (s : State) : Host.Outcome State Fault Refusal :=
  done (hubReq lh false (setPortTimeout true lh n t) s.fresh)
/-- SET_PORT_REMOTE_WAKE_MASK (R67). -/
def execSetPortRemoteWakeMask (lh : Fin 6) (n : Nat) (mask : Byte) (s : State) : Host.Outcome State Fault Refusal :=
  done (hubReq lh false (setWakeMask lh n mask) s.fresh)
/-- SET_FORCE_LINKPM_ACCEPT (R49). -/
def execSetForceLinkpmAccept (lh : Fin 6) (n : Nat) (on : Bool) (s : State) : Host.Outcome State Fault Refusal :=
  done (hubReq lh false (setForceLpm lh n on) s.fresh)
/-- SET_PORT_SUSPEND (R65). -/
def execSetPortSuspend (lh : Fin 6) (n : Nat) (s : State) : Host.Outcome State Fault Refusal :=
  done (hubReq lh true (setPortSuspend lh n) s.fresh)
/-- SET_PORT_TEST (R49). -/
def execSetPortTest (lh : Fin 6) (n : Nat) (mode : Fin 5) (s : State) : Host.Outcome State Fault Refusal :=
  done (hubReq lh true (setPortTest lh n mode) s.fresh)
/-- CLEAR_PORT_ENABLE (R52). -/
def execClearPortEnable (lh : Fin 6) (n : Nat) (s : State) : Host.Outcome State Fault Refusal :=
  done (hubReq lh true (clearPortEnable lh n) s.fresh)
/-- CLEAR_PORT_SUSPEND (R69). -/
def execClearPortSuspend (lh : Fin 6) (n : Nat) (s : State) : Host.Outcome State Fault Refusal :=
  done (hubReq lh true (clearPortSuspend lh n) s.fresh)
/-- CLEAR_PORT_CHANGE (R49). -/
def execClearPortChange (lh : Fin 6) (hs : Bool) (n : Nat) (bit : Fin 8) (s : State) : Host.Outcome State Fault Refusal :=
  done (hubReq lh hs (clearPortChange lh hs n bit) s.fresh)
/-- SET_U1_U2_ENABLE (R65). -/
def execSetU1U2Enable (lh : Fin 6) (u2 on : Bool) (s : State) : Host.Outcome State Fault Refusal :=
  done (hubReq lh false (setU12Enable lh u2 on) s.fresh)
/-- GET_HUB_DESCRIPTOR (R46). -/
def execGetHubDescriptor (lh : Fin 6) (hs : Bool) (s : State) : Host.Outcome State Fault Refusal :=
  done (hubReq lh hs (getHubDescriptor lh hs) s.fresh)
/-- SET_HUB_DEPTH (R43). -/
def execSetHubDepth (lh : Fin 6) (depth : BitVec 16) (s : State) : Host.Outcome State Fault Refusal :=
  done (hubReq lh false (setHubDepth lh depth) s.fresh)
/-- GET_PORT_ERR_COUNT (R49). -/
def execGetPortErrCount (lh : Fin 6) (n : Nat) (s : State) : Host.Outcome State Fault Refusal :=
  done (hubReq lh false (getPortErrCount lh n) s.fresh)
/-- CLEAR_TT_BUFFER (R55). -/
def execClearTtBuffer (lh : Fin 6) (n : Nat) (buf : Fin 4) (s : State) : Host.Outcome State Fault Refusal :=
  done (hubReq lh true (clearTtBuffer lh n buf) s.fresh)
/-- RESET_TT (R55). -/
def execResetTt (lh : Fin 6) (n : Nat) (s : State) : Host.Outcome State Fault Refusal :=
  done (hubReq lh true (resetTt lh n) s.fresh)
/-- GET_TT_STATE (R49). -/
def execGetTtState (lh : Fin 6) (_n : Nat) (s : State) : Host.Outcome State Fault Refusal :=
  done (hubReq lh true (hubRequestError lh) s.fresh)
/-- STOP_TT (R49). -/
def execStopTt (lh : Fin 6) (_n : Nat) (s : State) : Host.Outcome State Fault Refusal :=
  done (hubReq lh true (hubRequestError lh) s.fresh)
/-- SET_DESCRIPTOR (R49). -/
def execSetDescriptor (lh : Fin 6) (hs : Bool) (s : State) : Host.Outcome State Fault Refusal :=
  done (hubReq lh hs (hubRequestError lh) s.fresh)
/-- STATUS_CHANGE_POLL (R56). -/
def execStatusChangePoll (lh : Fin 6) (hs : Bool) (s : State) : Host.Outcome State Fault Refusal :=
  done (hubServed true lh hs (statusChangePoll lh hs) s.fresh)
/-- SET_ADDRESS (R92). -/
def execSetAddress (fn : UsbFn) (addr : BitVec 7) (s : State) : Host.Outcome State Fault Refusal :=
  done (fnReq fn (setAddress fn addr) s.fresh)
/-- SET_INTERFACE (R55). -/
def execSetInterface (lh : Fin 6) (alt : Bool) (s : State) : Host.Outcome State Fault Refusal :=
  done (hubReq lh true (setInterface lh alt) s.fresh)
/-- DEVICE_REMOTE_WAKEUP (R67). -/
def execDeviceRemoteWakeup (fn : UsbFn) (on : Bool) (s : State) : Host.Outcome State Fault Refusal :=
  done (fnReq fn (remoteWakeup fn on) s.fresh)

end Sys2Proof.Machine
end

