-- ==== Sys2Proof/Machine/ExecInstr.lean ====
section
/-!
DEFINITION. The instructions of the port engines (R173, R159).
-/

namespace Sys2Proof.Machine

open Sys2Proof

/-- ADD (R173). -/
def execAdd (a : At) (rd ra rb : Fin 16) (s : State) : Host.Outcome State Fault Refusal :=
  done (issue a (opAdd a rd ra rb) s.fresh)
/-- SUB (R173). -/
def execSub (a : At) (rd ra rb : Fin 16) (s : State) : Host.Outcome State Fault Refusal :=
  done (issue a (opSub a rd ra rb) s.fresh)
/-- AND (R173). -/
def execAnd (a : At) (rd ra rb : Fin 16) (s : State) : Host.Outcome State Fault Refusal :=
  done (issue a (opAnd a rd ra rb) s.fresh)
/-- OR (R173). -/
def execOr (a : At) (rd ra rb : Fin 16) (s : State) : Host.Outcome State Fault Refusal :=
  done (issue a (opOr a rd ra rb) s.fresh)
/-- XOR (R173). -/
def execXor (a : At) (rd ra rb : Fin 16) (s : State) : Host.Outcome State Fault Refusal :=
  done (issue a (opXor a rd ra rb) s.fresh)
/-- SLL (R173). -/
def execSll (a : At) (rd ra rb : Fin 16) (s : State) : Host.Outcome State Fault Refusal :=
  done (issue a (opSll a rd ra rb) s.fresh)
/-- SRL (R173). -/
def execSrl (a : At) (rd ra rb : Fin 16) (s : State) : Host.Outcome State Fault Refusal :=
  done (issue a (opSrl a rd ra rb) s.fresh)
/-- SRA (R173). -/
def execSra (a : At) (rd ra rb : Fin 16) (s : State) : Host.Outcome State Fault Refusal :=
  done (issue a (opSra a rd ra rb) s.fresh)
/-- SLT (R173). -/
def execSlt (a : At) (rd ra rb : Fin 16) (s : State) : Host.Outcome State Fault Refusal :=
  done (issue a (opSlt a rd ra rb) s.fresh)
/-- SLTU (R173). -/
def execSltu (a : At) (rd ra rb : Fin 16) (s : State) : Host.Outcome State Fault Refusal :=
  done (issue a (opSltu a rd ra rb) s.fresh)
/-- MUL (R173). -/
def execMul (a : At) (rd ra rb : Fin 16) (s : State) : Host.Outcome State Fault Refusal :=
  done (issue a (opMul a rd ra rb) s.fresh)
/-- MULHU (R173). -/
def execMulhu (a : At) (rd ra rb : Fin 16) (s : State) : Host.Outcome State Fault Refusal :=
  done (issue a (opMulhu a rd ra rb) s.fresh)
/-- ADDI (R173). -/
def execAddi (a : At) (rd ra : Fin 16) (imm : BitVec 18) (s : State) : Host.Outcome State Fault Refusal :=
  done (issue a (opAddi a rd ra imm) s.fresh)
/-- ANDI (R173). -/
def execAndi (a : At) (rd ra : Fin 16) (imm : BitVec 18) (s : State) : Host.Outcome State Fault Refusal :=
  done (issue a (opAndi a rd ra imm) s.fresh)
/-- ORI (R173). -/
def execOri (a : At) (rd ra : Fin 16) (imm : BitVec 18) (s : State) : Host.Outcome State Fault Refusal :=
  done (issue a (opOri a rd ra imm) s.fresh)
/-- XORI (R173). -/
def execXori (a : At) (rd ra : Fin 16) (imm : BitVec 18) (s : State) : Host.Outcome State Fault Refusal :=
  done (issue a (opXori a rd ra imm) s.fresh)
/-- SLLI (R173). -/
def execSlli (a : At) (rd ra : Fin 16) (imm : BitVec 18) (s : State) : Host.Outcome State Fault Refusal :=
  done (issue a (opSlli a rd ra imm) s.fresh)
/-- SRLI (R173). -/
def execSrli (a : At) (rd ra : Fin 16) (imm : BitVec 18) (s : State) : Host.Outcome State Fault Refusal :=
  done (issue a (opSrli a rd ra imm) s.fresh)
/-- SRAI (R173). -/
def execSrai (a : At) (rd ra : Fin 16) (imm : BitVec 18) (s : State) : Host.Outcome State Fault Refusal :=
  done (issue a (opSrai a rd ra imm) s.fresh)
/-- SLTI (R173). -/
def execSlti (a : At) (rd ra : Fin 16) (imm : BitVec 18) (s : State) : Host.Outcome State Fault Refusal :=
  done (issue a (opSlti a rd ra imm) s.fresh)
/-- HIMM (R173). -/
def execHimm (a : At) (rd ra : Fin 16) (imm : BitVec 18) (s : State) : Host.Outcome State Fault Refusal :=
  done (issue a (opHimm a rd ra imm) s.fresh)
/-- LW (R173). -/
def execLw (a : At) (rd ra : Fin 16) (imm : BitVec 18) (s : State) : Host.Outcome State Fault Refusal :=
  finish (issue a (opLw a rd ra imm) s.fresh)
/-- LH (R173). -/
def execLh (a : At) (rd ra : Fin 16) (imm : BitVec 18) (s : State) : Host.Outcome State Fault Refusal :=
  finish (issue a (opLh a rd ra imm) s.fresh)
/-- LHU (R173). -/
def execLhu (a : At) (rd ra : Fin 16) (imm : BitVec 18) (s : State) : Host.Outcome State Fault Refusal :=
  finish (issue a (opLhu a rd ra imm) s.fresh)
/-- LB (R173). -/
def execLb (a : At) (rd ra : Fin 16) (imm : BitVec 18) (s : State) : Host.Outcome State Fault Refusal :=
  finish (issue a (opLb a rd ra imm) s.fresh)
/-- LBU (R173). -/
def execLbu (a : At) (rd ra : Fin 16) (imm : BitVec 18) (s : State) : Host.Outcome State Fault Refusal :=
  finish (issue a (opLbu a rd ra imm) s.fresh)
/-- SW (R173). -/
def execSw (a : At) (rd ra : Fin 16) (imm : BitVec 18) (s : State) : Host.Outcome State Fault Refusal :=
  finish (issue a (opSw a rd ra imm) s.fresh)
/-- SH (R173). -/
def execSh (a : At) (rd ra : Fin 16) (imm : BitVec 18) (s : State) : Host.Outcome State Fault Refusal :=
  finish (issue a (opSh a rd ra imm) s.fresh)
/-- SB (R173). -/
def execSb (a : At) (rd ra : Fin 16) (imm : BitVec 18) (s : State) : Host.Outcome State Fault Refusal :=
  finish (issue a (opSb a rd ra imm) s.fresh)
/-- SWAP (R159). -/
def execSwap (a : At) (rd ra rb : Fin 16) (s : State) : Host.Outcome State Fault Refusal :=
  done (issue a (opSwap a rd ra rb) s.fresh)
/-- FADD (R159). -/
def execFadd (a : At) (rd ra rb : Fin 16) (s : State) : Host.Outcome State Fault Refusal :=
  done (issue a (opFadd a rd ra rb) s.fresh)
/-- BEQ (R173). -/
def execBeq (a : At) (ra rb : Fin 16) (off : BitVec 18) (s : State) : Host.Outcome State Fault Refusal :=
  done (issue a (opBeq a ra rb off) s.fresh)
/-- BNE (R173). -/
def execBne (a : At) (ra rb : Fin 16) (off : BitVec 18) (s : State) : Host.Outcome State Fault Refusal :=
  done (issue a (opBne a ra rb off) s.fresh)
/-- BLT (R173). -/
def execBlt (a : At) (ra rb : Fin 16) (off : BitVec 18) (s : State) : Host.Outcome State Fault Refusal :=
  done (issue a (opBlt a ra rb off) s.fresh)
/-- BGE (R173). -/
def execBge (a : At) (ra rb : Fin 16) (off : BitVec 18) (s : State) : Host.Outcome State Fault Refusal :=
  done (issue a (opBge a ra rb off) s.fresh)
/-- BLTU (R173). -/
def execBltu (a : At) (ra rb : Fin 16) (off : BitVec 18) (s : State) : Host.Outcome State Fault Refusal :=
  done (issue a (opBltu a ra rb off) s.fresh)
/-- BGEU (R173). -/
def execBgeu (a : At) (ra rb : Fin 16) (off : BitVec 18) (s : State) : Host.Outcome State Fault Refusal :=
  done (issue a (opBgeu a ra rb off) s.fresh)
/-- J (R173). -/
def execJ (a : At) (off : BitVec 26) (s : State) : Host.Outcome State Fault Refusal := done (issue a (opJ a off) s.fresh)
/-- JAL (R173). -/
def execJal (a : At) (off : BitVec 26) (s : State) : Host.Outcome State Fault Refusal := done (issue a (opJal a off) s.fresh)
/-- JALR (R173). -/
def execJalr (a : At) (rd ra : Fin 16) (imm : BitVec 18) (s : State) : Host.Outcome State Fault Refusal :=
  done (issue a (opJalr a rd ra imm) s.fresh)
/-- TEND (R162). -/
def execTend (a : At) (rd ra rb : Fin 16) (s : State) : Host.Outcome State Fault Refusal :=
  done (issue a (opTend a rd ra rb) s.fresh)
/-- RETH (R162). -/
def execReth (a : At) (rd ra rb : Fin 16) (s : State) : Host.Outcome State Fault Refusal :=
  done (issue a (opReth a rd ra rb) s.fresh)
/-- WDOG (R166). -/
def execWdog (a : At) (rd ra rb : Fin 16) (s : State) : Host.Outcome State Fault Refusal :=
  done (issue a (opWdog a rd ra rb) s.fresh)
/-- TSTAT (R173). -/
def execTstat (a : At) (rd ra rb : Fin 16) (s : State) : Host.Outcome State Fault Refusal :=
  done (issue a (opTstat a rd ra rb) s.fresh)
/-- EVTST (R173). -/
def execEvtst (a : At) (rd ra rb : Fin 16) (s : State) : Host.Outcome State Fault Refusal :=
  done (issue a (opEvtst a rd ra rb) s.fresh)
/-- BRK (R399). -/
def execBrk (a : At) (rd ra rb : Fin 16) (s : State) : Host.Outcome State Fault Refusal :=
  done (issue a (opBrk a rd ra rb) s.fresh)
/-- FENCE (R173). -/
def execFence (a : At) (rd ra rb : Fin 16) (s : State) : Host.Outcome State Fault Refusal :=
  done (issue a (opFence a rd ra rb) s.fresh)

end Sys2Proof.Machine
end

