-- ==== Sys2Proof/Machine/ExecMf.lean ====
section
/-!
DEFINITION. Requests to management functions, the lease, event acknowledgement, images (R58 to R63, R184, R286, R327).
-/

namespace Sys2Proof.Machine

open Sys2Proof

/-- GET_INFO (R58). -/
def execGetInfo (u : Fin 3) (s : State) : Host.Outcome State Fault Refusal := done (getInfo u s.fresh)
/-- GET_STATUS_CODE (R58). -/
def execGetStatusCode (u : Fin 3) (s : State) : Host.Outcome State Fault Refusal := done (getStatusCode u s.fresh)
/-- OD_READ (R58). -/
def execOdRead (u : Fin 3) (idx : BitVec 16) (sub : Byte) (len : Nat) (s : State) : Host.Outcome State Fault Refusal :=
  done (mfOdRead u idx.toNat sub.toNat len s.fresh)
/-- OD_WRITE (R58). -/
def execOdWrite (u : Fin 3) (idx : BitVec 16) (sub : Byte) (data : List Byte)
    (s : State) : Host.Outcome State Fault Refusal :=
  finish (mfOdWrite u idx.toNat sub.toNat data s.fresh)
/-- REG_READ (R58). -/
def execRegRead (u : Fin 3) (addr : Word) (len : Nat) (s : State) : Host.Outcome State Fault Refusal :=
  done (mfRegRead u addr.toNat len s.fresh)
/-- REG_WRITE (R58). -/
def execRegWrite (u : Fin 3) (addr val : Word) (s : State) : Host.Outcome State Fault Refusal :=
  finish (mfRegWrite u addr.toNat val s.fresh)
/-- LEASE_ACQUIRE (R286). -/
def execLeaseAcquire (w : Who) (s : State) : Host.Outcome State Fault Refusal := done (leaseBy w 1 s.fresh)
/-- LEASE_RENEW (R286). -/
def execLeaseRenew (w : Who) (s : State) : Host.Outcome State Fault Refusal := done (leaseBy w 2 s.fresh)
/-- LEASE_RELEASE (R286). -/
def execLeaseRelease (w : Who) (s : State) : Host.Outcome State Fault Refusal := done (leaseBy w 3 s.fresh)
/-- LEASE_EXPIRED (R286). -/
def execLeaseExpired (s : State) : Host.Outcome State Fault Refusal := done (leaseExpired s.fresh)
/-- EVENT_ACK (R327). -/
def execEventAck (w : Who) (n : Fin 64) (count : Half) (s : State) : Host.Outcome State Fault Refusal :=
  done (carried w (fun t => (0, [], emcyClear (eventAck n count t))) s.fresh)
/-- IMAGE_BEGIN (R58). -/
def execImageBegin (m : Fin 16) (slot : Fin 2) (s : State) : Host.Outcome State Fault Refusal :=
  done (imageBy m (imageBegin m slot) s.fresh)
/-- IMAGE_DATA (R58). -/
def execImageData (m : Fin 16) (block : Half) (data : List Byte) (s : State) : Host.Outcome State Fault Refusal :=
  done (imageBy m (imageData m block.toNat data) s.fresh)
/-- IMAGE_END_VERIFY (R184). -/
def execImageEndVerify (m : Fin 16) (s : State) : Host.Outcome State Fault Refusal :=
  done (imageBy m (imageEndVerify m) s.fresh)
/-- IMAGE_ABORT (R58). -/
def execImageAbort (m : Fin 16) (s : State) : Host.Outcome State Fault Refusal := done (imageBy m (imageAbort m) s.fresh)
/-- DICT_MSG_READ (R61). -/
def execDictMsgRead (u : Fin 3) (tag : Byte) (idx : Half) (sub : Byte) (s : State) : Host.Outcome State Fault Refusal :=
  done (mfDictRead u tag idx sub s.fresh)
/-- DICT_MSG_WRITE (R61). -/
def execDictMsgWrite (u : Fin 3) (tag : Byte) (idx : Half) (sub : Byte) (data : List Byte)
    (s : State) : Host.Outcome State Fault Refusal :=
  finish (mfDictWrite u tag idx sub data s.fresh)
/-- DICT_RESPONSE_READ (R61). -/
def execDictResponseRead (u : Fin 3) (s : State) : Host.Outcome State Fault Refusal := done (dictResponseRead u s.fresh)
/-- EVENT_REPORT_POLL (R62). -/
def execEventReportPoll (u : Fin 3) (s : State) : Host.Outcome State Fault Refusal := done (eventReportPoll u s.fresh)
/-- IMAGE_ACTIVATE (R184). -/
def execImageActivate (w : Who) (s : State) : Host.Outcome State Fault Refusal := done (odBy w 0x2031 4 [1] s.fresh)
/-- IMAGE_CONFIRM (R184). -/
def execImageConfirm (w : Who) (s : State) : Host.Outcome State Fault Refusal := done (odBy w 0x2031 4 [2] s.fresh)
/-- IMAGE_RESTORE (R184). -/
def execImageRestore (w : Who) (s : State) : Host.Outcome State Fault Refusal := done (odBy w 0x2031 4 [3] s.fresh)
/-- TRIAL_EXPIRED (R184). -/
def execTrialExpired (s : State) : Host.Outcome State Fault Refusal := done (trialExpired s.fresh)

end Sys2Proof.Machine
end

