-- ==== Sys2Proof/Machine/ExecOd.lean ====
section
/-!
DEFINITION. Commands of the object dictionary (R283 to R298).
-/

namespace Sys2Proof.Machine

open Sys2Proof

/-- STORE (R283). -/
def execStore (w : Who) (s : State) : Host.Outcome State Fault Refusal := done (odBy w 0x1010 1 (le32 0x65766173) s.fresh)
/-- STORE_COMPLETE (R283). -/
def execStoreComplete (ok : Bool) (s : State) : Host.Outcome State Fault Refusal := done (storeComplete ok s.fresh)
/-- RESTORE_DEFAULTS (R285). -/
def execRestoreDefaults (w : Who) (s : State) : Host.Outcome State Fault Refusal :=
  done (odBy w 0x1011 1 (le32 0x64616F6C) s.fresh)
/-- COMM_CHALLENGE (R290). -/
def execCommChallenge (w : Who) (s : State) : Host.Outcome State Fault Refusal := done (odBy w 0x2F02 3 [1] s.fresh)
/-- COMM_RESPONSE (R290). -/
def execCommResponse (w : Who) (sig : List Byte) (s : State) : Host.Outcome State Fault Refusal :=
  done (odBy w 0x2F02 2 sig s.fresh)
/-- SEAL (R291). -/
def execSeal (w : Who) (s : State) : Host.Outcome State Fault Refusal := done (odBy w 0x2F10 2 [1] s.fresh)
/-- REOPEN (R292). -/
def execReopen (w : Who) (s : State) : Host.Outcome State Fault Refusal := done (odBy w 0x2F10 2 [2] s.fresh)
/-- RAW_READ (R288). -/
def execRawRead (w : Who) (s : State) : Host.Outcome State Fault Refusal := done (odReadBy w 0x5F00 2 s.fresh)
/-- RAW_WRITE (R288). -/
def execRawWrite (w : Who) (val : Word) (s : State) : Host.Outcome State Fault Refusal :=
  finish (odBy w 0x5F00 2 (le32 val.toNat) s.fresh)
/-- SLOT_ENABLE_ALL (R298). -/
def execSlotEnableAll (w : Who) (val : Word) (s : State) : Host.Outcome State Fault Refusal :=
  done (odBy w 0x2061 1 (le32 val.toNat) s.fresh)

end Sys2Proof.Machine
end

