-- ==== Sys2Proof/Machine/ExecOdx.lean ====
section
/-!
DEFINITION. Remote dictionary access and gateways (R239 to R242).
-/

namespace Sys2Proof.Machine

open Sys2Proof

/-- ODX_REQUEST_RECEIVE (R240). -/
def execOdxRequestReceive (src : BitVec 12) (req : OdxMsg) (s : State) : Host.Outcome State Fault Refusal :=
  finish (odxRequest src req s.fresh)
/-- ODX_RESPONSE_RECEIVE (R242). -/
def execOdxResponseReceive (src : BitVec 12) (rsp : OdxMsg) (info : BindInfo)
    (s : State) : Host.Outcome State Fault Refusal :=
  done (odxResponse src rsp info s.fresh)
/-- GATEWAY_COMMAND (R242). -/
def execGatewayCommand (m : Fin 16) (cmd : Fin 3) (s : State) : Host.Outcome State Fault Refusal :=
  done (odBy { m := m, node := 0 } (0x4090 + m.val) 4 [BitVec.ofNat 8 cmd.val] s.fresh)
/-- GATEWAY_TIMEOUT (R242). -/
def execGatewayTimeout (m : Fin 16) (s : State) : Host.Outcome State Fault Refusal :=
  done (byEngine 0 (gateTimeout m) s.fresh)
/-- REMOTE_LEASE_REVOKE (R240). -/
def execRemoteLeaseRevoke (s : State) : Host.Outcome State Fault Refusal := done (remoteRevoke s.fresh)

end Sys2Proof.Machine
end

