-- ==== Sys2Proof/Machine/ExecPort.lean ====
section
/-!
DEFINITION. Happenings at the downstream ports (R26, R52, R54, R65, R75 to R78).
-/

namespace Sys2Proof.Machine

open Sys2Proof

/-- CC_ATTACH (R26). -/
def execCcAttach (cc2 : Bool) (rp : Fin 4) (s : State) : Host.Outcome State Fault Refusal := done (ccAttach cc2 rp s.fresh)
/-- CC_DETACH (R26). -/
def execCcDetach (s : State) : Host.Outcome State Fault Refusal := done (ccDetach s.fresh)
/-- SS_TERMINATION_DETECTED (R52). -/
def execSsTerminationDetected (p : Fin 24) (s : State) : Host.Outcome State Fault Refusal :=
  done (linkEvent (slotEntry p) .ssTerm s.fresh)
/-- POLLING_U0 (R52). -/
def execPollingU0 (p : Fin 24) (gen2 : Bool) (s : State) : Host.Outcome State Fault Refusal :=
  done (linkEvent (slotEntry p) (.u0 gen2) s.fresh)
/-- POLLING_FAIL (R52). -/
def execPollingFail (p : Fin 24) (s : State) : Host.Outcome State Fault Refusal :=
  done (linkEvent (slotEntry p) .pollFail s.fresh)
/-- USB2_CONNECT (R54). -/
def execUsb2Connect (p : Fin 24) (low : Bool) (s : State) : Host.Outcome State Fault Refusal :=
  done (linkEvent (slotEntry p) (.hsConn low) s.fresh)
/-- USB2_DISCONNECT (R52). -/
def execUsb2Disconnect (p : Fin 24) (s : State) : Host.Outcome State Fault Refusal :=
  done (linkEvent (slotEntry p) .hsDisc s.fresh)
/-- USB2_RESET_COMPLETE (R52). -/
def execUsb2ResetComplete (p : Fin 24) (se0 chirp : Bool) (s : State) : Host.Outcome State Fault Refusal :=
  done (exportResetDone p <| usb2ResetComplete p se0 chirp s.fresh)
/-- HOT_RESET_COMPLETE (R52). -/
def execHotResetComplete (p : Fin 24) (s : State) : Host.Outcome State Fault Refusal :=
  done (exportResetDone p <| hotResetComplete p s.fresh)
/-- HOT_RESET_TIMEOUT (R52). -/
def execHotResetTimeout (p : Fin 24) (s : State) : Host.Outcome State Fault Refusal := done (hotResetTimeout p s.fresh)
/-- WARM_RESET_COMPLETE (R52). -/
def execWarmResetComplete (p : Fin 24) (gen2 : Bool) (s : State) : Host.Outcome State Fault Refusal :=
  done (exportResetDone p <| warmResetComplete p gen2 s.fresh)
/-- WARM_RESET_TIMEOUT (R52). -/
def execWarmResetTimeout (p : Fin 24) (s : State) : Host.Outcome State Fault Refusal := done (warmResetTimeout p s.fresh)
/-- SS_TERMINATION_LOST (R52). -/
def execSsTerminationLost (p : Fin 24) (s : State) : Host.Outcome State Fault Refusal :=
  done (linkEvent (slotEntry p) .ssLost s.fresh)
/-- PORT_SUSPEND_ENTERED (R52). -/
def execPortSuspendEntered (e : Fin 40) (s : State) : Host.Outcome State Fault Refusal := done (suspendEntered e s.fresh)
/-- SS_INACTIVE (R52). -/
def execSsInactive (p : Fin 24) (s : State) : Host.Outcome State Fault Refusal :=
  done (linkEvent (slotEntry p) .inactive s.fresh)
/-- PORT_RESUME_COMPLETE (R52). -/
def execPortResumeComplete (e : Fin 40) (s : State) : Host.Outcome State Fault Refusal := done (resumeComplete e s.fresh)
/-- PORT_INACTIVITY_TIMEOUT (R65). -/
def execPortInactivityTimeout (p : Fin 24) (u2 : Bool) (s : State) : Host.Outcome State Fault Refusal :=
  done (inactivity p u2 s.fresh)
/-- DEVICE_LGO_U1_U2 (R82). -/
def execDeviceLgoU1U2 (p : Fin 24) (u2 : Bool) (s : State) : Host.Outcome State Fault Refusal :=
  done (deviceLgo p u2 s.fresh)
/-- BABBLE (R75). -/
def execBabble (p : Fin 24) (s : State) : Host.Outcome State Fault Refusal := done (babble p s.fresh)
/-- OVERRUN (R76). -/
def execOverrun (p : Fin 24) (s : State) : Host.Outcome State Fault Refusal := done (overrun p s.fresh)
/-- BABBLER_ACK (R78). -/
def execBabblerAck (w : Who) (p : Fin 24) (s : State) : Host.Outcome State Fault Refusal :=
  finish (regBy w (0x50024 + 0x400 * p.val) 1 s.fresh)
/-- CUTOFF_RECENT_EXPIRY (R77). -/
def execCutoffRecentExpiry (p : Fin 24) (s : State) : Host.Outcome State Fault Refusal := done (recentExpire p s.fresh)

end Sys2Proof.Machine
end

