-- ==== Sys2Proof/Machine/ExecPower.lean ====
section
/-!
DEFINITION. Power domains, patrols, the core voltage, clocks, profiles (R335 to R353, R406).
-/

namespace Sys2Proof.Machine

open Sys2Proof

/-- DOMAIN_ON (R335). -/
def execDomainOn (w : Who) (d : Fin 31) (s : State) : Host.Outcome State Fault Refusal := done (domainBy w d 0 s.fresh)
/-- DOMAIN_RETENTION (R337). -/
def execDomainRetention (w : Who) (d : Fin 31) (s : State) : Host.Outcome State Fault Refusal :=
  done (domainBy w d 1 s.fresh)
/-- DOMAIN_OFF (R337). -/
def execDomainOff (w : Who) (d : Fin 31) (s : State) : Host.Outcome State Fault Refusal := done (domainBy w d 2 s.fresh)
/-- DOMAIN_ENTRY_COMPLETE (R337). -/
def execDomainEntryComplete (d : Fin 31) (s : State) : Host.Outcome State Fault Refusal := done (entryComplete d s.fresh)
/-- DOMAIN_WAKE (R335). -/
def execDomainWake (d : Fin 31) (src : Fin 9) (s : State) : Host.Outcome State Fault Refusal :=
  done (domainWake d src s.fresh)
/-- DOMAIN_EXIT_COMPLETE (R339). -/
def execDomainExitComplete (d : Fin 31) (s : State) : Host.Outcome State Fault Refusal := done (exitComplete d s.fresh)
/-- PATROL (R342). -/
def execPatrol (unit : PatrolSample) (s : State) : Host.Outcome State Fault Refusal := done (patrol unit s.fresh)
/-- VOLTAGE_REQUEST (R345). -/
def execVoltageRequest (w : Who) (mv : BitVec 10) (s : State) : Host.Outcome State Fault Refusal :=
  done (voltBy w mv.toNat s.fresh)
/-- VOUT_POLL (R345). -/
def execVoutPoll (code : Half) (pg : Bool) (s : State) : Host.Outcome State Fault Refusal := done (voutPoll code pg s.fresh)
/-- VOLTAGE_REQUEST_TIMEOUT (R345). -/
def execVoltageRequestTimeout (statusWord : Half) (s : State) : Host.Outcome State Fault Refusal :=
  done (voltTimeout statusWord s.fresh)
/-- VCORE_LOSS (R346). -/
def execVcoreLoss (s : State) : Host.Outcome State Fault Refusal := done (vcoreLoss s.fresh)
/-- V1P8_LOSS (R406). -/
def execV1p8Loss (s : State) : Host.Outcome State Fault Refusal := done (v1p8Loss s.fresh)
/-- V3P3_LOSS (R353). -/
def execV3p3Loss (vbat : Bool) (s : State) : Host.Outcome State Fault Refusal := done (v3p3Loss vbat s.fresh)
/-- CLOCK_SELECT (R348). -/
def execClockSelect (w : Who) (pll : Bool) (s : State) : Host.Outcome State Fault Refusal := done (selBy w pll s.fresh)
/-- PLL_LOCK (R348). -/
def execPllLock (s : State) : Host.Outcome State Fault Refusal := done (pllLock s.fresh)
/-- PLL_LOCK_LOSS (R348). -/
def execPllLockLoss (s : State) : Host.Outcome State Fault Refusal := done (pllLockLoss s.fresh)
/-- STANDBY_WAKE (R350). -/
def execStandbyWake (src : Fin 9) (s : State) : Host.Outcome State Fault Refusal := done (domainWake 30 src s.fresh)
/-- PROFILE_RUN (R352). -/
def execProfileRun (w : Who) (s : State) : Host.Outcome State Fault Refusal := done (profileBy w 0 s.fresh)
/-- PROFILE_NIGHT (R352). -/
def execProfileNight (w : Who) (s : State) : Host.Outcome State Fault Refusal := done (profileBy w 1 s.fresh)
/-- PROFILE_STANDBY (R352). -/
def execProfileStandby (w : Who) (s : State) : Host.Outcome State Fault Refusal := done (profileBy w 2 s.fresh)

end Sys2Proof.Machine
end

