-- ==== Sys2Proof/Machine/ExecPrim.lean ====
section
/-!
DEFINITION. The bus primitives of the port engines (R176, R178, R190, R202, R217, R229).
-/

namespace Sys2Proof.Machine

open Sys2Proof

/-- LSTAT (R176). -/
def execLstat (a : At) (rd ra rb : Fin 16) (obj : Byte) (s : State) : Host.Outcome State Fault Refusal :=
  done (issue a (opLstat a rd ra rb obj) s.fresh)
/-- LSET (R176). -/
def execLset (a : At) (rd ra rb : Fin 16) (obj : Byte) (s : State) : Host.Outcome State Fault Refusal :=
  done (issue a (opLset a rd ra rb obj) s.fresh)
/-- PFSET (R176). -/
def execPfset (a : At) (rd ra rb : Fin 16) (obj : Byte) (s : State) : Host.Outcome State Fault Refusal :=
  done (issue a (opPfset a rd ra rb obj) s.fresh)
/-- PFCLR (R176). -/
def execPfclr (a : At) (rd ra rb : Fin 16) (obj : Byte) (s : State) : Host.Outcome State Fault Refusal :=
  done (issue a (opPfclr a rd ra rb obj) s.fresh)
/-- PRST (R176). -/
def execPrst (a : At) (rd ra rb : Fin 16) (obj : Byte) (s : State) : Host.Outcome State Fault Refusal :=
  done (issue a (opPrst a rd ra rb obj) s.fresh)
/-- PSIG (R176). -/
def execPsig (a : At) (rd ra rb : Fin 16) (obj : Byte) (s : State) : Host.Outcome State Fault Refusal :=
  done (issue a (opPsig a rd ra rb obj) s.fresh)
/-- TSET (R178). -/
def execTset (a : At) (rd ra rb : Fin 16) (obj : Byte) (s : State) : Host.Outcome State Fault Refusal :=
  done (issue a (opTset a rd ra rb obj) s.fresh)
/-- TSETP (R178). -/
def execTsetp (a : At) (rd ra rb : Fin 16) (obj : Byte) (s : State) : Host.Outcome State Fault Refusal :=
  done (issue a (opTsetp a rd ra rb obj) s.fresh)
/-- TSTOP (R178). -/
def execTstop (a : At) (rd ra rb : Fin 16) (obj : Byte) (s : State) : Host.Outcome State Fault Refusal :=
  done (issue a (opTstop a rd ra rb obj) s.fresh)
/-- TRD (R176). -/
def execTrd (a : At) (rd ra rb : Fin 16) (obj : Byte) (s : State) : Host.Outcome State Fault Refusal :=
  done (issue a (opTrd a rd ra rb obj) s.fresh)
/-- EVPOST (R176). -/
def execEvpost (a : At) (rd ra rb : Fin 16) (obj : Byte) (s : State) : Host.Outcome State Fault Refusal :=
  done (issue a (opEvpost a rd ra rb obj) s.fresh)
/-- EVRD (R176). -/
def execEvrd (a : At) (rd ra rb : Fin 16) (obj : Byte) (s : State) : Host.Outcome State Fault Refusal :=
  done (issue a (opEvrd a rd ra rb obj) s.fresh)
/-- WAITG (R149). -/
def execWaitg (a : At) (rd ra rb : Fin 16) (obj : Byte) (s : State) : Host.Outcome State Fault Refusal :=
  done (issue a (opWaitg a rd ra rb obj) s.fresh)
/-- FCRD (R176). -/
def execFcrd (a : At) (rd ra rb : Fin 16) (obj : Byte) (s : State) : Host.Outcome State Fault Refusal :=
  done (issue a (opFcrd a rd ra rb obj) s.fresh)
/-- ODRD (R176). -/
def execOdrd (a : At) (rd ra rb : Fin 16) (obj : Byte) (s : State) : Host.Outcome State Fault Refusal :=
  done (issue a (opOdrd a rd ra rb obj) s.fresh)
/-- ODWR (R176). -/
def execOdwr (a : At) (rd ra rb : Fin 16) (obj : Byte) (s : State) : Host.Outcome State Fault Refusal :=
  finish (issue a (opOdwr a rd ra rb obj) s.fresh)
/-- CRCB (R176). -/
def execCrcb (a : At) (rd ra rb : Fin 16) (obj : Byte) (s : State) : Host.Outcome State Fault Refusal :=
  done (issue a (opCrcb a rd ra rb obj) s.fresh)
/-- CRCW (R176). -/
def execCrcw (a : At) (rd ra rb : Fin 16) (obj : Byte) (s : State) : Host.Outcome State Fault Refusal :=
  done (issue a (opCrcw a rd ra rb obj) s.fresh)
/-- CRCM (R176). -/
def execCrcm (a : At) (rd ra rb : Fin 16) (obj : Byte) (s : State) : Host.Outcome State Fault Refusal :=
  finish (issue a (opCrcm a rd ra rb obj) s.fresh)
/-- TBRD (R176). -/
def execTbrd (a : At) (rd ra rb : Fin 16) (obj : Byte) (s : State) : Host.Outcome State Fault Refusal :=
  done (issue a (opTbrd a rd ra rb obj) s.fresh)
/-- TBRH (R176). -/
def execTbrh (a : At) (rd ra rb : Fin 16) (obj : Byte) (s : State) : Host.Outcome State Fault Refusal :=
  done (issue a (opTbrh a rd ra rb obj) s.fresh)
/-- TWAIT (R176). -/
def execTwait (a : At) (rd ra rb : Fin 16) (obj : Byte) (s : State) : Host.Outcome State Fault Refusal :=
  done (issue a (opTwait a rd ra rb obj) s.fresh)
/-- TKNUM (R176). -/
def execTknum (a : At) (rd ra rb : Fin 16) (obj : Byte) (s : State) : Host.Outcome State Fault Refusal :=
  done (issue a (opTknum a rd ra rb obj) s.fresh)
/-- FSEND (R217). -/
def execFsend (a : At) (rd ra rb : Fin 16) (obj : Byte) (s : State) : Host.Outcome State Fault Refusal :=
  finish (issue a (opFsend a rd ra rb obj) s.fresh)
/-- FROUTE (R229). -/
def execFroute (a : At) (rd ra rb : Fin 16) (obj : Byte) (s : State) : Host.Outcome State Fault Refusal :=
  done (issue a (opFroute a rd ra rb obj) s.fresh)
/-- SPON (R190). -/
def execSpon (a : At) (rd ra rb : Fin 16) (obj : Byte) (s : State) : Host.Outcome State Fault Refusal :=
  done (issue a (opSpon a rd ra rb obj) s.fresh)
/-- SPOFF (R176). -/
def execSpoff (a : At) (rd ra rb : Fin 16) (obj : Byte) (s : State) : Host.Outcome State Fault Refusal :=
  done (issue a (opSpoff a rd ra rb obj) s.fresh)
/-- SPFRC (R202). -/
def execSpfrc (a : At) (rd ra rb : Fin 16) (obj : Byte) (s : State) : Host.Outcome State Fault Refusal :=
  done (issue a (opSpfrc a rd ra rb obj) s.fresh)
/-- SPREL (R202). -/
def execSprel (a : At) (rd ra rb : Fin 16) (obj : Byte) (s : State) : Host.Outcome State Fault Refusal :=
  done (issue a (opSprel a rd ra rb obj) s.fresh)
/-- SPLIM (R203). -/
def execSplim (a : At) (rd ra rb : Fin 16) (obj : Byte) (s : State) : Host.Outcome State Fault Refusal :=
  done (issue a (opSplim a rd ra rb obj) s.fresh)
/-- SPST (R176). -/
def execSpst (a : At) (rd ra rb : Fin 16) (obj : Byte) (s : State) : Host.Outcome State Fault Refusal :=
  done (issue a (opSpst a rd ra rb obj) s.fresh)
/-- SPGRP (R199). -/
def execSpgrp (a : At) (rd ra rb : Fin 16) (obj : Byte) (s : State) : Host.Outcome State Fault Refusal :=
  done (issue a (opSpgrp a rd ra rb obj) s.fresh)
/-- PSEND (R176). -/
def execPsend (a : At) (rd ra rb : Fin 16) (obj : Byte) (s : State) : Host.Outcome State Fault Refusal :=
  finish (issue a (opPsend a rd ra rb obj) s.fresh)

end Sys2Proof.Machine
end

