-- ==== Sys2Proof/Machine/ExecQueue.lean ====
section
/-!
DEFINITION. Queue primitives of the engines and the packet store (R108 to R137).
-/

namespace Sys2Proof.Machine

open Sys2Proof

/-- ENQ (R128). -/
def execEnq (a : At) (rd ra rb : Fin 16) (obj : Byte) (s : State) : Host.Outcome State Fault Refusal :=
  done (issue a (opEnq a rd ra rb obj) s.fresh)
/-- ENQF (R426). -/
def execEnqf (a : At) (rd ra rb : Fin 16) (obj : Byte) (s : State) : Host.Outcome State Fault Refusal :=
  done (issue a (opEnqf a rd ra rb obj) s.fresh)
/-- ENQM (R426). -/
def execEnqm (a : At) (rd ra rb : Fin 16) (obj : Byte) (s : State) : Host.Outcome State Fault Refusal :=
  done (issue a (opEnqm a rd ra rb obj) s.fresh)
/-- ENQL (R426). -/
def execEnql (a : At) (rd ra rb : Fin 16) (obj : Byte) (s : State) : Host.Outcome State Fault Refusal :=
  done (issue a (opEnql a rd ra rb obj) s.fresh)
/-- DEQ (R176). -/
def execDeq (a : At) (rd ra rb : Fin 16) (obj : Byte) (s : State) : Host.Outcome State Fault Refusal :=
  finish (issue a (opDeq a rd ra rb obj) s.fresh)
/-- PEEK (R176). -/
def execPeek (a : At) (rd ra rb : Fin 16) (obj : Byte) (s : State) : Host.Outcome State Fault Refusal :=
  done (issue a (opPeek a rd ra rb obj) s.fresh)
/-- QSTAT (R176). -/
def execQstat (a : At) (rd ra rb : Fin 16) (obj : Byte) (s : State) : Host.Outcome State Fault Refusal :=
  done (issue a (opQstat a rd ra rb obj) s.fresh)
/-- FLUSH (R130). -/
def execFlush (by_ : QBy) (s : State) : Host.Outcome State Fault Refusal := finish (queueBy by_ 0 opFlush s.fresh)
/-- MARK (R131). -/
def execMark (by_ : QBy) (s : State) : Host.Outcome State Fault Refusal := finish (queueBy by_ 1 opMark s.fresh)
/-- UNMARK (R131). -/
def execUnmark (by_ : QBy) (s : State) : Host.Outcome State Fault Refusal := finish (queueBy by_ 2 opUnmark s.fresh)
/-- REWIND (R132). -/
def execRewind (by_ : QBy) (s : State) : Host.Outcome State Fault Refusal := finish (queueBy by_ 3 opRewind s.fresh)
/-- BANK_SWAP (R119). -/
def execBankSwap (q : Fin 64) (s : State) : Host.Outcome State Fault Refusal := done (swapIfDue q s.fresh)
/-- SCRUB_READ (R112). -/
def execScrubRead (b : Fin 16) (upset : BitVec 4) (s : State) : Host.Outcome State Fault Refusal :=
  done (scrubRead b upset s.fresh)
/-- WINDOW_READ (R111). -/
def execWindowRead (w : Who) (addr : Word) (s : State) : Host.Outcome State Fault Refusal :=
  done (readBy w addr.toNat s.fresh)
/-- WINDOW_WRITE (R111). -/
def execWindowWrite (w : Who) (addr val : Word) (s : State) : Host.Outcome State Fault Refusal :=
  finish (regBy w addr.toNat val s.fresh)
/-- WM_CROSS_WRITE (R137). -/
def execWmCrossWrite (w : Who) (q : Fin 64) (n : Half) (s : State) : Host.Outcome State Fault Refusal :=
  finish (regBy w (0x30024 + 0x40 * q.val) (n.setWidth 32) s.fresh)

end Sys2Proof.Machine
end

