-- ==== Sys2Proof/Machine/ExecReg.lean ====
section
/-!
DEFINITION. The register interface: keys, the configuration checksum, test controls, posted writes (R309 to R325).
-/

namespace Sys2Proof.Machine

open Sys2Proof

/-- REGISTER_WRITE (R309). -/
def execRegisterWrite (w : Who) (addr val : Word) (s : State) : Host.Outcome State Fault Refusal :=
  finish (regBy w addr.toNat val s.fresh)
/-- KEY_WRITE (R310). -/
def execKeyWrite (w : Who) (val : Word) (s : State) : Host.Outcome State Fault Refusal := done (regBy w 0x10 val s.fresh)
/-- KEY_UNLOCK_LAPSE (R310). -/
def execKeyUnlockLapse (m : Fin 16) (s : State) : Host.Outcome State Fault Refusal := done (unlockUse m s.fresh)
/-- HELD_KEY_LAPSE (R311). -/
def execHeldKeyLapse (m : Fin 6) (s : State) : Host.Outcome State Fault Refusal := done (heldKeyLapse m s.fresh)
/-- KEY_LOCK_END (R312). -/
def execKeyLockEnd (s : State) : Host.Outcome State Fault Refusal := done (keyLockEnd s.fresh)
/-- CRC_PASS_COMPLETE (R322). -/
def execCrcPassComplete (s : State) : Host.Outcome State Fault Refusal := done (crcPassComplete s.fresh)
/-- CRC_STALE (R321). -/
def execCrcStale (s : State) : Host.Outcome State Fault Refusal := done (crcStale s.fresh)
/-- ADOPT (R323). -/
def execAdopt (w : Who) (s : State) : Host.Outcome State Fault Refusal := done (regBy w 0x108 1 s.fresh)
/-- ADOPT_CANCEL (R323). -/
def execAdoptCancel (w : Who) (s : State) : Host.Outcome State Fault Refusal := done (regBy w 0x108 0 s.fresh)
/-- TEST_CONTROL_WRITE (R324). -/
def execTestControlWrite (w : Who) (addr val : Word) (s : State) : Host.Outcome State Fault Refusal :=
  finish (regBy w addr.toNat val s.fresh)
/-- AO_POSTED_WRITE (R325). -/
def execAoPostedWrite (w : Who) (addr val : Word) (s : State) : Host.Outcome State Fault Refusal :=
  finish (regBy w addr.toNat val s.fresh)
/-- AO_WRITE_TAKEN (R325). -/
def execAoWriteTaken (s : State) : Host.Outcome State Fault Refusal := done (aoWriteTaken s.fresh)

end Sys2Proof.Machine
end

