-- ==== Sys2Proof/Machine/ExecSlot.lean ====
section
/-!
DEFINITION. Slot power: seating, ramps, trips, faults, groups, the input (R188 to R205).
-/

namespace Sys2Proof.Machine

open Sys2Proof

/-- PIN_SEATED (R188). -/
def execPinSeated (p : Fin 24) (pinB : Bool) (s : State) : Host.Outcome State Fault Refusal :=
  done (seated p (pinSeated p pinB) s.fresh)
/-- SEATING_LOST (R189). -/
def execSeatingLost (p : Fin 24) (lostA lostB : Bool) (s : State) : Host.Outcome State Fault Refusal :=
  done (seated p (seatingLost p lostA lostB) s.fresh)
/-- WITHDRAWAL (R201). -/
def execWithdrawal (p : Fin 24) (s : State) : Host.Outcome State Fault Refusal := done (seated p (withdrawal p) s.fresh)
/-- SKEW_TIMEOUT (R188). -/
def execSkewTimeout (p : Fin 24) (s : State) : Host.Outcome State Fault Refusal := done (skewTimeout p s.fresh)
/-- SLOT_RAMP_START (R190). -/
def execSlotRampStart (s : State) : Host.Outcome State Fault Refusal := done (slotRampStart s.fresh)
/-- GATE_RISE_FAIL (R197). -/
def execGateRiseFail (p : Fin 24) (s : State) : Host.Outcome State Fault Refusal := done (gateRiseFail p s.fresh)
/-- RAMP_TIMEOUT (R195). -/
def execRampTimeout (p : Fin 24) (s : State) : Host.Outcome State Fault Refusal := done (rampTimeout p s.fresh)
/-- RAMP_COMPLETE (R192). -/
def execRampComplete (p : Fin 24) (s : State) : Host.Outcome State Fault Refusal := done (rampComplete p s.fresh)
/-- RAMP_LONG (R188). -/
def execRampLong (p : Fin 24) (s : State) : Host.Outcome State Fault Refusal := done (rampLong p s.fresh)
/-- FAST_TRIP (R194). -/
def execFastTrip (p : Fin 24) (s : State) : Host.Outcome State Fault Refusal := done (fastTrip p s.fresh)
/-- MODEL_UPDATE (R196). -/
def execModelUpdate (p : Fin 24) (vds iout : Half) (vout : BitVec 13) (tsense : BitVec 11)
    (s : State) : Host.Outcome State Fault Refusal :=
  done (modelUpdate p vds iout vout tsense s.fresh)
/-- FOLDBACK_ENTRY (R193). -/
def execFoldbackEntry (p : Fin 24) (s : State) : Host.Outcome State Fault Refusal := done (foldbackEntry p s.fresh)
/-- FOLDBACK_EXIT (R193). -/
def execFoldbackExit (p : Fin 24) (s : State) : Host.Outcome State Fault Refusal := done (foldbackExit p s.fresh)
/-- OVERCURRENT (R193). -/
def execOvercurrent (p : Fin 24) (s : State) : Host.Outcome State Fault Refusal := done (overcurrent p s.fresh)
/-- GATE_FAULT (R197). -/
def execGateFault (p : Fin 24) (s : State) : Host.Outcome State Fault Refusal := done (gateFault p s.fresh)
/-- GROUP_GATE_FAULT (R197). -/
def execGroupGateFault (g : Fin 4) (s : State) : Host.Outcome State Fault Refusal := done (groupGateFault g s.fresh)
/-- RETRIES_RESET (R188). -/
def execRetriesReset (p : Fin 24) (s : State) : Host.Outcome State Fault Refusal := done (retriesReset p s.fresh)
/-- TRIP_HANDLING (R188). -/
def execTripHandling (p : Fin 24) (s : State) : Host.Outcome State Fault Refusal := done (tripHandling p s.fresh)
/-- BACKOFF_EXPIRED (R200). -/
def execBackoffExpired (p : Fin 24) (s : State) : Host.Outcome State Fault Refusal := done (backoffExpired p s.fresh)
/-- LOCKOUT_CLEAR (R201). -/
def execLockoutClear (w : Who) (p : Fin 24) (s : State) : Host.Outcome State Fault Refusal :=
  done (carried w (fun t => (0, [], lockoutClear w.m.val p t)) s.fresh)
/-- FET_FAULT_CLEAR (R199). -/
def execFetFaultClear (w : Who) (p : Fin 24) (s : State) : Host.Outcome State Fault Refusal :=
  done (commBy w (fetClear w.m.val p) s.fresh)
/-- SLOT_CMD_FRC (R202). -/
def execSlotCmdFrc (w : Who) (p : Fin 24) (s : State) : Host.Outcome State Fault Refusal :=
  finish (regBy w (0x80030 + 0x100 * p.val) 4 s.fresh)
/-- SLOT_CMD_REL (R202). -/
def execSlotCmdRel (w : Who) (p : Fin 24) (s : State) : Host.Outcome State Fault Refusal :=
  finish (regBy w (0x80030 + 0x100 * p.val) 8 s.fresh)
/-- SHORTED_FET (R198). -/
def execShortedFet (p : Fin 24) (s : State) : Host.Outcome State Fault Refusal := done (shortedFet p s.fresh)
/-- INPUT_WARNING (R204). -/
def execInputWarning (vin : VinSample) (slope : Bool) (s : State) : Host.Outcome State Fault Refusal :=
  done (inputWarning vin slope s.fresh)
/-- INPUT_WARNING_CLEAR (R204). -/
def execInputWarningClear (vin : VinSample) (s : State) : Host.Outcome State Fault Refusal :=
  done (inputWarningClear vin s.fresh)
/-- INPUT_UNDERVOLTAGE (R205). -/
def execInputUndervoltage (vin : VinSample) (s : State) : Host.Outcome State Fault Refusal :=
  done (inputUndervoltage vin s.fresh)
/-- GROUP_OPEN (R197). -/
def execGroupOpen (w : Who) (g : Fin 4) (s : State) : Host.Outcome State Fault Refusal :=
  finish (regBy w (0x83004 + 0x40 * g.val) 1 s.fresh)
/-- GROUP_CLOSE (R199). -/
def execGroupClose (g : Fin 4) (s : State) : Host.Outcome State Fault Refusal := done (groupClosed g <| groupClose g s.fresh)
/-- LIMIT_WRITE (R203). -/
def execLimitWrite (w : Who) (p : Fin 24) (limit : BitVec 6) (s : State) : Host.Outcome State Fault Refusal :=
  finish (regBy w (0x80004 + 0x100 * p.val) (limit.setWidth 32) s.fresh)

end Sys2Proof.Machine
end

