-- ==== Sys2Proof/Machine/ExecStart.lean ====
section
/-!
DEFINITION. Resets and the start sequence (R376 to R386).
-/

namespace Sys2Proof.Machine

open Sys2Proof

/-- POWER_ON_RESET (R376). -/
def execPowerOnReset (aoLost : Bool) (strap : BitVec 4) (s : State) : Host.Outcome State Fault Refusal :=
  done (powerOn aoLost strap s.fresh)
/-- VCORE_PG_RISE (R376). -/
def execVcorePgRise (s : State) : Host.Outcome State Fault Refusal := done (vcorePg s.fresh)
/-- VCORE_EN_RETRY (R377). -/
def execVcoreEnRetry (s : State) : Host.Outcome State Fault Refusal := done (vcoreRetry s.fresh)
/-- CORE_RELEASE (R376). -/
def execCoreRelease (go : StartIn) (s : State) : Host.Outcome State Fault Refusal := done (coreRelease go s.fresh)
/-- RUN_POINT_RETRY (R380). -/
def execRunPointRetry (s : State) : Host.Outcome State Fault Refusal := done (runPointRetry s.fresh)
/-- MODULE_RESET_COMMAND (R384). -/
def execModuleResetCommand (w : Who) (s : State) : Host.Outcome State Fault Refusal := done (odBy w 0x2002 1 [1] s.fresh)
/-- CORE_RESET_COMMAND (R384). -/
def execCoreResetCommand (w : Who) (s : State) : Host.Outcome State Fault Refusal := done (odBy w 0x2002 1 [2] s.fresh)
/-- MODULE_RESET (R384). -/
def execModuleReset (strap : BitVec 4) (s : State) : Host.Outcome State Fault Refusal := done (moduleReset strap s.fresh)
/-- CORE_RESET (R384). -/
def execCoreReset (s : State) : Host.Outcome State Fault Refusal := done (coreResetNow s.fresh)

end Sys2Proof.Machine
end

