-- ==== Sys2Proof/Machine/ExecTime.lean ====
section
/-!
DEFINITION. The device tick, TB, applies (R14 to R19, R236, R317).
-/

namespace Sys2Proof.Machine

open Sys2Proof

/-- TICK_BOUNDARY (R14). -/
def execTickBoundary (s : State) : Host.Outcome State Fault Refusal := done (tickBoundary s.fresh)
/-- TB_STEP (R19). -/
def execTbStep (s : State) : Host.Outcome State Fault Refusal := done (tbStep s.fresh)
/-- TIMEREF_OUT_PULSE (R236). -/
def execTimerefOutPulse (s : State) : Host.Outcome State Fault Refusal := done (timerefOut s.fresh)
/-- APPLY (R317). -/
def execApply (w : Who) (mask : BitVec 16) (s : State) : Host.Outcome State Fault Refusal :=
  finish (regBy w 0x20 (mask.setWidth 32) s.fresh)
/-- APPLY_TICK_ARM (R317). -/
def execApplyTickArm (w : Who) (mask : BitVec 16) (s : State) : Host.Outcome State Fault Refusal :=
  finish (regBy w 0x24 (mask.setWidth 32) s.fresh)
/-- APPLY_TICK_DISARM (R317). -/
def execApplyTickDisarm (w : Who) (mask : BitVec 16) (s : State) : Host.Outcome State Fault Refusal :=
  finish (regBy w 0x24 (mask.setWidth 32 <<< 16) s.fresh)

end Sys2Proof.Machine
end

