-- ==== Sys2Proof/Machine/ExecUp.lean ====
section
/-!
DEFINITION. Happenings at the upstreams: link power, suspend, wakes, resets, loss (R65 to R73, R79, R382).
-/

namespace Sys2Proof.Machine

open Sys2Proof

/-- VBUS_RISE (R382). -/
def execVbusRise (u : Fin 3) (s : State) : Host.Outcome State Fault Refusal := done (vbusRise u s.fresh)
/-- VBUS_FALL (R79). -/
def execVbusFall (u : Fin 3) (s : State) : Host.Outcome State Fault Refusal := done (vbusFall u s.fresh)
/-- LGO_U1_U2 (R65). -/
def execLgoU1U2 (u : Fin 3) (u2 : Bool) (s : State) : Host.Outcome State Fault Refusal := done (lgoU12 u u2 s.fresh)
/-- LGO_U3 (R72). -/
def execLgoU3 (u : Fin 3) (s : State) : Host.Outcome State Fault Refusal := done (lgoU3 u s.fresh)
/-- UPSTREAM_U3_ENTRY (R65). -/
def execUpstreamU3Entry (u : Fin 3) (s : State) : Host.Outcome State Fault Refusal := done (u3Entry u s.fresh)
/-- UPSTREAM_L2_IDLE (R65). -/
def execUpstreamL2Idle (u : Fin 3) (s : State) : Host.Outcome State Fault Refusal := done (l2Idle u s.fresh)
/-- LPM_TRANSACTION (R65). -/
def execLpmTransaction (target : LpmTarget) (s : State) : Host.Outcome State Fault Refusal := done (lpm target s.fresh)
/-- DEVICE_WAKE (R67). -/
def execDeviceWake (wake : WakeSrc) (s : State) : Host.Outcome State Fault Refusal := done (wakeFrom wake s.fresh)
/-- HOST_RESUME (R69). -/
def execHostResume (u : Fin 3) (hs : Bool) (s : State) : Host.Outcome State Fault Refusal := done (hostResume u hs s.fresh)
/-- WAKE_REPLAY (R72). -/
def execWakeReplay (u : Fin 3) (hs : Bool) (s : State) : Host.Outcome State Fault Refusal := done (wakeReplay u hs s.fresh)
/-- UPSTREAM_USB2_RESET (R73). -/
def execUpstreamUsb2Reset (u : Fin 3) (hi mid : Bool) (s : State) : Host.Outcome State Fault Refusal :=
  done (upUsb2Reset u hi mid s.fresh)
/-- UPSTREAM_HOT_RESET (R73). -/
def execUpstreamHotReset (u : Fin 3) (s : State) : Host.Outcome State Fault Refusal := done (upSsReset u s.fresh)
/-- UPSTREAM_WARM_RESET (R73). -/
def execUpstreamWarmReset (u : Fin 3) (s : State) : Host.Outcome State Fault Refusal := done (upSsReset u s.fresh)
/-- UPSTREAM_LINK_LOSS (R79). -/
def execUpstreamLinkLoss (u : Fin 3) (l : LossLink) (mid : Bool) (s : State) : Host.Outcome State Fault Refusal :=
  done (upLinkLoss u l mid s.fresh)
/-- UPSTREAM_PRESENT (R81). -/
def execUpstreamPresent (u : Fin 3) (ss : Bool) (s : State) : Host.Outcome State Fault Refusal :=
  done (upPresent u ss s.fresh)

end Sys2Proof.Machine
end

