-- ==== Sys2Proof/Machine/ExecXbar.lean ====
section
/-!
DEFINITION. The forwarding core and the arbiter (R92 to R106, R144 to R154).
-/

namespace Sys2Proof.Machine

open Sys2Proof

/-- PACKET_INGRESS (R92). -/
def execPacketIngress (x : Fin 33) (pkt : Packet) (s : State) : Host.Outcome State Fault Refusal :=
  done (byCore (packetIngress x pkt) s.fresh)
/-- LOCKSTEP_MISMATCH (R101). -/
def execLockstepMismatch (g : Fin 35) (s : State) : Host.Outcome State Fault Refusal :=
  done (byCore (lockstepMismatch g false) s.fresh)
/-- HALT_DRAIN_COMPLETE (R102). -/
def execHaltDrainComplete (ok : Bool) (s : State) : Host.Outcome State Fault Refusal := done (byCore (haltDrain ok) s.fresh)
/-- REBUILD_COMPLETE (R102). -/
def execRebuildComplete (s : State) : Host.Outcome State Fault Refusal := done (byCore rebuildDone s.fresh)
/-- LS_INJECT (R102). -/
def execLsInject (w : Who) (g : Fin 64) (s : State) : Host.Outcome State Fault Refusal :=
  finish (regBy w 0x40018 (toWord (0x40 + g.val)) s.fresh)
/-- EGRESS_STALL (R106). -/
def execEgressStall (x : Fin 33) (s : State) : Host.Outcome State Fault Refusal := done (egressStall x s.fresh)
/-- CUT_THROUGH_WAIT_EXPIRED (R124). -/
def execCutThroughWaitExpired (x : Fin 33) (s : State) : Host.Outcome State Fault Refusal := done (cutWaitExpired x s.fresh)
/-- PAYLOAD_COMPLETE (R123). -/
def execPayloadComplete (x : Fin 33) (q : Fin 64) (rest : List Byte) (poison crcBad abort : Bool)
    (s : State) : Host.Outcome State Fault Refusal :=
  done (payloadComplete x q rest poison crcBad abort s.fresh)
/-- PACKET_TRANSMITTED (R145). -/
def execPacketTransmitted (x : Fin 33) (s : State) : Host.Outcome State Fault Refusal := done (packetTransmitted x s.fresh)
/-- LOCKSTEP_RECENT_EXPIRY (R102). -/
def execLockstepRecentExpiry (s : State) : Host.Outcome State Fault Refusal := done (lockstepRecentExpiry s.fresh)
/-- POINT_DECISION (R144). -/
def execPointDecision (pt : Fin 49) (raised : List (Fin 48)) (dc : Nat) (s : State) : Host.Outcome State Fault Refusal :=
  done (pointDecision pt raised dc s.fresh)
/-- ARB_WAIT_WARN (R153). -/
def execArbWaitWarn (pt : Fin 49) (r : Fin 48) (s : State) : Host.Outcome State Fault Refusal :=
  done (arbWaitWarn pt r s.fresh)
/-- MAXWAIT_RESET (R154). -/
def execMaxwaitReset (w : Who) (pt : Fin 49) (s : State) : Host.Outcome State Fault Refusal :=
  finish (maxWaitBy w pt s.fresh)
/-- WAITG_WAKE (R149). -/
def execWaitgWake (pe : Fin 8) (s : State) : Host.Outcome State Fault Refusal := done (wakeGated pe s.fresh)

end Sys2Proof.Machine
end

