-- ==== Sys2Proof/Machine/Dispatch.lean ====
section
/-!
DEFINITION. The dispatch: one arm for each command of the operation table.
-/

namespace Sys2Proof.Machine

open Sys2Proof

/-- The effect of a command on everything but the queue of waiting commands. -/
def exec (i : Instr) (s : State) : Host.Outcome State Fault Refusal :=
  match i with
  | .tickBoundary => Sys2Proof.Machine.execTickBoundary s
  | .tbStep => Sys2Proof.Machine.execTbStep s
  | .timerefOutPulse => Sys2Proof.Machine.execTimerefOutPulse s
  | .apply w mask => Sys2Proof.Machine.execApply w mask s
  | .applyTickArm w mask => Sys2Proof.Machine.execApplyTickArm w mask s
  | .applyTickDisarm w mask => Sys2Proof.Machine.execApplyTickDisarm w mask s
  | .ccAttach cc2 rp => Sys2Proof.Machine.execCcAttach cc2 rp s
  | .vbusRise u => Sys2Proof.Machine.execVbusRise u s
  | .vbusFall u => Sys2Proof.Machine.execVbusFall u s
  | .setConfiguration fn on => Sys2Proof.Machine.execSetConfiguration fn on s
  | .getHubStatus lh hs => Sys2Proof.Machine.execGetHubStatus lh hs s
  | .getPortStatus lh hs n ext => Sys2Proof.Machine.execGetPortStatus lh hs n ext s
  | .clearHubFeature lh hs ovc => Sys2Proof.Machine.execClearHubFeature lh hs ovc s
  | .setPortPower lh hs n => Sys2Proof.Machine.execSetPortPower lh hs n s
  | .clearPortPower lh hs n => Sys2Proof.Machine.execClearPortPower lh hs n s
  | .setPortReset lh hs n => Sys2Proof.Machine.execSetPortReset lh hs n s
  | .setBhPortReset lh n => Sys2Proof.Machine.execSetBhPortReset lh n s
  | .setPortLinkState lh n ls => Sys2Proof.Machine.execSetPortLinkState lh n ls s
  | .setPortU1Timeout lh n t => Sys2Proof.Machine.execSetPortU1Timeout lh n t s
  | .setPortU2Timeout lh n t => Sys2Proof.Machine.execSetPortU2Timeout lh n t s
  | .setPortRemoteWakeMask lh n mask => Sys2Proof.Machine.execSetPortRemoteWakeMask lh n mask s
  | .setForceLinkpmAccept lh n on => Sys2Proof.Machine.execSetForceLinkpmAccept lh n on s
  | .setPortSuspend lh n => Sys2Proof.Machine.execSetPortSuspend lh n s
  | .setPortTest lh n mode => Sys2Proof.Machine.execSetPortTest lh n mode s
  | .clearPortEnable lh n => Sys2Proof.Machine.execClearPortEnable lh n s
  | .clearPortSuspend lh n => Sys2Proof.Machine.execClearPortSuspend lh n s
  | .clearPortChange lh hs n bit => Sys2Proof.Machine.execClearPortChange lh hs n bit s
  | .setU1U2Enable lh u2 on => Sys2Proof.Machine.execSetU1U2Enable lh u2 on s
  | .getHubDescriptor lh hs => Sys2Proof.Machine.execGetHubDescriptor lh hs s
  | .setHubDepth lh depth => Sys2Proof.Machine.execSetHubDepth lh depth s
  | .getPortErrCount lh n => Sys2Proof.Machine.execGetPortErrCount lh n s
  | .clearTtBuffer lh n buf => Sys2Proof.Machine.execClearTtBuffer lh n buf s
  | .resetTt lh n => Sys2Proof.Machine.execResetTt lh n s
  | .getTtState lh n => Sys2Proof.Machine.execGetTtState lh n s
  | .stopTt lh n => Sys2Proof.Machine.execStopTt lh n s
  | .setDescriptor lh hs => Sys2Proof.Machine.execSetDescriptor lh hs s
  | .statusChangePoll lh hs => Sys2Proof.Machine.execStatusChangePoll lh hs s
  | .getInfo u => Sys2Proof.Machine.execGetInfo u s
  | .getStatusCode u => Sys2Proof.Machine.execGetStatusCode u s
  | .odRead u idx sub len => Sys2Proof.Machine.execOdRead u idx sub len s
  | .odWrite u idx sub data => Sys2Proof.Machine.execOdWrite u idx sub data s
  | .regRead u addr len => Sys2Proof.Machine.execRegRead u addr len s
  | .regWrite u addr val => Sys2Proof.Machine.execRegWrite u addr val s
  | .leaseAcquire w => Sys2Proof.Machine.execLeaseAcquire w s
  | .leaseRenew w => Sys2Proof.Machine.execLeaseRenew w s
  | .leaseRelease w => Sys2Proof.Machine.execLeaseRelease w s
  | .leaseExpired => Sys2Proof.Machine.execLeaseExpired s
  | .eventAck w n count => Sys2Proof.Machine.execEventAck w n count s
  | .imageBegin m slot => Sys2Proof.Machine.execImageBegin m slot s
  | .imageData m block data => Sys2Proof.Machine.execImageData m block data s
  | .imageEndVerify m => Sys2Proof.Machine.execImageEndVerify m s
  | .imageAbort m => Sys2Proof.Machine.execImageAbort m s
  | .dictMsgRead u tag idx sub => Sys2Proof.Machine.execDictMsgRead u tag idx sub s
  | .dictMsgWrite u tag idx sub data => Sys2Proof.Machine.execDictMsgWrite u tag idx sub data s
  | .ssTerminationDetected p => Sys2Proof.Machine.execSsTerminationDetected p s
  | .pollingU0 p gen2 => Sys2Proof.Machine.execPollingU0 p gen2 s
  | .pollingFail p => Sys2Proof.Machine.execPollingFail p s
  | .usb2Connect p low => Sys2Proof.Machine.execUsb2Connect p low s
  | .usb2Disconnect p => Sys2Proof.Machine.execUsb2Disconnect p s
  | .usb2ResetComplete p se0 chirp => Sys2Proof.Machine.execUsb2ResetComplete p se0 chirp s
  | .hotResetComplete p => Sys2Proof.Machine.execHotResetComplete p s
  | .hotResetTimeout p => Sys2Proof.Machine.execHotResetTimeout p s
  | .warmResetComplete p gen2 => Sys2Proof.Machine.execWarmResetComplete p gen2 s
  | .warmResetTimeout p => Sys2Proof.Machine.execWarmResetTimeout p s
  | .ssTerminationLost p => Sys2Proof.Machine.execSsTerminationLost p s
  | .portSuspendEntered e => Sys2Proof.Machine.execPortSuspendEntered e s
  | .ssInactive p => Sys2Proof.Machine.execSsInactive p s
  | .portResumeComplete e => Sys2Proof.Machine.execPortResumeComplete e s
  | .lgoU1U2 u u2 => Sys2Proof.Machine.execLgoU1U2 u u2 s
  | .lgoU3 u => Sys2Proof.Machine.execLgoU3 u s
  | .upstreamU3Entry u => Sys2Proof.Machine.execUpstreamU3Entry u s
  | .upstreamL2Idle u => Sys2Proof.Machine.execUpstreamL2Idle u s
  | .lpmTransaction target => Sys2Proof.Machine.execLpmTransaction target s
  | .deviceWake wake => Sys2Proof.Machine.execDeviceWake wake s
  | .hostResume u hs => Sys2Proof.Machine.execHostResume u hs s
  | .wakeReplay u hs => Sys2Proof.Machine.execWakeReplay u hs s
  | .upstreamUsb2Reset u hi mid => Sys2Proof.Machine.execUpstreamUsb2Reset u hi mid s
  | .upstreamHotReset u => Sys2Proof.Machine.execUpstreamHotReset u s
  | .upstreamWarmReset u => Sys2Proof.Machine.execUpstreamWarmReset u s
  | .upstreamLinkLoss u l mid => Sys2Proof.Machine.execUpstreamLinkLoss u l mid s
  | .upstreamPresent u ss => Sys2Proof.Machine.execUpstreamPresent u ss s
  | .babble p => Sys2Proof.Machine.execBabble p s
  | .overrun p => Sys2Proof.Machine.execOverrun p s
  | .babblerAck w p => Sys2Proof.Machine.execBabblerAck w p s
  | .failHoldExpired x => Sys2Proof.Machine.execFailHoldExpired x s
  | .alternatePresent x => Sys2Proof.Machine.execAlternatePresent x s
  | .startWaitExpired x => Sys2Proof.Machine.execStartWaitExpired x s
  | .handover x => Sys2Proof.Machine.execHandover x s
  | .failback x => Sys2Proof.Machine.execFailback x s
  | .reattach x => Sys2Proof.Machine.execReattach x s
  | .heldRelease p => Sys2Proof.Machine.execHeldRelease p s
  | .bridgeTimeout p => Sys2Proof.Machine.execBridgeTimeout p s
  | .packetIngress x pkt => Sys2Proof.Machine.execPacketIngress x pkt s
  | .lockstepMismatch g => Sys2Proof.Machine.execLockstepMismatch g s
  | .haltDrainComplete ok => Sys2Proof.Machine.execHaltDrainComplete ok s
  | .rebuildComplete => Sys2Proof.Machine.execRebuildComplete s
  | .lsInject w g => Sys2Proof.Machine.execLsInject w g s
  | .egressStall x => Sys2Proof.Machine.execEgressStall x s
  | .enq a rd ra rb obj => Sys2Proof.Machine.execEnq a rd ra rb obj s
  | .enqf a rd ra rb obj => Sys2Proof.Machine.execEnqf a rd ra rb obj s
  | .enqm a rd ra rb obj => Sys2Proof.Machine.execEnqm a rd ra rb obj s
  | .enql a rd ra rb obj => Sys2Proof.Machine.execEnql a rd ra rb obj s
  | .deq a rd ra rb obj => Sys2Proof.Machine.execDeq a rd ra rb obj s
  | .peek a rd ra rb obj => Sys2Proof.Machine.execPeek a rd ra rb obj s
  | .qstat a rd ra rb obj => Sys2Proof.Machine.execQstat a rd ra rb obj s
  | .flush by_ => Sys2Proof.Machine.execFlush by_ s
  | .mark by_ => Sys2Proof.Machine.execMark by_ s
  | .unmark by_ => Sys2Proof.Machine.execUnmark by_ s
  | .rewind by_ => Sys2Proof.Machine.execRewind by_ s
  | .bankSwap q => Sys2Proof.Machine.execBankSwap q s
  | .cutThroughWaitExpired x => Sys2Proof.Machine.execCutThroughWaitExpired x s
  | .scrubRead b upset => Sys2Proof.Machine.execScrubRead b upset s
  | .windowRead w addr => Sys2Proof.Machine.execWindowRead w addr s
  | .windowWrite w addr val => Sys2Proof.Machine.execWindowWrite w addr val s
  | .wmCrossWrite w q n => Sys2Proof.Machine.execWmCrossWrite w q n s
  | .pointDecision pt raised dc => Sys2Proof.Machine.execPointDecision pt raised dc s
  | .arbWaitWarn pt r => Sys2Proof.Machine.execArbWaitWarn pt r s
  | .maxwaitReset w pt => Sys2Proof.Machine.execMaxwaitReset w pt s
  | .waitg a rd ra rb obj => Sys2Proof.Machine.execWaitg a rd ra rb obj s
  | .waitgWake pe => Sys2Proof.Machine.execWaitgWake pe s
  | .fcrd a rd ra rb obj => Sys2Proof.Machine.execFcrd a rd ra rb obj s
  | .engineRunStart pe => Sys2Proof.Machine.execEngineRunStart pe s
  | .tickOverrun pe => Sys2Proof.Machine.execTickOverrun pe s
  | .watchdogExpiry pe => Sys2Proof.Machine.execWatchdogExpiry pe s
  | .iramCheckComplete pe => Sys2Proof.Machine.execIramCheckComplete pe s
  | .engineReloadComplete pe => Sys2Proof.Machine.execEngineReloadComplete pe s
  | .portHoldExpired pe => Sys2Proof.Machine.execPortHoldExpired pe s
  | .timerExpiry t => Sys2Proof.Machine.execTimerExpiry t s
  | .holdSet w pe => Sys2Proof.Machine.execHoldSet w pe s
  | .holdClear w pe => Sys2Proof.Machine.execHoldClear w pe s
  | .engineRst w pe od => Sys2Proof.Machine.execEngineRst w pe od s
  | .add a rd ra rb => Sys2Proof.Machine.execAdd a rd ra rb s
  | .sub a rd ra rb => Sys2Proof.Machine.execSub a rd ra rb s
  | .and_ a rd ra rb => Sys2Proof.Machine.execAnd a rd ra rb s
  | .or_ a rd ra rb => Sys2Proof.Machine.execOr a rd ra rb s
  | .xor_ a rd ra rb => Sys2Proof.Machine.execXor a rd ra rb s
  | .sll a rd ra rb => Sys2Proof.Machine.execSll a rd ra rb s
  | .srl a rd ra rb => Sys2Proof.Machine.execSrl a rd ra rb s
  | .sra a rd ra rb => Sys2Proof.Machine.execSra a rd ra rb s
  | .slt a rd ra rb => Sys2Proof.Machine.execSlt a rd ra rb s
  | .sltu a rd ra rb => Sys2Proof.Machine.execSltu a rd ra rb s
  | .mul a rd ra rb => Sys2Proof.Machine.execMul a rd ra rb s
  | .mulhu a rd ra rb => Sys2Proof.Machine.execMulhu a rd ra rb s
  | .addi a rd ra imm => Sys2Proof.Machine.execAddi a rd ra imm s
  | .andi a rd ra imm => Sys2Proof.Machine.execAndi a rd ra imm s
  | .ori a rd ra imm => Sys2Proof.Machine.execOri a rd ra imm s
  | .xori a rd ra imm => Sys2Proof.Machine.execXori a rd ra imm s
  | .slli a rd ra imm => Sys2Proof.Machine.execSlli a rd ra imm s
  | .srli a rd ra imm => Sys2Proof.Machine.execSrli a rd ra imm s
  | .srai a rd ra imm => Sys2Proof.Machine.execSrai a rd ra imm s
  | .slti a rd ra imm => Sys2Proof.Machine.execSlti a rd ra imm s
  | .himm a rd ra imm => Sys2Proof.Machine.execHimm a rd ra imm s
  | .lw a rd ra imm => Sys2Proof.Machine.execLw a rd ra imm s
  | .lh a rd ra imm => Sys2Proof.Machine.execLh a rd ra imm s
  | .lhu a rd ra imm => Sys2Proof.Machine.execLhu a rd ra imm s
  | .lb a rd ra imm => Sys2Proof.Machine.execLb a rd ra imm s
  | .lbu a rd ra imm => Sys2Proof.Machine.execLbu a rd ra imm s
  | .sw a rd ra imm => Sys2Proof.Machine.execSw a rd ra imm s
  | .sh a rd ra imm => Sys2Proof.Machine.execSh a rd ra imm s
  | .sb a rd ra imm => Sys2Proof.Machine.execSb a rd ra imm s
  | .swap a rd ra rb => Sys2Proof.Machine.execSwap a rd ra rb s
  | .fadd a rd ra rb => Sys2Proof.Machine.execFadd a rd ra rb s
  | .beq a ra rb off => Sys2Proof.Machine.execBeq a ra rb off s
  | .bne a ra rb off => Sys2Proof.Machine.execBne a ra rb off s
  | .blt a ra rb off => Sys2Proof.Machine.execBlt a ra rb off s
  | .bge a ra rb off => Sys2Proof.Machine.execBge a ra rb off s
  | .bltu a ra rb off => Sys2Proof.Machine.execBltu a ra rb off s
  | .bgeu a ra rb off => Sys2Proof.Machine.execBgeu a ra rb off s
  | .j a off => Sys2Proof.Machine.execJ a off s
  | .jal a off => Sys2Proof.Machine.execJal a off s
  | .jalr a rd ra imm => Sys2Proof.Machine.execJalr a rd ra imm s
  | .tend a rd ra rb => Sys2Proof.Machine.execTend a rd ra rb s
  | .reth a rd ra rb => Sys2Proof.Machine.execReth a rd ra rb s
  | .wdog a rd ra rb => Sys2Proof.Machine.execWdog a rd ra rb s
  | .tstat a rd ra rb => Sys2Proof.Machine.execTstat a rd ra rb s
  | .evtst a rd ra rb => Sys2Proof.Machine.execEvtst a rd ra rb s
  | .brk a rd ra rb => Sys2Proof.Machine.execBrk a rd ra rb s
  | .fence a rd ra rb => Sys2Proof.Machine.execFence a rd ra rb s
  | .lstat a rd ra rb obj => Sys2Proof.Machine.execLstat a rd ra rb obj s
  | .lset a rd ra rb obj => Sys2Proof.Machine.execLset a rd ra rb obj s
  | .pfset a rd ra rb obj => Sys2Proof.Machine.execPfset a rd ra rb obj s
  | .pfclr a rd ra rb obj => Sys2Proof.Machine.execPfclr a rd ra rb obj s
  | .prst a rd ra rb obj => Sys2Proof.Machine.execPrst a rd ra rb obj s
  | .psig a rd ra rb obj => Sys2Proof.Machine.execPsig a rd ra rb obj s
  | .tset a rd ra rb obj => Sys2Proof.Machine.execTset a rd ra rb obj s
  | .tsetp a rd ra rb obj => Sys2Proof.Machine.execTsetp a rd ra rb obj s
  | .tstop a rd ra rb obj => Sys2Proof.Machine.execTstop a rd ra rb obj s
  | .trd a rd ra rb obj => Sys2Proof.Machine.execTrd a rd ra rb obj s
  | .evpost a rd ra rb obj => Sys2Proof.Machine.execEvpost a rd ra rb obj s
  | .evrd a rd ra rb obj => Sys2Proof.Machine.execEvrd a rd ra rb obj s
  | .odrd a rd ra rb obj => Sys2Proof.Machine.execOdrd a rd ra rb obj s
  | .odwr a rd ra rb obj => Sys2Proof.Machine.execOdwr a rd ra rb obj s
  | .crcb a rd ra rb obj => Sys2Proof.Machine.execCrcb a rd ra rb obj s
  | .crcw a rd ra rb obj => Sys2Proof.Machine.execCrcw a rd ra rb obj s
  | .crcm a rd ra rb obj => Sys2Proof.Machine.execCrcm a rd ra rb obj s
  | .tbrd a rd ra rb obj => Sys2Proof.Machine.execTbrd a rd ra rb obj s
  | .tbrh a rd ra rb obj => Sys2Proof.Machine.execTbrh a rd ra rb obj s
  | .twait a rd ra rb obj => Sys2Proof.Machine.execTwait a rd ra rb obj s
  | .twaitWake pe => Sys2Proof.Machine.execTwaitWake pe s
  | .tknum a rd ra rb obj => Sys2Proof.Machine.execTknum a rd ra rb obj s
  | .fsend a rd ra rb obj => Sys2Proof.Machine.execFsend a rd ra rb obj s
  | .froute a rd ra rb obj => Sys2Proof.Machine.execFroute a rd ra rb obj s
  | .spon a rd ra rb obj => Sys2Proof.Machine.execSpon a rd ra rb obj s
  | .spoff a rd ra rb obj => Sys2Proof.Machine.execSpoff a rd ra rb obj s
  | .spfrc a rd ra rb obj => Sys2Proof.Machine.execSpfrc a rd ra rb obj s
  | .sprel a rd ra rb obj => Sys2Proof.Machine.execSprel a rd ra rb obj s
  | .splim a rd ra rb obj => Sys2Proof.Machine.execSplim a rd ra rb obj s
  | .spst a rd ra rb obj => Sys2Proof.Machine.execSpst a rd ra rb obj s
  | .spgrp a rd ra rb obj => Sys2Proof.Machine.execSpgrp a rd ra rb obj s
  | .psend a rd ra rb obj => Sys2Proof.Machine.execPsend a rd ra rb obj s
  | .imageActivate w => Sys2Proof.Machine.execImageActivate w s
  | .imageConfirm w => Sys2Proof.Machine.execImageConfirm w s
  | .imageRestore w => Sys2Proof.Machine.execImageRestore w s
  | .trialExpired => Sys2Proof.Machine.execTrialExpired s
  | .pinSeated p pinB => Sys2Proof.Machine.execPinSeated p pinB s
  | .seatingLost p lostA lostB => Sys2Proof.Machine.execSeatingLost p lostA lostB s
  | .withdrawal p => Sys2Proof.Machine.execWithdrawal p s
  | .skewTimeout p => Sys2Proof.Machine.execSkewTimeout p s
  | .slotRampStart => Sys2Proof.Machine.execSlotRampStart s
  | .gateRiseFail p => Sys2Proof.Machine.execGateRiseFail p s
  | .rampTimeout p => Sys2Proof.Machine.execRampTimeout p s
  | .rampComplete p => Sys2Proof.Machine.execRampComplete p s
  | .rampLong p => Sys2Proof.Machine.execRampLong p s
  | .fastTrip p => Sys2Proof.Machine.execFastTrip p s
  | .modelUpdate p vds iout vout tsense => Sys2Proof.Machine.execModelUpdate p vds iout vout tsense s
  | .foldbackEntry p => Sys2Proof.Machine.execFoldbackEntry p s
  | .foldbackExit p => Sys2Proof.Machine.execFoldbackExit p s
  | .overcurrent p => Sys2Proof.Machine.execOvercurrent p s
  | .gateFault p => Sys2Proof.Machine.execGateFault p s
  | .groupGateFault g => Sys2Proof.Machine.execGroupGateFault g s
  | .retriesReset p => Sys2Proof.Machine.execRetriesReset p s
  | .tripHandling p => Sys2Proof.Machine.execTripHandling p s
  | .backoffExpired p => Sys2Proof.Machine.execBackoffExpired p s
  | .lockoutClear w p => Sys2Proof.Machine.execLockoutClear w p s
  | .fetFaultClear w p => Sys2Proof.Machine.execFetFaultClear w p s
  | .slotCmdFrc w p => Sys2Proof.Machine.execSlotCmdFrc w p s
  | .slotCmdRel w p => Sys2Proof.Machine.execSlotCmdRel w p s
  | .shortedFet p => Sys2Proof.Machine.execShortedFet p s
  | .inputWarning vin slope => Sys2Proof.Machine.execInputWarning vin slope s
  | .inputWarningClear vin => Sys2Proof.Machine.execInputWarningClear vin s
  | .inputUndervoltage vin => Sys2Proof.Machine.execInputUndervoltage vin s
  | .groupOpen w g => Sys2Proof.Machine.execGroupOpen w g s
  | .groupClose g => Sys2Proof.Machine.execGroupClose g s
  | .limitWrite w p limit => Sys2Proof.Machine.execLimitWrite w p limit s
  | .frameReceive f bytes aborted stamps => Sys2Proof.Machine.execFrameReceive f bytes aborted stamps s
  | .creditBlockReceive f stop rf => Sys2Proof.Machine.execCreditBlockReceive f stop rf s
  | .creditBlockSend f => Sys2Proof.Machine.execCreditBlockSend f s
  | .blockLockAcquired f => Sys2Proof.Machine.execBlockLockAcquired f s
  | .trainComplete f t1 => Sys2Proof.Machine.execTrainComplete f t1 s
  | .trainTimeout f => Sys2Proof.Machine.execTrainTimeout f s
  | .probeComplete f => Sys2Proof.Machine.execProbeComplete f s
  | .probeTimeout f => Sys2Proof.Machine.execProbeTimeout f s
  | .lossOfSignal f lock => Sys2Proof.Machine.execLossOfSignal f lock s
  | .remoteFault f => Sys2Proof.Machine.execRemoteFault f s
  | .helloDead f => Sys2Proof.Machine.execHelloDead f s
  | .faultHoldExpired f => Sys2Proof.Machine.execFaultHoldExpired f s
  | .helloSend f => Sys2Proof.Machine.execHelloSend f s
  | .helloReceive f hello => Sys2Proof.Machine.execHelloReceive f hello s
  | .lsrSend => Sys2Proof.Machine.execLsrSend s
  | .lsrRefresh => Sys2Proof.Machine.execLsrRefresh s
  | .lsrReceive f src ttl lsr => Sys2Proof.Machine.execLsrReceive f src ttl lsr s
  | .lsrExpire uid => Sys2Proof.Machine.execLsrExpire uid s
  | .addrreqSend => Sys2Proof.Machine.execAddrreqSend s
  | .addrreqReceive f src ttl uid pref seq => Sys2Proof.Machine.execAddrreqReceive f src ttl uid pref seq s
  | .addrReceive f src ttl target addr seq stew => Sys2Proof.Machine.execAddrReceive f src ttl target addr seq stew s
  | .routeRecompute => Sys2Proof.Machine.execRouteRecompute s
  | .routeBankSwap w => Sys2Proof.Machine.execRouteBankSwap w s
  | .dreqSend f t1 => Sys2Proof.Machine.execDreqSend f t1 s
  | .dreqReceive f q t1 t2 t3 => Sys2Proof.Machine.execDreqReceive f q t1 t2 t3 s
  | .drespReceive f q t1 t2 t3 t4 => Sys2Proof.Machine.execDrespReceive f q t1 t2 t3 t4 s
  | .syncReceive f master sseq origin corr trx ttx => Sys2Proof.Machine.execSyncReceive f master sseq origin corr trx ttx s
  | .syncLoss => Sys2Proof.Machine.execSyncLoss s
  | .holdoverExpired => Sys2Proof.Machine.execHoldoverExpired s
  | .timerefInEdge => Sys2Proof.Machine.execTimerefInEdge s
  | .snapshotSchedule w => Sys2Proof.Machine.execSnapshotSchedule w s
  | .snaptReceive f src ttl id origin t => Sys2Proof.Machine.execSnaptReceive f src ttl id origin t s
  | .odxRequestReceive src req => Sys2Proof.Machine.execOdxRequestReceive src req s
  | .odxResponseReceive src rsp info => Sys2Proof.Machine.execOdxResponseReceive src rsp info s
  | .gatewayCommand m cmd => Sys2Proof.Machine.execGatewayCommand m cmd s
  | .gatewayTimeout m => Sys2Proof.Machine.execGatewayTimeout m s
  | .remoteLeaseRevoke => Sys2Proof.Machine.execRemoteLeaseRevoke s
  | .exportPortPower p => Sys2Proof.Machine.execExportPortPower p s
  | .exportEnumStart p => Sys2Proof.Machine.execExportEnumStart p s
  | .exportEnumComplete p failed descs => Sys2Proof.Machine.execExportEnumComplete p failed descs s
  | .exportEnumTimeout p => Sys2Proof.Machine.execExportEnumTimeout p s
  | .exportDeviceGone p => Sys2Proof.Machine.execExportDeviceGone p s
  | .bind w p importer v => Sys2Proof.Machine.execBind w p importer v s
  | .unbind w p => Sys2Proof.Machine.execUnbind w p s
  | .importBindAttempt v => Sys2Proof.Machine.execImportBindAttempt v s
  | .virtualControlRequest v setup data => Sys2Proof.Machine.execVirtualControlRequest v setup data s
  | .ctrlReq p src tag setup data res => Sys2Proof.Machine.execCtrlReq p src tag setup data res s
  | .ctrlRsp peer slot tag status data => Sys2Proof.Machine.execCtrlRsp peer slot tag status data s
  | .ctrlAbort p src tag => Sys2Proof.Machine.execCtrlAbort p src tag s
  | .ctrlReset p src tag kind => Sys2Proof.Machine.execCtrlReset p src tag kind s
  | .ctrlResetAnswer peer slot tag speed => Sys2Proof.Machine.execCtrlResetAnswer peer slot tag speed s
  | .ctrlSuspend p src tag => Sys2Proof.Machine.execCtrlSuspend p src tag s
  | .ctrlResume p src tag => Sys2Proof.Machine.execCtrlResume p src tag s
  | .ctrlWake peer slot tag => Sys2Proof.Machine.execCtrlWake peer slot tag s
  | .ctrlDetach peer slot tag => Sys2Proof.Machine.execCtrlDetach peer slot tag s
  | .ctrlChfail peer slot tag ep => Sys2Proof.Machine.execCtrlChfail peer slot tag ep s
  | .ctrlPing peer slot tag => Sys2Proof.Machine.execCtrlPing peer slot tag s
  | .ctrlAnswer peer op slot tag => Sys2Proof.Machine.execCtrlAnswer peer op slot tag s
  | .ctrlResend tag => Sys2Proof.Machine.execCtrlResend tag s
  | .pingSend peer slot => Sys2Proof.Machine.execPingSend peer slot s
  | .deviceAllowanceExpired p => Sys2Proof.Machine.execDeviceAllowanceExpired p s
  | .importLimitExpired v => Sys2Proof.Machine.execImportLimitExpired v s
  | .virtualResetTimeout v => Sys2Proof.Machine.execVirtualResetTimeout v s
  | .channelSend n => Sys2Proof.Machine.execChannelSend n s
  | .channelDataReceive n seq payload good poison => Sys2Proof.Machine.execChannelDataReceive n seq payload good poison s
  | .channelAckReceive n src next nak win => Sys2Proof.Machine.execChannelAckReceive n src next nak win s
  | .ackSend n => Sys2Proof.Machine.execAckSend n s
  | .ackTimeout n => Sys2Proof.Machine.execAckTimeout n s
  | .channelOpen w n => Sys2Proof.Machine.execChannelOpen w n s
  | .channelClose w n => Sys2Proof.Machine.execChannelClose w n s
  | .relayPoll n report => Sys2Proof.Machine.execRelayPoll n report s
  | .relayHostPoll n => Sys2Proof.Machine.execRelayHostPoll n s
  | .peerLost peer => Sys2Proof.Machine.execPeerLost peer s
  | .sdoInitiateDownload frame => Sys2Proof.Machine.execSdoInitiateDownload frame s
  | .sdoDownloadSegment frame => Sys2Proof.Machine.execSdoDownloadSegment frame s
  | .sdoInitiateUpload frame => Sys2Proof.Machine.execSdoInitiateUpload frame s
  | .sdoUploadSegment frame => Sys2Proof.Machine.execSdoUploadSegment frame s
  | .sdoBlockDownload frame => Sys2Proof.Machine.execSdoBlockDownload frame s
  | .sdoBlockUpload frame => Sys2Proof.Machine.execSdoBlockUpload frame s
  | .sdoClientAbort frame => Sys2Proof.Machine.execSdoClientAbort frame s
  | .sdoTimeout => Sys2Proof.Machine.execSdoTimeout s
  | .usdoRequest req => Sys2Proof.Machine.execUsdoRequest req s
  | .rpdoReceive n data => Sys2Proof.Machine.execRpdoReceive n data s
  | .tpdoTransmit n why => Sys2Proof.Machine.execTpdoTransmit n why s
  | .nmtStart => Sys2Proof.Machine.execNmtStart s
  | .nmtStop => Sys2Proof.Machine.execNmtStop s
  | .nmtEnterPreoperational => Sys2Proof.Machine.execNmtEnterPreoperational s
  | .nmtResetCommunication => Sys2Proof.Machine.execNmtResetCommunication s
  | .nmtResetNode => Sys2Proof.Machine.execNmtResetNode s
  | .canSync => Sys2Proof.Machine.execCanSync s
  | .canTime ms days => Sys2Proof.Machine.execCanTime ms days s
  | .heartbeatProduce => Sys2Proof.Machine.execHeartbeatProduce s
  | .heartbeatTimeout k => Sys2Proof.Machine.execHeartbeatTimeout k s
  | .busOffRecovery => Sys2Proof.Machine.execBusOffRecovery s
  | .errorPassive tec rec_ => Sys2Proof.Machine.execErrorPassive tec rec_ s
  | .receiveOverrun => Sys2Proof.Machine.execReceiveOverrun s
  | .emcySend => Sys2Proof.Machine.execEmcySend s
  | .store w => Sys2Proof.Machine.execStore w s
  | .storeComplete ok => Sys2Proof.Machine.execStoreComplete ok s
  | .restoreDefaults w => Sys2Proof.Machine.execRestoreDefaults w s
  | .commChallenge w => Sys2Proof.Machine.execCommChallenge w s
  | .commResponse w sig => Sys2Proof.Machine.execCommResponse w sig s
  | .seal w => Sys2Proof.Machine.execSeal w s
  | .reopen w => Sys2Proof.Machine.execReopen w s
  | .rawRead w => Sys2Proof.Machine.execRawRead w s
  | .rawWrite w val => Sys2Proof.Machine.execRawWrite w val s
  | .slotEnableAll w val => Sys2Proof.Machine.execSlotEnableAll w val s
  | .registerWrite w addr val => Sys2Proof.Machine.execRegisterWrite w addr val s
  | .keyWrite w val => Sys2Proof.Machine.execKeyWrite w val s
  | .keyUnlockLapse m => Sys2Proof.Machine.execKeyUnlockLapse m s
  | .heldKeyLapse m => Sys2Proof.Machine.execHeldKeyLapse m s
  | .keyLockEnd => Sys2Proof.Machine.execKeyLockEnd s
  | .crcPassComplete => Sys2Proof.Machine.execCrcPassComplete s
  | .crcStale => Sys2Proof.Machine.execCrcStale s
  | .adopt w => Sys2Proof.Machine.execAdopt w s
  | .adoptCancel w => Sys2Proof.Machine.execAdoptCancel w s
  | .testControlWrite w addr val => Sys2Proof.Machine.execTestControlWrite w addr val s
  | .aoPostedWrite w addr val => Sys2Proof.Machine.execAoPostedWrite w addr val s
  | .aoWriteTaken => Sys2Proof.Machine.execAoWriteTaken s
  | .domainOn w d => Sys2Proof.Machine.execDomainOn w d s
  | .domainRetention w d => Sys2Proof.Machine.execDomainRetention w d s
  | .domainOff w d => Sys2Proof.Machine.execDomainOff w d s
  | .domainEntryComplete d => Sys2Proof.Machine.execDomainEntryComplete d s
  | .domainWake d src => Sys2Proof.Machine.execDomainWake d src s
  | .domainExitComplete d => Sys2Proof.Machine.execDomainExitComplete d s
  | .patrol unit => Sys2Proof.Machine.execPatrol unit s
  | .voltageRequest w mv => Sys2Proof.Machine.execVoltageRequest w mv s
  | .voutPoll code pg => Sys2Proof.Machine.execVoutPoll code pg s
  | .voltageRequestTimeout statusWord => Sys2Proof.Machine.execVoltageRequestTimeout statusWord s
  | .vcoreLoss => Sys2Proof.Machine.execVcoreLoss s
  | .v1p8Loss => Sys2Proof.Machine.execV1p8Loss s
  | .v3p3Loss vbat => Sys2Proof.Machine.execV3p3Loss vbat s
  | .vbatCheck mv => Sys2Proof.Machine.execVbatCheck mv s
  | .clockSelect w pll => Sys2Proof.Machine.execClockSelect w pll s
  | .pllLock => Sys2Proof.Machine.execPllLock s
  | .pllLockLoss => Sys2Proof.Machine.execPllLockLoss s
  | .standbyWake src => Sys2Proof.Machine.execStandbyWake src s
  | .profileRun w => Sys2Proof.Machine.execProfileRun w s
  | .profileNight w => Sys2Proof.Machine.execProfileNight w s
  | .profileStandby w => Sys2Proof.Machine.execProfileStandby w s
  | .calendarSecond => Sys2Proof.Machine.execCalendarSecond s
  | .calHoldExpired => Sys2Proof.Machine.execCalHoldExpired s
  | .hostTimeWrite w sec => Sys2Proof.Machine.execHostTimeWrite w sec s
  | .fabricTimeRead caltb sec qual => Sys2Proof.Machine.execFabricTimeRead caltb sec qual s
  | .calendarAlarm => Sys2Proof.Machine.execCalendarAlarm s
  | .journalWrite verify => Sys2Proof.Machine.execJournalWrite verify s
  | .journalRead w replica => Sys2Proof.Machine.execJournalRead w replica s
  | .journalReadBlock w replica => Sys2Proof.Machine.execJournalReadBlock w replica s
  | .journalReplicaReceive record => Sys2Proof.Machine.execJournalReplicaReceive record s
  | .counterBlockWrite => Sys2Proof.Machine.execCounterBlockWrite s
  | .softwareSnapshot w od => Sys2Proof.Machine.execSoftwareSnapshot w od s
  | .snapNEdge => Sys2Proof.Machine.execSnapNEdge s
  | .snapshotCopy => Sys2Proof.Machine.execSnapshotCopy s
  | .snapshotReleaseB0 w => Sys2Proof.Machine.execSnapshotReleaseB0 w s
  | .snapshotReleaseB1 w => Sys2Proof.Machine.execSnapshotReleaseB1 w s
  | .powerOnReset aoLost strap => Sys2Proof.Machine.execPowerOnReset aoLost strap s
  | .vcorePgRise => Sys2Proof.Machine.execVcorePgRise s
  | .vcoreEnRetry => Sys2Proof.Machine.execVcoreEnRetry s
  | .coreRelease go => Sys2Proof.Machine.execCoreRelease go s
  | .runPointRetry => Sys2Proof.Machine.execRunPointRetry s
  | .moduleResetCommand w => Sys2Proof.Machine.execModuleResetCommand w s
  | .coreResetCommand w => Sys2Proof.Machine.execCoreResetCommand w s
  | .moduleReset strap => Sys2Proof.Machine.execModuleReset strap s
  | .coreReset => Sys2Proof.Machine.execCoreReset s
  | .tapReset => Sys2Proof.Machine.execTapReset s
  | .extest => Sys2Proof.Machine.execExtest s
  | .idcode => Sys2Proof.Machine.execIdcode s
  | .samplePreload => Sys2Proof.Machine.execSamplePreload s
  | .clamp => Sys2Proof.Machine.execClamp s
  | .highz => Sys2Proof.Machine.execHighz s
  | .bypass code => Sys2Proof.Machine.execBypass code s
  | .dbgChallenge => Sys2Proof.Machine.execDbgChallenge s
  | .dbgResponse sig => Sys2Proof.Machine.execDbgResponse sig s
  | .dbgVerifyComplete => Sys2Proof.Machine.execDbgVerifyComplete s
  | .dbgEndSession => Sys2Proof.Machine.execDbgEndSession s
  | .dbgPoll => Sys2Proof.Machine.execDbgPoll s
  | .dbgRead addr => Sys2Proof.Machine.execDbgRead addr s
  | .dbgWrite addr val => Sys2Proof.Machine.execDbgWrite addr val s
  | .dbgMboxTransfer word valid => Sys2Proof.Machine.execDbgMboxTransfer word valid s
  | .haltRequest w pe => Sys2Proof.Machine.execHaltRequest w pe s
  | .resume w pe => Sys2Proof.Machine.execResume w pe s
  | .step w a => Sys2Proof.Machine.execStep w a s
  | .ccDetach => Sys2Proof.Machine.execCcDetach s
  | .timerefInLoss => Sys2Proof.Machine.execTimerefInLoss s
  | .setAddress fn addr => Sys2Proof.Machine.execSetAddress fn addr s
  | .setInterface lh alt => Sys2Proof.Machine.execSetInterface lh alt s
  | .deviceRemoteWakeup fn on => Sys2Proof.Machine.execDeviceRemoteWakeup fn on s
  | .heartbeatReceive node => Sys2Proof.Machine.execHeartbeatReceive node s
  | .busOff => Sys2Proof.Machine.execBusOff s
  | .canErrorActive => Sys2Proof.Machine.execCanErrorActive s
  | .dbgAuthLockEnd => Sys2Proof.Machine.execDbgAuthLockEnd s
  | .payloadComplete x q rest poison crcBad abort => Sys2Proof.Machine.execPayloadComplete x q rest poison crcBad abort s
  | .packetTransmitted x => Sys2Proof.Machine.execPacketTransmitted x s
  | .portInactivityTimeout p u2 => Sys2Proof.Machine.execPortInactivityTimeout p u2 s
  | .deviceLgoU1U2 p u2 => Sys2Proof.Machine.execDeviceLgoU1U2 p u2 s
  | .cutoffRecentExpiry p => Sys2Proof.Machine.execCutoffRecentExpiry p s
  | .lockstepRecentExpiry => Sys2Proof.Machine.execLockstepRecentExpiry s
  | .dictResponseRead u => Sys2Proof.Machine.execDictResponseRead u s
  | .eventReportPoll u => Sys2Proof.Machine.execEventReportPoll u s

end Sys2Proof.Machine
end

