-- ==== Sys2Proof/WellFormed.lean ====
section
/-!
DEFINITION. Which commands are well formed: the lengths and number ranges their carriers fix.
-/

namespace Sys2Proof

/-- A command is well formed: setup packets and classic CAN frames have 8 bytes, fabric frames whole words, port numbers
one byte. A command without a line of its own has nothing to keep. -/
def wellFormed : Instr → Bool
  | .getPortStatus _ _ n _ => decide (n < 256)
  | .setPortPower _ _ n => decide (n < 256)
  | .clearPortPower _ _ n => decide (n < 256)
  | .setPortReset _ _ n => decide (n < 256)
  | .setBhPortReset _ n => decide (n < 256)
  | .setPortLinkState _ n _ => decide (n < 256)
  | .setPortU1Timeout _ n _ => decide (n < 256)
  | .setPortU2Timeout _ n _ => decide (n < 256)
  | .setPortRemoteWakeMask _ n _ => decide (n < 256)
  | .setForceLinkpmAccept _ n _ => decide (n < 256)
  | .setPortSuspend _ n => decide (n < 256)
  | .setPortTest _ n _ => decide (n < 256)
  | .clearPortEnable _ n => decide (n < 256)
  | .clearPortSuspend _ n => decide (n < 256)
  | .clearPortChange _ _ n _ => decide (n < 256)
  | .getPortErrCount _ n => decide (n < 256)
  | .clearTtBuffer _ n _ => decide (n < 256)
  | .resetTt _ n => decide (n < 256)
  | .getTtState _ n => decide (n < 256)
  | .stopTt _ n => decide (n < 256)
  | .odRead _ _ _ len => decide (len < 65536)
  | .regRead _ _ len => decide (len < 65536)
  | .imageData _ _ data => decide (data.length ≤ 4096)
  | .frameReceive _ bytes _ _ => decide (16 ≤ bytes.length) && decide (bytes.length % 8 = 0) && decide (bytes.length ≤ 2056)
  | .virtualControlRequest _ setup data => decide (setup.length = 8) && decide (data.length ≤ 65535)
  | .ctrlReq _ _ _ setup _ _ => decide (setup.length = 8)
  | .ctrlRsp _ slot _ status _ => decide (slot < 256) && decide (status < 256)
  | .ctrlResetAnswer _ slot _ _ => decide (slot < 256)
  | .ctrlWake _ slot _ => decide (slot < 256)
  | .ctrlDetach _ slot _ => decide (slot < 256)
  | .ctrlChfail _ slot _ _ => decide (slot < 256)
  | .ctrlPing _ slot _ => decide (slot < 256)
  | .ctrlAnswer _ _ slot _ => decide (slot < 256)
  | .pingSend _ slot => decide (slot < 256)
  | .sdoInitiateDownload frame => decide (frame.length = 8)
  | .sdoDownloadSegment frame => decide (frame.length = 8)
  | .sdoInitiateUpload frame => decide (frame.length = 8)
  | .sdoUploadSegment frame => decide (frame.length = 8)
  | .sdoBlockDownload frame => decide (frame.length = 8)
  | .sdoBlockUpload frame => decide (frame.length = 8)
  | .sdoClientAbort frame => decide (frame.length = 8)
  | .rpdoReceive _ data => decide (data.length ≤ 64)
  | .commResponse _ sig => decide (sig.length ≤ 64)
  | .journalReplicaReceive record => decide (record.length = 64)
  | .dbgResponse sig => decide (sig.length = 64)
  | .bypass c => !([0x00, 0x01, 0x02, 0x04, 0x05, 0x20, 0x21, 0x22].contains c)
  | .tickBoundary .. | .timerefOutPulse .. | .apply .. | .applyTickArm .. | .applyTickDisarm .. | .ccAttach .. | .vbusRise .. | .vbusFall .. => true
  | .setConfiguration .. | .getHubStatus .. | .clearHubFeature .. | .setU1U2Enable .. | .getHubDescriptor .. | .setHubDepth .. | .setDescriptor .. | .statusChangePoll .. => true
  | .getInfo .. | .getStatusCode .. | .odWrite .. | .regWrite .. | .leaseAcquire .. | .leaseRenew .. | .leaseRelease .. | .leaseExpired .. => true
  | .eventAck .. | .imageBegin .. | .imageEndVerify .. | .imageAbort .. | .dictMsgRead .. | .dictMsgWrite .. | .ssTerminationDetected .. | .pollingU0 .. => true
  | .pollingFail .. | .usb2Connect .. | .usb2Disconnect .. | .usb2ResetComplete .. | .hotResetComplete .. | .hotResetTimeout .. | .warmResetComplete .. | .warmResetTimeout .. => true
  | .ssTerminationLost .. | .portSuspendEntered .. | .ssInactive .. | .portResumeComplete .. | .lgoU1U2 .. | .lgoU3 .. | .upstreamU3Entry .. | .upstreamL2Idle .. => true
  | .lpmTransaction .. | .deviceWake .. | .hostResume .. | .wakeReplay .. | .upstreamUsb2Reset .. | .upstreamHotReset .. | .upstreamWarmReset .. | .upstreamLinkLoss .. => true
  | .upstreamPresent .. | .babble .. | .overrun .. | .babblerAck .. | .failHoldExpired .. | .alternatePresent .. | .startWaitExpired .. | .handover .. => true
  | .failback .. | .reattach .. | .heldRelease .. | .bridgeTimeout .. | .packetIngress .. | .lockstepMismatch .. | .haltDrainComplete .. | .rebuildComplete .. => true
  | .lsInject .. | .egressStall .. | .enq .. | .enqf .. | .enqm .. | .enql .. | .deq .. | .peek .. => true
  | .qstat .. | .flush .. | .mark .. | .unmark .. | .rewind .. | .bankSwap .. | .cutThroughWaitExpired .. | .scrubRead .. => true
  | .windowRead .. | .windowWrite .. | .wmCrossWrite .. | .pointDecision .. | .arbWaitWarn .. | .maxwaitReset .. | .waitg .. | .waitgWake .. => true
  | .fcrd .. | .engineRunStart .. | .tickOverrun .. | .watchdogExpiry .. | .iramCheckComplete .. | .engineReloadComplete .. | .portHoldExpired .. | .timerExpiry .. => true
  | .holdSet .. | .holdClear .. | .engineRst .. | .add .. | .sub .. | .and_ .. | .or_ .. | .xor_ .. => true
  | .sll .. | .srl .. | .sra .. | .slt .. | .sltu .. | .mul .. | .mulhu .. | .addi .. => true
  | .andi .. | .ori .. | .xori .. | .slli .. | .srli .. | .srai .. | .slti .. | .himm .. => true
  | .lw .. | .lh .. | .lhu .. | .lb .. | .lbu .. | .sw .. | .sh .. | .sb .. => true
  | .swap .. | .fadd .. | .beq .. | .bne .. | .blt .. | .bge .. | .bltu .. | .bgeu .. => true
  | .j .. | .jal .. | .jalr .. | .tend .. | .reth .. | .wdog .. | .tstat .. | .evtst .. => true
  | .brk .. | .fence .. | .lstat .. | .lset .. | .pfset .. | .pfclr .. | .prst .. | .psig .. => true
  | .tset .. | .tsetp .. | .tstop .. | .trd .. | .evpost .. | .evrd .. | .odrd .. | .odwr .. => true
  | .crcb .. | .crcw .. | .crcm .. | .tbrd .. | .tbrh .. | .twait .. | .twaitWake .. | .tknum .. => true
  | .fsend .. | .froute .. | .spon .. | .spoff .. | .spfrc .. | .sprel .. | .splim .. | .spst .. => true
  | .spgrp .. | .psend .. | .imageActivate .. | .imageConfirm .. | .imageRestore .. | .trialExpired .. | .pinSeated .. | .seatingLost .. => true
  | .withdrawal .. | .skewTimeout .. | .slotRampStart .. | .gateRiseFail .. | .rampTimeout .. | .rampComplete .. | .rampLong .. | .fastTrip .. => true
  | .modelUpdate .. | .foldbackEntry .. | .foldbackExit .. | .overcurrent .. | .gateFault .. | .groupGateFault .. | .retriesReset .. | .tripHandling .. => true
  | .backoffExpired .. | .lockoutClear .. | .fetFaultClear .. | .slotCmdFrc .. | .slotCmdRel .. | .shortedFet .. | .inputWarning .. | .inputWarningClear .. => true
  | .inputUndervoltage .. | .groupOpen .. | .groupClose .. | .limitWrite .. | .creditBlockReceive .. | .creditBlockSend .. | .blockLockAcquired .. | .trainComplete .. => true
  | .trainTimeout .. | .probeComplete .. | .probeTimeout .. | .lossOfSignal .. | .remoteFault .. | .helloDead .. | .faultHoldExpired .. | .helloSend .. => true
  | .helloReceive .. | .lsrSend .. | .lsrRefresh .. | .lsrReceive .. | .lsrExpire .. | .addrreqSend .. | .addrreqReceive .. | .addrReceive .. => true
  | .routeRecompute .. | .routeBankSwap .. | .dreqSend .. | .dreqReceive .. | .drespReceive .. | .syncReceive .. | .syncLoss .. | .holdoverExpired .. => true
  | .timerefInEdge .. | .snapshotSchedule .. | .snaptReceive .. | .odxRequestReceive .. | .odxResponseReceive .. | .gatewayCommand .. | .gatewayTimeout .. | .remoteLeaseRevoke .. => true
  | .exportPortPower .. | .exportEnumStart .. | .exportEnumComplete .. | .exportEnumTimeout .. | .exportDeviceGone .. | .bind .. | .unbind .. | .importBindAttempt .. => true
  | .ctrlAbort .. | .ctrlReset .. | .ctrlSuspend .. | .ctrlResume .. | .ctrlResend .. | .deviceAllowanceExpired .. | .importLimitExpired .. | .virtualResetTimeout .. => true
  | .channelSend .. | .channelDataReceive .. | .channelAckReceive .. | .ackSend .. | .ackTimeout .. | .channelOpen .. | .channelClose .. | .relayPoll .. => true
  | .relayHostPoll .. | .peerLost .. | .sdoTimeout .. | .usdoRequest .. | .tpdoTransmit .. | .nmtStart .. | .nmtStop .. | .nmtEnterPreoperational .. => true
  | .nmtResetCommunication .. | .nmtResetNode .. | .canSync .. | .canTime .. | .heartbeatProduce .. | .heartbeatTimeout .. | .busOffRecovery .. | .errorPassive .. => true
  | .receiveOverrun .. | .emcySend .. | .store .. | .storeComplete .. | .restoreDefaults .. | .commChallenge .. | .seal .. | .reopen .. => true
  | .rawRead .. | .rawWrite .. | .slotEnableAll .. | .registerWrite .. | .keyWrite .. | .keyUnlockLapse .. | .heldKeyLapse .. | .keyLockEnd .. => true
  | .crcPassComplete .. | .crcStale .. | .adopt .. | .adoptCancel .. | .testControlWrite .. | .aoPostedWrite .. | .aoWriteTaken .. | .domainOn .. => true
  | .domainRetention .. | .domainOff .. | .domainEntryComplete .. | .domainWake .. | .domainExitComplete .. | .patrol .. | .voltageRequest .. | .voutPoll .. => true
  | .voltageRequestTimeout .. | .vcoreLoss .. | .v1p8Loss .. | .v3p3Loss .. | .vbatCheck .. | .clockSelect .. | .pllLock .. | .pllLockLoss .. => true
  | .standbyWake .. | .profileRun .. | .profileNight .. | .profileStandby .. | .calendarSecond .. | .calHoldExpired .. | .hostTimeWrite .. | .fabricTimeRead .. => true
  | .calendarAlarm .. | .journalWrite .. | .journalRead .. | .journalReadBlock .. | .counterBlockWrite .. | .softwareSnapshot .. | .snapNEdge .. | .snapshotCopy .. => true
  | .snapshotReleaseB0 .. | .snapshotReleaseB1 .. | .powerOnReset .. | .vcorePgRise .. | .vcoreEnRetry .. | .coreRelease .. | .runPointRetry .. | .moduleResetCommand .. => true
  | .coreResetCommand .. | .moduleReset .. | .coreReset .. | .tapReset .. | .extest .. | .idcode .. | .samplePreload .. | .clamp .. => true
  | .tbStep .. | .highz .. | .dbgChallenge .. | .dbgVerifyComplete .. | .dbgEndSession .. | .dbgPoll .. | .dbgRead .. | .dbgWrite .. => true
  | .dbgMboxTransfer .. | .haltRequest .. | .resume .. | .step .. | .ccDetach .. | .timerefInLoss .. | .setAddress .. | .setInterface .. => true
  | .deviceRemoteWakeup .. | .heartbeatReceive .. | .busOff .. | .canErrorActive .. | .dbgAuthLockEnd .. | .payloadComplete .. | .packetTransmitted .. | .portInactivityTimeout .. => true
  | .deviceLgoU1U2 .. | .cutoffRecentExpiry .. | .lockstepRecentExpiry .. | .dictResponseRead .. | .eventReportPoll .. => true

end Sys2Proof
end

