-- ==== Sys2Proof/Safety.lean ====
section
/-!
DEFINITION. What counts as a safe run, and the words the statements about commands are made of: completing a command,
counting an event, and leaving every other part of the state as it was.
-/

namespace Sys2Proof.Machine

open Sys2Proof

/-! ## Safety -/

/-- Every sparse table of the state is in its canonical form: register file, packet memory, engine memories, route banks.
Equal contents are then equal data. -/
def State.canonical (s : State) : Bool :=
  Sparse.wf regDefault s.regs.active && Sparse.wf pwZero s.qm.mem && Memory.wf s.eng.mem &&
  Sparse.wf routeReset s.fab.rt0 && Sparse.wf routeReset s.fab.rt1

/-- The commands that wait are well formed. -/
def State.queueOk (s : State) : Bool := s.pending.all wellFormed

/-- A safe state: canonical tables and a well-formed queue. -/
def State.Safe (s : State) : Prop := s.canonical = true ∧ s.queueOk = true

/-- A step is safe: it answers a next state, and that state is safe. -/
def SafeStep (s : State) : Prop := ∃ t, step s = .next t ∧ t.Safe

/-! ## Commands that complete -/

/-- The command completes, and what `P` says holds of the state it leaves. -/
def Completes (c : Instr) (s : State) (P : State → Prop) : Prop := ∃ t, exec c s = .next t ∧ P t

/-- Event `n` occurs once between two states (R326): its counter advances by one, or its overflow bit is set. -/
def Counts (n : Fin 64) (s t : State) : Prop :=
  if Tbl.get s.ev.cnt n - Tbl.get s.ev.seen n = 65535 then t.ev.ovf.getLsbD n.val = true
  else Tbl.get t.ev.cnt n = Tbl.get s.ev.cnt n + 1

/-! ## Frames -/

/-- The components of the state a frame tells apart. The event counters, the snapshot latch that an event or a command may
trigger, the command's answer and the lines it drives are not among them: a frame says nothing of them. `usb` is the USB
block less the management functions, which are `mf`; `pend` is the queue of commands. -/
inductive Comp where
  | pend | time | regs | pin | lease | usb | mf | xb | qm | arb | eng | pow | fab | xpt | od | can | ao | jr | img | start
  | dbg | free
deriving DecidableEq, Repr

/-- A component is the same in two states. What an event that is counted reaches may differ: the list of changed events of a
management function and of the CAN node, and the pending events of an engine (R62, R160, R299). -/
def sameIn (p : Comp) (s t : State) : Prop :=
  match p with
  | .pend => t.pending = s.pending
  | .time => t.time = s.time
  | .regs => t.regs = s.regs
  | .pin => t.pin = s.pin
  | .lease => t.lease = s.lease
  | .usb => t.usb = { s.usb with mf := t.usb.mf }
  | .mf => ∀ u, Tbl.get t.usb.mf u = { Tbl.get s.usb.mf u with changed := (Tbl.get t.usb.mf u).changed }
  | .xb => t.xb = s.xb
  | .qm => t.qm = s.qm
  | .arb => t.arb = s.arb
  | .eng => t.eng = { s.eng with pe := t.eng.pe } ∧ ∀ n, eng t n = { eng s n with evPend := (eng t n).evPend }
  | .pow => t.pow = s.pow
  | .fab => t.fab = s.fab
  | .xpt => t.xpt = s.xpt
  | .od => t.od = s.od
  | .can => t.can = { s.can with changed := t.can.changed }
  | .ao => t.ao = s.ao
  | .jr => t.jr = s.jr
  | .img => t.img = s.img
  | .start => t.start = s.start
  | .dbg => t.dbg = s.dbg
  | .free => t.free = s.free

/-- Nothing but the listed components differs between two states. -/
def Only (l : List Comp) (s t : State) : Prop := ∀ p, p ∉ l → sameIn p s t

/-! ## Requests of masters -/

/-- The path of a master's request is open: a host master's management function is reached, the forwarding core carries its
transfers, and the boot ROM does not wait for an image (R10, R57, R63). -/
def pathOpen (s : State) (m : Fin 16) : Bool :=
  if h : m.val < 3 then mfReached s ⟨m.val, h⟩ && s.xb.st != .halt && s.xb.st != .rebuild && !bootWait s else true

/-- A master may write the register at an address: its path is open, it holds the lease where the register needs it, and its
unlock is in force where the register is key-protected (R309, R310). -/
def mayWrite (s : State) (w : Who) (a : Nat) : Bool :=
  pathOpen s w.m && !leaseLacks s w a &&
    (match regRow a with | some r => !r.key || (issueHeld w.m s).regs.unlock.getLsbD w.m.val | none => false)

/-- A master may write a dictionary entry with a value: its path is open and PE0 accepts the write (R278). -/
def mayOd (s : State) (w : Who) (idx sub : Nat) (data : List Byte) : Bool :=
  pathOpen s w.m && odWriteCode w idx sub data s == 0

/-- How a request with a status code is answered: the data on success, a Request Error to a host master, the code to any
other (R59, R307). -/
def answerOf (w : Who) (code : Nat) (data : List Byte) : Reply :=
  if code = 0 then .done data else if w.m.val < 3 then .requestError else .status code

/-- The command completes, the request is answered with its data, and what `P` says holds of the state it leaves. -/
def Answers (c : Instr) (w : Who) (data : List Byte) (s : State) (P : State → Prop) : Prop :=
  Completes c s fun t => t.reply = answerOf w 0 data ∧ P t

/-- The request is refused with a status code and changes nothing that the listed components do not hold. -/
def Refuses (c : Instr) (w : Who) (code : Nat) (l : List Comp) (s : State) : Prop :=
  Completes c s fun t => t.reply = answerOf w code [] ∧ Only l s t

/-! ## Instructions of an engine -/

/-- Engine `a.pe` executes, and its next instruction is fetched without an error and without a breakpoint (R156, R158,
R172, R399); no commanded step of an engine is still to be carried out (R400). -/
def Ready (a : At) (s : State) : Prop :=
  (eng s a.pe).executes = true ∧ (eng s a.pe).pc.toNat % 4 = 0 ∧ (eng s a.pe).pc.toNat < 0x10000 ∧ a.fetch = .none ∧
    breaks s a.pe (eng s a.pe).pc = false ∧ s.dbg.stepping = 0

/-- The state in which the operation of an instruction works: the PC is on the next word, a breakpoint is passed once at
most, nothing is answered or driven yet. -/
def advanced (a : At) (s : State) : State :=
  updEng a.pe (fun e => { e with pc := e.pc + 4 })
    { s.fresh with dbg := { s.dbg with pass := s.dbg.pass &&& ~~~(BitVec.ofNat 8 (2 ^ a.pe.val)) } }

/-- The instruction gives rd a value, moves the PC to the next word and does nothing else. A value for g0 goes nowhere
(R155). -/
def GivesReg (c : Instr) (a : At) (rd : Fin 16) (v : Word) (s : State) : Prop :=
  exec c s = .next (putReg a.pe rd v (advanced a s))

/-- Register rd of an engine holds a value; g0 reads 0 (R155). -/
def RegIs (t : State) (n : Fin 8) (rd : Fin 16) (v : Word) : Prop := greg t n rd = if rd.val = 0 then 0 else v

end Sys2Proof.Machine
end

