-- ==== Sys2Proof/Certificates/Slice0/Obligations.lean ====
section
/-!
DEFINITION. The statements about the model, for the provers. Each says in its docstring which rules it formalises; what a
statement says nothing of is named there or is outside its clauses. The statements come first about the step, then family by family.
-/

namespace Sys2Proof.Claims
open Sys2Proof Sys2Proof.Machine

/-- A queue command can be issued: by a master's register write, or by an engine's primitive on the queue. -/
def QIssued (b : QBy) (q : Fin 64) (s : State) : Prop :=
  match b with
  | .reg w q' => q' = q ∧ mayWrite s w (0x30018 + 0x40 * q.val) = true ∧ s.dbg.stepping = 0
  | .prim a _ _ _ obj => Ready a s ∧ objNumber s a.pe obj = q.val

/-- How a queue command tells its status: a register write is answered and RWSTAT shows it, a primitive gives it to rd. -/
def QTold (b : QBy) (q : Fin 64) (code : Nat) (t : State) : Prop :=
  (queue t q).rwstat = code ∧
  match b with
  | .reg _ _ => t.reply = .done []
  | .prim a rd _ _ _ => RegIs t a.pe rd (BitVec.ofNat 32 code)

/-- A hub half is served: it can be addressed, and the engine that holds HUBS runs (R169). -/
def HubServes (s : State) (lh : Fin 6) : Prop := hubReached s lh = true ∧ roleRuns s 28 = true

/-- A queue is enabled with CREDIT admission, no mark is overtaken, its consumer has items to read, no item is in progress, and the
producer's bank has credit for an item of `n` bytes (R116, R128). -/
def Takes (s : State) (q : Fin 64) (p : Fin 2) (n : Nat) : Prop :=
  qEn s q = true ∧ qDropMode s q = false ∧ qMarkMode s q ≠ 2 ∧ consDrained (queue s q) = false ∧ (queue s q).cur = none ∧
    (queue s q).prod = some p ∧ (queue s q).cons ≠ p ∧ (Tbl.get (queue s q).banks p).fill = (Tbl.get (queue s q).banks p).done ∧
    qCredit s q = true ∧ n ≤ qItemMax s q

/-- A DATA item of `n` bytes has been committed to the producer's bank of a queue (R123). -/
def Took (s t : State) (q : Fin 64) (p : Fin 2) (n : Nat) : Prop :=
  let k := Tbl.get (queue s q).banks p
  let w := pmGet t ((qBase s q p + k.done) / 8)
  (queue t q).cur = none ∧ (Tbl.get (queue t q).banks p).items = k.items + 1 ∧ (Tbl.get (queue t q).banks p).done = k.done + 8 + up8 n ∧
    hLen w.data = n ∧ hType w.data = 0 ∧ hSop w.data = true ∧ hEop w.data = true

/-- Fabric port `f` sends a TC0 frame at once: it is in TRAIN, PROBE or UP, its TC0 buffer is empty, the partner has not stopped TC0
and the frame period has block times left (R215, R217). -/
def SendsTc0 (s : State) (f : Fin 4) : Prop :=
  tc0Sends s f = true ∧ (fport s f).tc0 = [] ∧ tcStopped s f 0 = false ∧ (fport s f).tc0Used < tc0Cap s

/-- A frame of `n` bytes for a node is placed in the egress queue of the port its route names, when that queue takes it (R217, R230). -/
def Sends (s t : State) (dst : BitVec 12) (n : Nat) : Prop :=
  ∀ g alt p, lookup s dst.toNat false = .port g alt → Takes s (fabQ g) p n → n ≤ 65535 → Took s t (fabQ g) p n

end Sys2Proof.Claims

open Sys2Proof Sys2Proof.Machine Sys2Proof.Claims

/-- What each step holds (spec/95_what_each_step_holds.md): commands are taken one at a time, in the order in which they wait. A step runs the command at the front of the queue on
the state with the rest of the queue; with no command waiting the block idles (log entry 4: the model's choice). -/
def Obligations.AStepRunsTheFrontCommand : Prop :=
  ∀ (c : Instr) (rest : List Instr) (s : State),
    (s.pending = c :: rest → step s = exec c { s with pending := rest }) ∧ (s.pending = [] → step s = .next s)

/-- R14, R155, R162, R187, R208, R304, R309, R311, R326, R350, R390: after reset every register reads its reset value, TB and the tick
number are 0, nobody holds the lease or an unlock, no shadow is pending, every counter of an event is 0, every engine is in RESET with
its registers 0, every slot is OFF and every group FET open, every domain ON, the queues are empty, no debug session is open, and the
state is safe. The values of the engine registers and the empty memories are the model's choice (log entries 1 and 5). -/
def Obligations.ResetLeavesASafeState : Prop :=
  State.reset.Safe ∧ State.reset.pending = [] ∧ (∀ a, regv State.reset a = regDefault a) ∧ State.reset.time.tb = 0 ∧
    State.reset.time.tick = 0 ∧ State.reset.lease.owner = none ∧ State.reset.regs.unlock = 0 ∧ State.reset.regs.shadows = [] ∧
    (∀ n, Tbl.get State.reset.ev.cnt n = 0) ∧ (∀ n, (eng State.reset n).st = .reset ∧ (eng State.reset n).regs = Tbl.fill 16 0) ∧
    (∀ p, (slot State.reset p).st = .off) ∧ (∀ g, (group State.reset g).closed = false) ∧ (∀ d, (dom State.reset d).st = .on) ∧
    (∀ q, (queue State.reset q).banks = Tbl.fill 2 bankEmpty ∧ (queue State.reset q).prod = some 0 ∧ (queue State.reset q).cons = 1) ∧
    State.reset.dbg.authst = 0 ∧ State.reset.dbg.ir = 1

/-- From every safe state, reached by a run or not, a step answers a next state, that state is safe, and the queue has lost the
command that ran and nothing else: the register file, the packet memory, the engine memories and the two route banks keep their
canonical form under every command, and no command stops the block or touches the commands that wait. -/
def Obligations.EveryStepKeepsASafeState : Prop :=
  ∀ s : State, s.Safe → ∃ t, step s = .next t ∧ t.Safe ∧ t.pending = s.pending.tail

/-- R172, R173, R176: the word of an engine instruction holds all of it: for every instruction of the engines, with every operand,
the decoder reads from its word the same instruction for the same engine. -/
def Obligations.EngineWordsDecodeToTheirInstruction : Prop :=
  ∀ (i : Instr) (a : At) (w : Word), engineEncode i = some (a, w) → engineWord a w = some i

/-- R173, R155: the three-register arithmetic instructions. A 32-bit result replaces rd; every other register, the memories and
the rest of the device stay as they are. R173: the arithmetic instructions with an 18-bit immediate: sign-extended for ADDI
and SLTI, zero-extended for the logical ones, its low five bits a shift distance; HIMM puts it above ra's low 14 bits. -/
def Obligations.ArithmeticGivesItsResult : Prop :=
  (∀ (a : At) (rd ra rb : Fin 16) (s : State), Ready a s →
    let x := greg s a.pe ra
    let y := greg s a.pe rb
    GivesReg (.add a rd ra rb) a rd (x + y) s ∧
    GivesReg (.sub a rd ra rb) a rd (x - y) s ∧
    GivesReg (.and_ a rd ra rb) a rd (x &&& y) s ∧
    GivesReg (.or_ a rd ra rb) a rd (x ||| y) s ∧
    GivesReg (.xor_ a rd ra rb) a rd (x ^^^ y) s ∧
    GivesReg (.sll a rd ra rb) a rd (x <<< (y.toNat % 32)) s ∧
    GivesReg (.srl a rd ra rb) a rd (x >>> (y.toNat % 32)) s ∧
    GivesReg (.sra a rd ra rb) a rd (x.sshiftRight (y.toNat % 32)) s ∧
    GivesReg (.slt a rd ra rb) a rd (if x.toInt < y.toInt then 1 else 0) s ∧
    GivesReg (.sltu a rd ra rb) a rd (if x.toNat < y.toNat then 1 else 0) s ∧
    GivesReg (.mul a rd ra rb) a rd (BitVec.ofNat 32 (x.toNat * y.toNat)) s ∧
    GivesReg (.mulhu a rd ra rb) a rd (BitVec.ofNat 32 (x.toNat * y.toNat / 2 ^ 32)) s) ∧
  (∀ (a : At) (rd ra : Fin 16) (i : BitVec 18) (s : State), Ready a s →
    let x := greg s a.pe ra
    GivesReg (.addi a rd ra i) a rd (x + i.signExtend 32) s ∧
    GivesReg (.andi a rd ra i) a rd (x &&& i.setWidth 32) s ∧
    GivesReg (.ori a rd ra i) a rd (x ||| i.setWidth 32) s ∧
    GivesReg (.xori a rd ra i) a rd (x ^^^ i.setWidth 32) s ∧
    GivesReg (.slli a rd ra i) a rd (x <<< (i.toNat % 32)) s ∧
    GivesReg (.srli a rd ra i) a rd (x >>> (i.toNat % 32)) s ∧
    GivesReg (.srai a rd ra i) a rd (x.sshiftRight (i.toNat % 32)) s ∧
    GivesReg (.slti a rd ra i) a rd (if x.toInt < i.toInt then 1 else 0) s ∧
    GivesReg (.himm a rd ra i) a rd (BitVec.ofNat 32 (i.toNat * 2 ^ 14 + x.toNat % 2 ^ 14)) s)

/-- R156, R158, R173: loads from the engine's own memories, ECM and the boot ROM give rd the bytes at ra plus the immediate,
least significant first, widened with the sign for LH and LB. R156, R173: a store to DRAM or ECM writes the low bytes of rd
at its address, least significant first, and no other byte of any engine memory; nothing else but the PC changes. `g` is the
global address of the first byte. R159: SWAP and FADD on a word of ECM: rd gets the old word, the word becomes rb, or its
sum with rb, in one step; no other byte changes. -/
def Obligations.LoadsStoresAndAtomicsReachTheirBytes : Prop :=
  (∀ (a : At) (rd ra : Fin 16) (i : BitVec 18) (s : State), Ready a s → a.data = .none →
    let ad := (greg s a.pe ra + i.signExtend 32).toNat
    let b := fun k => (localByte s a.pe (ad + k)).toNat
    ad < 0x80000000 → dwpHit s a.pe false ad = false →
    (ad % 4 = 0 → loadable ad 4 = true →
      GivesReg (.lw a rd ra i) a rd (BitVec.ofNat 32 (b 0 + 256 * b 1 + 256 ^ 2 * b 2 + 256 ^ 3 * b 3)) s) ∧
    (ad % 2 = 0 → loadable ad 2 = true →
      GivesReg (.lh a rd ra i) a rd ((BitVec.ofNat 16 (b 0 + 256 * b 1)).signExtend 32) s ∧
      GivesReg (.lhu a rd ra i) a rd (BitVec.ofNat 32 (b 0 + 256 * b 1)) s) ∧
    (loadable ad 1 = true →
      GivesReg (.lb a rd ra i) a rd ((BitVec.ofNat 8 (b 0)).signExtend 32) s ∧
      GivesReg (.lbu a rd ra i) a rd (BitVec.ofNat 32 (b 0)) s)) ∧
  (∀ (a : At) (rd ra : Fin 16) (i : BitVec 18) (s : State) (g kind off : Nat), Ready a s → a.data = .none →
    Memory.wf s.eng.mem = true →
    let ad := (greg s a.pe ra + i.signExtend 32).toNat
    let v := (greg s a.pe rd).toNat
    reach a.pe ad = .mem g kind off → 0x10000 ≤ ad → dwpHit s a.pe true ad = false →
    let stores := fun (c : Instr) (len : Nat) => Completes c s fun t =>
      (∀ x, memByte t x = if g ≤ x ∧ x < g + len then BitVec.ofNat 8 (v / 256 ^ (x - g)) else memByte s x) ∧
      t = { advanced a s with eng := { (advanced a s).eng with mem := t.eng.mem } }
    (ad % 4 = 0 → stores (.sw a rd ra i) 4) ∧
    (ad % 2 = 0 → stores (.sh a rd ra i) 2) ∧
    stores (.sb a rd ra i) 1) ∧
  (∀ (a : At) (rd ra rb : Fin 16) (s : State), Ready a s → a.data = .none → Memory.wf s.eng.mem = true →
    let ad := (greg s a.pe ra).toNat
    let g := ad - 0x20000 + 0x200000
    ad % 4 = 0 → 0x20000 ≤ ad → ad < 0x60000 → dwpHit s a.pe false ad = false → dwpHit s a.pe true ad = false →
    let old := BitVec.ofNat 32 (memNum s g 4)
    let swaps := fun (c : Instr) (new : Word) => Completes c s fun t =>
      (∀ x, memByte t x = if g ≤ x ∧ x < g + 4 then BitVec.ofNat 8 (new.toNat / 256 ^ (x - g)) else memByte s x) ∧
      { t with eng := { t.eng with mem := s.eng.mem } } = putReg a.pe rd old (advanced a s)
    swaps (.swap a rd ra rb) (greg s a.pe rb) ∧ swaps (.fadd a rd ra rb) (old + greg s a.pe rb))

/-- R173: a branch goes to its own address plus four times its offset when its comparison holds, and on to the next word
otherwise; J, JAL and JALR always go, JAL leaving the next word's address in g15 and JALR in rd, with its target taken first
and its bits [1:0] cleared. R162 to R166, R173, R399: TEND ends the restart code or the tick run, RETH ends a handler, and
either is an illegal instruction elsewhere, which the frame statement of exceptions covers; WDOG reloads the watchdog, TSTAT
and EVTST give rd the run's status, BRK halts the engine in a granted debug session, FENCE has nothing outstanding to wait
for. -/
def Obligations.BranchesJumpsAndEngineControlComplete : Prop :=
  (∀ (a : At) (rd ra rb : Fin 16) (off : BitVec 18) (far : BitVec 26) (s : State), Ready a s →
    let x := greg s a.pe ra
    let y := greg s a.pe rb
    let pc := (eng s a.pe).pc
    let goes := fun (pc' : Word) (t : State) => updEng a.pe (fun e => { e with pc := pc' }) t
    let branch := fun (c : Instr) (b : Bool) =>
      exec c s = .next (if b then goes (pc + off.signExtend 32 * 4) (advanced a s) else advanced a s)
    branch (.beq a ra rb off) (decide (x = y)) ∧
    branch (.bne a ra rb off) (decide (x ≠ y)) ∧
    branch (.blt a ra rb off) (decide (x.toInt < y.toInt)) ∧
    branch (.bge a ra rb off) (decide (y.toInt ≤ x.toInt)) ∧
    branch (.bltu a ra rb off) (decide (x.toNat < y.toNat)) ∧
    branch (.bgeu a ra rb off) (decide (y.toNat ≤ x.toNat)) ∧
    exec (.j a far) s = .next (goes (pc + far.signExtend 32 * 4) (advanced a s)) ∧
    exec (.jal a far) s = .next (goes (pc + far.signExtend 32 * 4) (putReg a.pe 15 (pc + 4) (advanced a s))) ∧
    exec (.jalr a rd ra off) s =
      .next (goes ((x + off.signExtend 32) &&& 0xFFFFFFFC) (putReg a.pe rd (pc + 4) (advanced a s)))) ∧
  (∀ (a : At) (rd ra rb : Fin 16) (s : State), Ready a s →
    let n := a.pe
    let e := eng s n
    (e.st = .init → Completes (.tend a rd ra rb) s fun t => (eng t n).st = .idle ∧ (eng t n).regs = e.regs ∧
      t.eng.mem = s.eng.mem) ∧
    (e.st = .tick → e.entry = false → exec (.tend a rd ra rb) s =
      .next (updEng n (fun x => { x with st := .idle, ovrSeq := if e.overrun then e.ovrSeq else 0 }) (advanced a s))) ∧
    (e.st = .tick → e.entry = true → Completes (.tend a rd ra rb) s fun t => (eng t n).st = .tick ∧ (eng t n).pc = 0x40 ∧
      (eng t n).entry = false ∧ (eng t n).late = e.entryLate) ∧
    (e.st = .handler → exec (.reth a rd ra rb) s = .next (updEng n (fun x => { x with st := .idle }) (advanced a s))) ∧
    exec (.wdog a rd ra rb) s = .next (updEng n (fun x => { x with wd := wdTicks s n }) (advanced a s)) ∧
    Completes (.tstat a rd ra rb) s (fun t => ∃ v, t = putReg n rd v (advanced a s) ∧
      v.getLsbD 0 = e.late ∧ fld v 31 16 = e.tickNo.toNat ∧ fld v 15 8 = min 255 e.skipped ∧ fld v 2 1 = e.ovrSeq % 4) ∧
    Completes (.evtst a rd ra rb) s (fun t => ∃ v, t = putReg n rd v (advanced a s) ∧
      v.getLsbD 0 = e.entry ∧ v.getLsbD 1 = (handlerSource s n).isSome ∧ v.getLsbD 2 = mboxReadable s n) ∧
    (authNow s = 2 → Completes (.brk a rd ra rb) s fun t => (eng t n).st = .halted ∧ (eng t n).haltSt = e.st ∧
      (eng t n).pc = e.pc + 4 ∧ t.eng.mem = s.eng.mem) ∧
    (authNow s ≠ 2 → exec (.brk a rd ra rb) s = .next (advanced a s)) ∧
    exec (.fence a rd ra rb) s = .next (advanced a s))

/-- R173, R177: what an engine instruction cannot do is an exception: a misaligned or unreachable access, TEND or RETH outside
its run, an object number out of range, a word with a double error. FAULT and FPC record it, the engine is reset with cause
EXCEPTION, or ECC, and EV5 counts; no register of the engine and no memory keeps a part of the instruction's effect. -/
def Obligations.ExceptionsResetTheEngine : Prop :=
  ∀ (a : At) (rd ra rb : Fin 16) (i : BitVec 18) (obj : Byte) (s : State), Ready a s →
    let n := a.pe
    let e := eng s n
    let ad := (greg s n ra + i.signExtend 32).toNat
    let traps := fun (c : Instr) (cause : Nat) => Completes c s fun t =>
      (eng t n).lastCause = (if cause = 5 then 3 else 4) ∧ fld (eng t n).fault 3 0 = cause ∧ (eng t n).fpc = e.pc ∧
      ((eng t n).st = .reset ∨ (eng t n).st = .check) ∧ (eng t n).regs = Tbl.fill 16 0 ∧
      (eng t n).resets = min 255 (e.resets + 1) ∧ t.eng.mem = s.eng.mem
    (ad % 4 ≠ 0 → traps (.lw a rd ra i) 2 ∧ traps (.sw a rd ra i) 2) ∧
    (ad % 2 ≠ 0 → traps (.lh a rd ra i) 2 ∧ traps (.lhu a rd ra i) 2 ∧ traps (.sh a rd ra i) 2) ∧
    (loadable ad 1 = false → traps (.lb a rd ra i) 3 ∧ traps (.lbu a rd ra i) 3) ∧
    (storable ad 1 = false → traps (.sb a rd ra i) 3) ∧
    ((greg s n ra).toNat % 4 = 0 → ((greg s n ra).toNat < 0x20000 ∨ 0x60000 ≤ (greg s n ra).toNat) →
      traps (.swap a rd ra rb) 3 ∧ traps (.fadd a rd ra rb) 3) ∧
    (e.st = .handler → traps (.tend a rd ra rb) 1) ∧
    (e.st = .tick → traps (.reth a rd ra rb) 1) ∧
    (16 ≤ objNumber s n obj → traps (.tset a rd ra rb obj) 4) ∧
    (64 ≤ objNumber s n obj → traps (.enq a rd ra rb obj) 4 ∧ traps (.evrd a rd ra rb obj) 4) ∧
    (a.data = .double → ad % 4 = 0 → ad + 4 ≤ 0x60000 → traps (.lw a rd ra i) 5)

/-- R178: the timer primitives of an engine that owns the timer: TSET and TSETP start it with a period of 1 to 16,777,215 µs,
TSTOP stops it, TRD gives what remains; from another engine each gives NOTOWNER and does nothing. R15, R148, R149, R176,
R178, R326, R387: the primitives that read time, events, forecasts and checksums give rd their value; TWAIT and WAITG put
the engine to sleep, TBRD holds the upper half of TB for TBRH, and EVPOST counts a postable event. -/
def Obligations.TimerTimeEventAndChecksumPrimitivesComplete : Prop :=
  (∀ (a : At) (rd ra rb : Fin 16) (obj : Byte) (k : Fin 16) (s : State), Ready a s → objNumber s a.pe obj = k.val →
    let n := a.pe
    let p := (greg s n ra).toNat
    let give := fun (v : Word) (t : State) => putReg n rd v t
    let started := fun (periodic : Bool) => updTimer k (fun t =>
      { t with run := true, periodic := periodic, period := p, due := s.time.tb + BitVec.ofNat 64 (p * 1000) }) (advanced a s)
    (ownsTimer s n k = true → 1 ≤ p → p ≤ 16777215 →
      exec (.tset a rd ra rb obj) s = .next (give 0 (started false)) ∧
      exec (.tsetp a rd ra rb obj) s = .next (give 0 (started true))) ∧
    (ownsTimer s n k = true →
      exec (.tstop a rd ra rb obj) s = .next (give 0 (updTimer k (fun t => { t with run := false }) (advanced a s))) ∧
      GivesReg (.trd a rd ra rb obj) a rd (BitVec.ofNat 32 (timerRemain s (Tbl.get s.eng.tm k))) s) ∧
    (ownsTimer s n k = false →
      GivesReg (.tset a rd ra rb obj) a rd 12 s ∧ GivesReg (.tsetp a rd ra rb obj) a rd 12 s ∧
      GivesReg (.tstop a rd ra rb obj) a rd 12 s ∧ GivesReg (.trd a rd ra rb obj) a rd 12 s)) ∧
  (∀ (a : At) (rd ra rb : Fin 16) (obj : Byte) (k : Fin 64) (s : State), Ready a s →
    let n := a.pe
    let x := greg s n ra
    let y := greg s n rb
    let late := ((BitVec.ofNat 32 s.time.tb.toNat) - x).toInt < 0
    exec (.tbrd a rd ra rb obj) s = .next (putReg n rd (BitVec.ofNat 32 s.time.tb.toNat)
      (updEng n (fun e => { e with tbHigh := BitVec.ofNat 32 (s.time.tb.toNat / 2 ^ 32) }) (advanced a s))) ∧
    GivesReg (.tbrh a rd ra rb obj) a rd (eng s n).tbHigh s ∧
    GivesReg (.tknum a rd ra rb obj) a rd s.time.tick s ∧
    (¬ late → GivesReg (.twait a rd ra rb obj) a rd 0 s) ∧
    (late → exec (.twait a rd ra rb obj) s = .next (putReg n rd 0 (updEng n (fun e => { e with sleep := .twait x }) (advanced a s)))) ∧
    ((peRequest s n).isSome = true →
      exec (.waitg a rd ra rb obj) s = .next (putReg n rd 0 (updEng n (fun e => { e with sleep := .waitg }) (advanced a s)))) ∧
    ((peRequest s n).isSome = false → GivesReg (.waitg a rd ra rb obj) a rd 0 s) ∧
    GivesReg (.fcrd a rd ra rb obj) a rd (peForecast s n) s ∧
    GivesReg (.crcb a rd ra rb obj) a rd (BitVec.ofNat 32 (crc32cRun (greg s n rd).toNat [BitVec.ofNat 8 x.toNat])) s ∧
    GivesReg (.crcw a rd ra rb obj) a rd (BitVec.ofNat 32 (crc32cRun (greg s n rd).toNat (le32 x.toNat))) s ∧
    (a.data = .none → loadable x.toNat y.toNat = true → x.toNat < 0x80000000 →
      GivesReg (.crcm a rd ra rb obj) a rd (BitVec.ofNat 32 (crc32cRun (greg s n rd).toNat
        ((List.range y.toNat).map fun j => localByte s n (x.toNat + j)))) s) ∧
    (objNumber s n obj = k.val →
      GivesReg (.evrd a rd ra rb obj) a rd
        (BitVec.ofNat 32 ((Tbl.get s.ev.cnt k).toNat + 2 ^ 16 * (Tbl.get s.ev.seen k).toNat)) s ∧
      (postable.contains k.val = true → Completes (.evpost a rd ra rb obj) s fun t =>
        Counts k s t ∧ Only [.eng, .dbg] s t ∧ greg t n rd = 0) ∧
      (postable.contains k.val = false → GivesReg (.evpost a rd ra rb obj) a rd 13 s)))

/-- R190, R202, R203: the slot power primitives of the engine that holds SPWR act on their slot or group and give rd OK, or
REFUSED where its state does not allow the action; from any other engine they give NOTOWNER. SPST is open to every engine. -/
def Obligations.SlotPowerPrimitivesActForTheHolderOfSpwr : Prop :=
  ∀ (a : At) (rd ra rb : Fin 16) (obj : Byte) (p : Fin 24) (g : Fin 4) (s : State), Ready a s →
    let n := a.pe
    let v := (greg s n ra).toNat
    let holds := bit (portsReg s n) 29
    let acts := fun (c : Instr) (P : State → Prop) => Completes c s fun t => greg t n rd = 0 ∧ t.eng.mem = s.eng.mem ∧ P t
    (objNumber s n obj = p.val → holds = true →
      ((slot s p).st = .seating → waitCode s p = 0 → acts (.spon a rd ra rb obj) fun t => (slot t p).st = .ramp) ∧
      (¬ ((slot s p).st = .seating ∧ waitCode s p = 0) → GivesReg (.spon a rd ra rb obj) a rd 13 s) ∧
      ((slot s p).st.gateOn = true → acts (.spoff a rd ra rb obj) fun t => (slot t p).st.gateOn = false) ∧
      ((slot s p).st.gateOn = false → GivesReg (.spoff a rd ra rb obj) a rd 13 s) ∧
      acts (.spfrc a rd ra rb obj) (fun t => (slot t p).forceFw = true) ∧
      acts (.sprel a rd ra rb obj) (fun t => (slot t p).forceFw = false) ∧
      (1 ≤ v → v ≤ 40 → limitFits s p v = true → Sparse.wf regDefault s.regs.active = true →
        acts (.splim a rd ra rb obj) fun t => slotLimit t p = min v (max 1 (slotCeil s p))) ∧
      ((v = 0 ∨ 40 < v) → GivesReg (.splim a rd ra rb obj) a rd 13 s)) ∧
    (objNumber s n obj = g.val → holds = true →
      (v = 0 → acts (.spgrp a rd ra rb obj) fun t => (group t g).closed = true ∨ (group t g).closing = true) ∧
      (v = 1 → acts (.spgrp a rd ra rb obj) fun t => (group t g).closed = false ∧ (group t g).closing = false) ∧
      (1 < v → GivesReg (.spgrp a rd ra rb obj) a rd 13 s)) ∧
    (objNumber s n obj = p.val → GivesReg (.spst a rd ra rb obj) a rd (spwStat s p) s) ∧
    (objNumber s n obj = p.val → holds = false →
      GivesReg (.spon a rd ra rb obj) a rd 12 s ∧ GivesReg (.spoff a rd ra rb obj) a rd 12 s ∧
      GivesReg (.spfrc a rd ra rb obj) a rd 12 s ∧ GivesReg (.sprel a rd ra rb obj) a rd 12 s ∧
      GivesReg (.splim a rd ra rb obj) a rd 12 s)

/-- R65, R178, R181: the PORT primitives of the engine that serves a slot port. LSTAT gives the port's state to any engine;
LSET moves an enabled link between U0, U1 and U2; PFSET and PFCLR set and clear status and change bits of a half; PRST
starts a reset; PSIG starts resume signalling of a suspended port. From an engine that does not serve the port each action
gives NOTOWNER and does nothing. -/
def Obligations.PortPrimitivesActForTheServingEngine : Prop :=
  ∀ (a : At) (rd ra rb : Fin 16) (obj : Byte) (p : Fin 24) (s : State), Ready a s → objNumber s a.pe obj = p.val →
    let n := a.pe
    let e := slotEntry p
    let q := port s e
    let x := greg s n ra
    let serves := bit (portsReg s n) p.val
    let acts := fun (c : Instr) (P : PortS → Prop) => Completes c s fun t =>
      greg t n rd = 0 ∧ P (port t e) ∧ ∀ e', e' ≠ e → port t e' = port s e'
    GivesReg (.lstat a rd ra rb obj) a rd (slotState s p) s ∧
    (serves = true → q.st = .enabled → q.connSS = true → q.link = .u0 →
      (fld x 3 0 = 1 → acts (.lset a rd ra rb obj) fun r => r.link = .u1 ∧ r.st = .enabled) ∧
      (fld x 3 0 = 2 → acts (.lset a rd ra rb obj) fun r => r.link = .u2 ∧ r.st = .enabled)) ∧
    (serves = true → q.holding = true → bit (greg s n rb) 0 = true →
      acts (.pfset a rd ra rb obj) (fun r => r.hs.chg = q.hs.chg ||| BitVec.ofNat 16 (x.toNat / 65536) ∧
        r.hs.st = q.hs.st ||| (BitVec.ofNat 16 x.toNat &&& 0xFFF7) ∧ r.ss = q.ss) ∧
      acts (.pfclr a rd ra rb obj) (fun r => r.hs.chg = q.hs.chg &&& ~~~(BitVec.ofNat 16 (x.toNat / 65536)) ∧
        r.hs.st = q.hs.st &&& ~~~(BitVec.ofNat 16 x.toNat &&& 0xFFF7) ∧ r.ss = q.ss)) ∧
    (serves = true → q.st = .enabled → q.connHS = true → x.toNat = 0 →
      acts (.prst a rd ra rb obj) fun r => r.st = .reset ∧ r.resetKind = some 0 ∧ r.hs.has 4 = true) ∧
    (serves = true → q.st = .suspended → q.resuming = false → x.toNat = 0 →
      acts (.psig a rd ra rb obj) fun r => r.resuming = true ∧ r.st = .suspended) ∧
    (serves = false →
      GivesReg (.lset a rd ra rb obj) a rd 12 s ∧ GivesReg (.pfset a rd ra rb obj) a rd 12 s ∧
      GivesReg (.pfclr a rd ra rb obj) a rd 12 s ∧ GivesReg (.prst a rd ra rb obj) a rd 12 s ∧
      GivesReg (.psig a rd ra rb obj) a rd 12 s)

/-- R117, R176, R217, R229: FROUTE gives rd the route entry of a destination; FSEND refuses a body above 2,032 bytes with
TOOLONG and a frame class the sender may not use with REFUSED, and otherwise hands the frame to the fabric; PSEND puts a
packet into the egress queue of its crosspoint port; ODRD and ODWR copy a value that the ECM directory marks direct, give
PENDING where it does not, and EMPTY where it has no record. -/
def Obligations.FabricPacketAndDictionaryPrimitivesComplete : Prop :=
  ∀ (a : At) (rd ra rb : Fin 16) (obj : Byte) (s : State), Ready a s → a.data = .none →
    let n := a.pe
    let x := greg s n ra
    let y := greg s n rb
    let bytes := fun (ad len : Nat) => (List.range len).map fun j => localByte s n (ad + j)
    let plain := fun (len : Nat) => loadable x.toNat len = true ∧ x.toNat < 0x80000000
    GivesReg (.froute a rd ra rb obj) a rd (routeEntry s false (fld x 11 0)) s ∧
    (plain (fld y 31 20 * 8) → 254 < fld y 31 20 → GivesReg (.fsend a rd ra rb obj) a rd 4 s) ∧
    (plain (fld y 31 20 * 8) → fld y 31 20 ≤ 254 → tcPermitted (fld y 19 16) (fld y 13 12) = false →
      GivesReg (.fsend a rd ra rb obj) a rd 13 s) ∧
    (plain (fld y 31 20 * 8) → fld y 31 20 ≤ 254 → tcPermitted (fld y 19 16) (fld y 13 12) = true → fld y 13 12 ≠ 0 →
      fld y 11 0 ≠ 0xFFF → srcPermitted (fld y 19 16) ((bytes x.toNat (fld y 31 20 * 8)).headD 0).toNat s.fab.addr.toNat = true →
      Completes (.fsend a rd ra rb obj) s fun t =>
        RegIs t n rd (BitVec.ofNat 32
          (frameSend (fld y 19 16) (fld y 13 12) (fld y 11 0) (33 + n.val) (bytes x.toNat (fld y 31 20 * 8)) false (advanced a s)).1) ∧
        Only [.eng, .dbg, .fab, .qm, .arb, .xb] s t) ∧
    (plain (fld y 15 0) → fld y 21 16 < 32 → Completes (.psend a rd ra rb obj) s fun t =>
      RegIs t n rd (BitVec.ofNat 32 (qEnqueue (Fin.ofNat 64 (fld y 21 16)) (33 + n.val) true true 0 (bytes x.toNat (fld y 15 0)) false (advanced a s)).1) ∧
      Only [.eng, .dbg, .qm, .arb] s t) ∧
    (dirFind s x.toNat = none →
      GivesReg (.odrd a rd ra rb obj) a rd 1 s ∧ GivesReg (.odwr a rd ra rb obj) a rd 1 s) ∧
    (∀ r, dirFind s x.toNat = some r →
      (r.flags.testBit 0 = false → GivesReg (.odrd a rd ra rb obj) a rd 14 s) ∧
      (r.flags.testBit 1 = false → GivesReg (.odwr a rd ra rb obj) a rd 14 s) ∧
      (Memory.wf s.eng.mem = true → r.flags.testBit 0 = true → 0x20000 ≤ r.addr → r.addr + r.len ≤ 0x60000 →
        0x20000 ≤ y.toNat → y.toNat + r.len ≤ 0x60000 → Completes (.odrd a rd ra rb obj) s fun t =>
          RegIs t n rd (BitVec.ofNat 32 (2 ^ 16 * r.len)) ∧
          ∀ g, memByte t g = if 0x200000 + (y.toNat - 0x20000) ≤ g ∧ g < 0x200000 + (y.toNat - 0x20000) + r.len then
            memByte s (0x200000 + (r.addr - 0x20000) + (g - (0x200000 + (y.toNat - 0x20000)))) else memByte s g) ∧
      (Memory.wf s.eng.mem = true → r.flags.testBit 1 = true → 0x20000 ≤ r.addr → r.addr + r.len ≤ 0x60000 →
        0x20000 ≤ y.toNat → y.toNat + r.len ≤ 0x60000 → Completes (.odwr a rd ra rb obj) s fun t =>
          RegIs t n rd (BitVec.ofNat 32 (2 ^ 16 * r.len)) ∧
          ∀ g, memByte t g = if 0x200000 + (r.addr - 0x20000) ≤ g ∧ g < 0x200000 + (r.addr - 0x20000) + r.len then
            memByte s (0x200000 + (y.toNat - 0x20000) + (g - (0x200000 + (r.addr - 0x20000)))) else memByte s g))

/-- R123, R128, R176, R426: an engine's enqueue to an enabled CREDIT queue that has credit and no item in progress starts an
item; one with EOP commits it. ENQ stores a whole item, ENQF starts one, ENQM adds its bytes to the one in progress and ENQL
ends it: the item's header carries its length, and SOP, EOP and CHSEQ of the enqueues. Nothing but the engine's own registers,
the queue and the arbitration of its egress changes. -/
def Obligations.EnginesEnqueueItems : Prop :=
  ∀ (a : At) (rd ra rb : Fin 16) (obj : Byte) (q : Fin 64) (p : Fin 2) (s : State), Ready a s → a.data = .none →
    let n := a.pe
    let v := greg s n rb
    let ad := (greg s n ra).toNat
    let len := fld v 15 0
    let x := queue s q
    let k := Tbl.get x.banks p
    let enq := fun (c : Instr) (P : State → Prop) => Completes c s fun t => greg t n rd = 0 ∧ P t ∧
      Only [.eng, .dbg, .qm, .arb] s t
    objNumber s n obj = q.val → loadable ad len = true → ad < 0x80000000 → qEn s q = true → qDropMode s q = false →
    qMarkMode s q ≠ 2 → consDrained x = false → x.prod = some p → x.cons ≠ p → len ≤ qItemMax s q →
      (x.cur = none → k.fill = k.done → qCredit s q = true →
        enq (.enq a rd ra rb obj) (fun t =>
          let y := queue t q
          let w := pmGet t ((qBase s q p + k.done) / 8)
          y.cur = none ∧ (Tbl.get y.banks p).done = k.done + 8 + up8 len ∧ (Tbl.get y.banks p).items = k.items + 1 ∧
          hLen w.data = len ∧ hType w.data = 0 ∧ hSop w.data = true ∧ hEop w.data = true ∧ hChseq w.data = BitVec.ofNat 16 (fld v 31 16)) ∧
        enq (.enqf a rd ra rb obj) (fun t =>
          let y := queue t q
          (Tbl.get y.banks p).done = k.done ∧ (Tbl.get y.banks p).items = k.items ∧
          ∃ c, y.cur = some c ∧ c.prod = 33 + n.val ∧ c.bank = p ∧ c.off = k.done ∧ c.len = len ∧ c.sop = true)) ∧
      (∀ c, x.cur = some c → c.prod = 33 + n.val → c.bank = p → c.off = k.done → c.len + len ≤ qItemMax s q →
        k.done + up8 (c.len + len) + 32 ≤ qSize s q p →
        enq (.enqm a rd ra rb obj) (fun t =>
          (Tbl.get (queue t q).banks p).done = k.done ∧ ∃ d, (queue t q).cur = some d ∧ d.len = c.len + len ∧ d.off = c.off ∧
            d.sop = c.sop ∧ d.chseq = c.chseq) ∧
        enq (.enql a rd ra rb obj) (fun t =>
          let y := queue t q
          let w := pmGet t ((qBase s q p + k.done) / 8)
          y.cur = none ∧ (Tbl.get y.banks p).done = k.done + 8 + up8 (c.len + len) ∧ (Tbl.get y.banks p).items = k.items + 1 ∧
          hLen w.data = c.len + len ∧ hType w.data = 0 ∧ hSop w.data = c.sop ∧ hEop w.data = true ∧ hChseq w.data = c.chseq))

/-- R110, R119, R127, R176: DEQ of a whole committed item from an enabled queue whose consumer has no swap due stores the item's
data bytes in order at ra and gives rd its status, SOP, EOP and length; of a queue with nothing to read, EMPTY. PEEK stores the
header alone and consumes nothing; QSTAT gives the queue's status register. -/
def Obligations.EnginesDequeueItems : Prop :=
  ∀ (a : At) (rd ra rb : Fin 16) (obj : Byte) (q : Fin 64) (h : PWord) (s : State), Ready a s → a.data = .none →
    objNumber s a.pe obj = q.val → qEn s q = true →
    let n := a.pe
    let x := queue s q
    let ad := (greg s n ra).toNat
    let data := qBase s q x.cons + x.rpos + 8
    let len := hLen h.data
    GivesReg (.qstat a rd ra rb obj) a rd (qStat s q) s ∧
    (x.endAbort = false → consDrained x = true → x.cur = none → x.after = false → (∀ p, x.prod = some p → (Tbl.get x.banks p).done = 0) →
      x.rpos = (Tbl.get x.banks x.cons).done →
      GivesReg (.deq a rd ra rb obj) a rd 1 s ∧ GivesReg (.peek a rd ra rb obj) a rd 1 s) ∧
    (consDrained x = false → x.old = none → x.rpos < (Tbl.get x.banks x.cons).done →
      pmGet s ((qBase s q x.cons + x.rpos) / 8) = h → h.bad = false →
      (Memory.wf s.eng.mem = true → 0x20000 ≤ ad → ad + 8 ≤ 0x60000 → Completes (.peek a rd ra rb obj) s fun t =>
        RegIs t n rd (if hPoison h.data then 11 else 0) ∧ t.qm = s.qm ∧ Only [.eng, .dbg] s t ∧
        ∀ g, memByte t g = if 0x200000 + (ad - 0x20000) ≤ g ∧ g < 0x200000 + (ad - 0x20000) + 8 then
          byteOf h.data (g - (0x200000 + (ad - 0x20000))) else memByte s g) ∧
      (Memory.wf s.eng.mem = true → x.endAbort = false → hType h.data = 0 → x.mark = none → x.mid = none → hPoison h.data = false →
        (∀ w, data / 8 ≤ w → w ≤ (data + len - 1) / 8 → (pmGet s w).bad = false) → 0 < len → len ≤ (greg s n rb).toNat →
        0x20000 ≤ ad → ad + len ≤ 0x60000 → Completes (.deq a rd ra rb obj) s fun t =>
        RegIs t n rd (BitVec.ofNat 32 (16 * b2n (hSop h.data) + 32 * b2n (hEop h.data) + 2 ^ 16 * len)) ∧
        Only [.eng, .dbg, .qm] s t ∧
        ∀ g, memByte t g = if 0x200000 + (ad - 0x20000) ≤ g ∧ g < 0x200000 + (ad - 0x20000) + len then
          let k := data + (g - (0x200000 + (ad - 0x20000)))
          byteOf (pmGet s (k / 8)).data (k % 8) else memByte s g))

/-- R119, R120: the banks of an enabled queue swap when the consumer has read its bank to its end and the producer's bank holds
a committed item: the producer's bank is read from its first item, and the former consumer's bank is empty and written from
its start, unless a HOLD mark lies in it. BANK_SWAP at any other time changes nothing. R130: FLUSH of an enabled queue, by
register or by an engine, empties both banks, clears the mark, releases a HELD bank and lets the producer go on in PING and
the consumer in PONG; the counters keep their values. A flush of a disabled queue leaves the queues as they are. -/
def Obligations.BanksSwapAndFlush : Prop :=
  (∀ (q : Fin 64) (p : Fin 2) (s : State),
    let x := queue s q
    ((qEn s q = false ∨ consDrained x = false) → exec (.bankSwap q) s = .next s.fresh) ∧
    (qEn s q = true → consDrained x = true → x.after = false → x.prod = some p → x.cons ≠ p → (Tbl.get x.banks p).done > 0 →
      (∀ m, x.mark = some m → m.1 ≠ x.cons) → Completes (.bankSwap q) s fun t =>
        let y := queue t q
        y.cons = p ∧ y.rpos = 0 ∧ y.prod = some x.cons ∧ (Tbl.get y.banks x.cons).fill = 0 ∧ (Tbl.get y.banks x.cons).items = 0 ∧
        (Tbl.get y.banks p).items = (Tbl.get x.banks p).items ∧ Only [.qm] s t) ∧
    (qEn s q = true → qMarkMode s q = 1 → consDrained x = true → x.after = false → x.prod = some p → x.cons ≠ p →
      (Tbl.get x.banks p).done > 0 → (∃ off, x.mark = some (x.cons, off)) → Completes (.bankSwap q) s fun t =>
        let y := queue t q
        y.cons = p ∧ y.rpos = 0 ∧ y.prod = none ∧ y.held = some x.cons ∧ Only [.qm] s t)) ∧
  (∀ (b : QBy) (q : Fin 64) (s : State), QIssued b q s →
    let x := queue s q
    (qEn s q = true → Completes (.flush b) s fun t =>
      let y := queue t q
      y.banks = Tbl.fill 2 bankEmpty ∧ y.prod = some 0 ∧ y.cons = 1 ∧ y.rpos = 0 ∧ y.cur = none ∧ y.mark = none ∧ y.markLost = false ∧
      y.held = none ∧ y.mid = none ∧ y.old = none ∧ y.wm = false ∧ y.wmCross = x.wmCross ∧ y.drops = x.drops ∧ y.hdrErr = x.hdrErr ∧
      (∀ k, k ≠ q → k ≠ 57 → queue t k = queue s k) ∧ Only [.eng, .dbg, .regs, .qm, .xb, .arb] s t) ∧
    (qEn s q = false → Completes (.flush b) s fun t => Only [.eng, .dbg, .regs] s t))

/-- R131, R132, R133, R139: MARK sets the mark at the read position, UNMARK clears it and releases a HELD bank, REWIND returns to
it, by register or by an engine, while no swap is due. REWIND into the HELD bank makes it the consumer's again; in mid-item it is
refused with BUSY, without a mark with NOMARK or MARKLOST, and moves nothing; with MARKMODE 0 MARK sets nothing. -/
def Obligations.MarksMoveAndRewind : Prop :=
  ∀ (b : QBy) (q : Fin 64) (s : State), QIssued b q s → qEn s q = true → consDrained (queue s q) = false →
    let x := queue s q
    let does := fun (c : Instr) (code : Nat) (P : QueueS → Prop) =>
      Completes c s fun t => QTold b q code t ∧ P (queue t q) ∧ Only [.eng, .dbg, .regs, .qm] s t
    let moves := fun (y : QueueS) => (y.cons, y.rpos, y.old, y.prod, y.held) ≠ (x.cons, x.rpos, x.old, x.prod, x.held)
    (qMarkMode s q ≠ 0 → does (.mark b) 0 fun y => y.mark = some (readPos x) ∧ y.markLost = false ∧ y.rpos = x.rpos ∧ y.banks = x.banks ∨
      ∃ h, x.held = some h ∧ y.mark = some (readPos x) ∧ y.prod = some h ∧ y.held = none) ∧
    (qMarkMode s q = 0 → does (.mark b) 6 fun y => y.mark = x.mark ∧ ¬ moves y) ∧
    does (.unmark b) 0 (fun y => y.mark = none ∧ y.markLost = false ∧ y.held = none ∧ y.rpos = x.rpos ∧
      ∀ h, x.held = some h → y.prod = some h ∧ (Tbl.get y.banks h).fill = 0) ∧
    (x.mid.isSome = true → does (.rewind b) 8 fun y => y.mark = x.mark ∧ ¬ moves y) ∧
    (x.mid = none → x.mark = none → does (.rewind b) (if x.markLost then 7 else 6) fun y => ¬ moves y) ∧
    (∀ off, x.mid = none → x.mark = some (x.cons, off) →
      does (.rewind b) 0 fun y => y.rpos = off ∧ y.cons = x.cons ∧ y.old = none ∧ y.mark = x.mark) ∧
    (∀ h off, x.mid = none → x.mark = some (h, off) → h ≠ x.cons → x.held = some h →
      does (.rewind b) 0 fun y => y.cons = h ∧ y.rpos = off ∧ y.held = none ∧ y.mark = x.mark) ∧
    (∀ h off, x.mid = none → x.mark = some (h, off) → h ≠ x.cons → x.held = none →
      does (.rewind b) 0 fun y => y.old = some (off, x.leftEnd) ∧ y.cons = x.cons ∧ y.rpos = x.rpos ∧ y.mark = x.mark)

/-- R110, R111, R112: a window read gives the addressed half of a storage word with good parity and moves no queue; a window
write replaces that half alone, and is refused with status 5 while WINRO is set or in a bank of an enabled queue. SCRUB_READ
goes to the next block of its bank and changes no word but those an upset has struck. R137: a write to WM_CROSS of an
enabled or disabled queue takes the written value off it, stopping at 0, and changes nothing else of any queue. -/
def Obligations.PacketMemoryWindowScrubAndWmCrossWork : Prop :=
  (∀ (w : Who) (addr val : Word) (b : Fin 16) (upset : BitVec 4) (s : State),
    let off := addr.toNat - 0x1000000
    let word := pmGet s (off / 8)
    0x1000000 ≤ addr.toNat → addr.toNat < 0x1400000 → addr.toNat % 4 = 0 → pathOpen s w.m = true → bankOn s (off / 262144) = true →
    (word.bad = false → Answers (.windowRead w addr) w (le32 (wordHalf word.data (off % 8 ≥ 4)).toNat) s fun t => Only [] s t) ∧
    (word.bad = true → Completes (.windowRead w addr) s fun t => t.reply = answerOf w 5 [] ∧ Only [.qm, .mf] s t ∧
      (∀ k, pmGet t k = pmGet s k) ∧ t.qm.q = s.qm.q ∧ t.qm.parAddr = off / 8 * 8) ∧
    (leaseLacks s w addr.toNat = false → s.dbg.stepping = 0 → Sparse.wf pwZero s.qm.mem = true →
      (bit (regv s 0x34) 1 = false → inEnabledQueue s off = false → Answers (.windowWrite w addr val) w [] s fun t =>
        Only [.regs, .qm] s t ∧ t.qm.q = s.qm.q ∧ ∀ k, pmGet t k =
          if k = off / 8 then { data := setHalf word.data (off % 8 ≥ 4) val, bad := word.bad } else pmGet s k) ∧
      (bit (regv s 0x34) 1 = true ∨ inEnabledQueue s off = true → Refuses (.windowWrite w addr val) w 5 [.regs, .mf] s)) ∧
    (bit (regv s 0x31008) 0 = true → bankOn s b.val = true → Sparse.wf pwZero s.qm.mem = true →
      let pos := Tbl.get s.qm.scrubPos b % 8192
      Completes (.scrubRead b upset) s fun t => Tbl.get t.qm.scrubPos b = (pos + 1) % 8192 ∧ Only [.qm] s t ∧ t.qm.q = s.qm.q ∧
        ∀ k, (pmGet t k).data = (pmGet s k).data ∧ ((pmGet t k).bad = (pmGet s k).bad ∨
          ∃ i : Fin 4, k = b.val * 32768 + pos * 4 + i.val ∧ upset.getLsbD i.val = true))) ∧
  (∀ (w : Who) (q : Fin 64) (n : Half) (s : State), mayWrite s w (0x30024 + 0x40 * q.val) = true → s.dbg.stepping = 0 →
    Answers (.wmCrossWrite w q n) w [] s fun t =>
      queue t q = { queue s q with wmCross := (queue s q).wmCross - n.toNat % 256 } ∧ (∀ k, k ≠ q → queue t k = queue s k) ∧
      Only [.regs, .qm] s t)

/-- R160, R162, R168, R178: an idle engine starts its tick program at 0x40 or the handler of its lowest source at 0x80, with the
run in g1; a signature that matches starts the restart code at 0, a first mismatch asks for a reload and a second counts EV10; a
timer's expiry makes it pending and stops or reloads it; TWAIT and WAITG end with the engine awake. -/
def Obligations.EnginesStartTheirRuns : Prop :=
  ∀ (n : Fin 8) (k : Fin 16) (s : State),
    let e := eng s n
    let m := Tbl.get s.eng.tm k
    let becomes := fun (c : Instr) (P : EngS → Prop) => Completes c s fun t =>
      P (eng t n) ∧ t.eng.mem = s.eng.mem ∧ (∀ j, j ≠ n → eng t j = eng s j) ∧ Only [.eng] s t
    (e.st = .idle → domainOn s (engDomain n) = true → e.entry = true → becomes (.engineRunStart n) fun x =>
      x.st = .tick ∧ x.pc = 0x40 ∧ x.entry = false ∧ x.late = e.entryLate ∧ x.tickNo = e.entryNo ∧ x.overrun = false ∧
      ∀ r, r ≠ 1 → Tbl.get x.regs r = Tbl.get e.regs r) ∧
    (∀ src, e.st = .idle → domainOn s (engDomain n) = true → e.entry = false → handlerSource s n = some src →
      becomes (.engineRunStart n) fun x => x.st = .handler ∧ x.pc = 0x80 ∧
        Tbl.get x.regs 1 = BitVec.ofNat 32 (src.2 % 256 + 256 * (src.1 % 4)) ∧ ∀ r, r ≠ 1 → Tbl.get x.regs r = Tbl.get e.regs r) ∧
    (ownsTimer s n k = true → m.pend = true → (∀ j, j < k → ¬ (ownsTimer s n j = true ∧ (Tbl.get s.eng.tm j).pend = true)) →
      handlerSource s n = some (0, k.val)) ∧
    (e.st = .check → domainOn s (engDomain n) = true → s.dbg.halt.getLsbD n.val = false →
      (iramSig s n = e.isig → becomes (.iramCheckComplete n) fun x => x.st = .init ∧ x.pc = 0 ∧ x.wd = wdTicks s n ∧
        Tbl.get x.regs 1 = if e.domainWake then 0 else BitVec.ofNat 32 e.lastCause) ∧
      (iramSig s n ≠ e.isig → e.sigFails = 0 → becomes (.iramCheckComplete n) fun x => x.st = .reset ∧ x.reload = true) ∧
      (iramSig s n ≠ e.isig → e.sigFails ≠ 0 → Completes (.iramCheckComplete n) s fun t =>
        (eng t n).st = .reset ∧ (eng t n).reload = e.reload ∧ Counts 10 s t ∧ Only [.eng, .qm] s t)) ∧
    (m.run = true → m.periodic = false → Completes (.timerExpiry k) s fun t =>
      Tbl.get t.eng.tm k = { m with run := false, pend := true } ∧ (∀ j, j ≠ k → Tbl.get t.eng.tm j = Tbl.get s.eng.tm j) ∧
      t.eng.pe = s.eng.pe ∧ Only [.eng] s t) ∧
    (m.run = true → m.periodic = true → Completes (.timerExpiry k) s fun t =>
      Tbl.get t.eng.tm k = { m with pend := true, due := m.due + BitVec.ofNat 64 (m.period * 1000) } ∧
      (∀ j, j ≠ k → Tbl.get t.eng.tm j = Tbl.get s.eng.tm j) ∧ t.eng.pe = s.eng.pe ∧ Only [.eng] s t) ∧
    (∀ x, e.sleep = .twait x → becomes (.twaitWake n) fun y => y = { e with sleep := .awake }) ∧
    (e.sleep = .waitg → becomes (.waitgWake n) fun y => y = { e with sleep := .awake })

/-- R162, R165, R166, R167: an engine reset leaves the registers 0, the memories as they are, the cause recorded, and counts
EV5. A watchdog at 0, a third overrun and a write of RST or HOLD reset a running engine; HOLD set keeps it in RESET, HOLD
cleared starts the signature check, an overrun before the third counts EV4. R168, R169, R185: a reload ends with HOLD 0 and
the signature check; 100 ms after the loss of an engine its slot ports enter DISCONNECTED, keep their PORT_POWER bits, and
show C_PORT_CONNECTION where a connection had been reported. -/
def Obligations.EngineResetsReloadsAndLostPorts : Prop :=
  (∀ (w : Who) (n : Fin 8) (s : State),
    let e := eng s n
    let runs := e.st = .init ∨ e.st = .idle ∨ e.st = .tick ∨ e.st = .handler
    let resets := fun (c : Instr) (cause : Nat) => Completes c s fun t =>
      ((eng t n).st = .reset ∨ (eng t n).st = .check) ∧ (eng t n).lastCause = cause ∧ (eng t n).regs = Tbl.fill 16 0 ∧
      (eng t n).resets = min 255 (e.resets + 1) ∧ (eng t n).sleep = .awake ∧ (eng t n).entry = false ∧ t.eng.mem = s.eng.mem ∧ Counts 5 s t
    (runs → wdTicks s n ≠ 0 → e.wd = 0 → resets (.watchdogExpiry n) 2) ∧
    (e.st = .tick → e.overrun = false → 2 ≤ e.ovrSeq → resets (.tickOverrun n) 1) ∧
    (e.st = .tick → e.overrun = false → e.ovrSeq < 2 → Completes (.tickOverrun n) s fun t =>
      (eng t n).ovrSeq = e.ovrSeq + 1 ∧ (eng t n).st = .tick ∧ (eng t n).cntOvr = min 0xFFFF (e.cntOvr + 1) ∧
      (eng t n).regs = e.regs ∧ (eng t n).pc = e.pc ∧ Counts 4 s t ∧ Only [.eng] s t) ∧
    (s.dbg.stepping = 0 → mayWrite s w (0x800 + 0x20 * n.val) = true → Sparse.wf regDefault s.regs.active = true →
      (runs → resets (.holdSet w n) 5 ∧ resets (.engineRst w n false) 5) ∧
      (e.st = .check → Completes (.holdSet w n) s fun t => (eng t n).st = .reset ∧ (eng t n).resets = e.resets ∧
        t.reply = .done [] ∧ engHold t n = true ∧ Only [.eng, .regs] s t) ∧
      (e.st = .reset → e.reload = false → domainOn s (engDomain n) = true → engHold s n = true →
        Completes (.holdClear w n) s fun t => (eng t n).st = .check ∧ engHold t n = false ∧ (eng t n).resets = e.resets ∧
          t.reply = .done [] ∧ Only [.eng, .regs] s t)) ∧
    (s.dbg.stepping = 0 → mayOd s w 0x5845 (n.val + 1) [1] = true → runs → resets (.engineRst w n true) 5)) ∧
  (∀ (n : Fin 8) (e : Fin 40) (s : State),
    (Sparse.wf regDefault s.regs.active = true → (eng s n).reload = true → (eng s n).st = .reset →
      domainOn s (engDomain n) = true → Completes (.engineReloadComplete n) s fun t =>
        (eng t n).reload = false ∧ engHold t n = false ∧ (eng t n).st = .check ∧ Only [.eng, .regs] s t) ∧
    ((eng s n).portHold = true → ¬ ((eng s n).st = .halted ∧ s.dbg.phold.getLsbD n.val = true) →
      Completes (.portHoldExpired n) s fun t => (eng t n).portHold = false ∧ (eng t n).portsLost = true ∧ Only [.eng, .usb] s t ∧
        (servedBy s n e = true → (port s e).st ≠ .disconnected →
          (port t e).st = .disconnected ∧ (port t e).ss.st &&& pPowerSS = (port s e).ss.st &&& pPowerSS ∧
          (port t e).hs.st &&& pPowerHS = (port s e).hs.st &&& pPowerHS ∧ (port t e).ss.st &&& pConn = 0 ∧
          ((port s e).ss.st &&& pConn ≠ 0 → (port t e).ss.chg &&& cConn = cConn)) ∧
        (servedBy s n e = false → port t e = port s e)))

/-- R14, R16: at a boundary of a running block that no reset waits for, TB is at the boundary, the tick number increments, and
the next boundary lies 125,000 ns on; while the core is not released there is no tick. R14, R19, R236: a forward step that
is due is taken whole, and the next boundary is the first multiple of 125,000 ns at least 125 µs after it; the pulse of
TIMEREF_OUT is driven while the feature holds its pin. -/
def Obligations.TheTickAndTheStepsOfTime : Prop :=
  (∀ s : State,
    (s.start.stage ≠ .run → exec .tickBoundary s = .next s.fresh) ∧
    (s.start.stage = .run → s.start.rstCmd = .none → s.od.pend = [] → Completes .tickBoundary s fun t =>
      t.time.tick = s.time.tick + 1 ∧ t.time.tb = s.time.nextBoundary ∧ t.time.nextBoundary = s.time.nextBoundary + 125000)) ∧
  (∀ s : State, s.start.stage = .run →
    (s.fab.step ≠ 0 → s.time.tb.toNat + s.fab.step + 250000 < 2 ^ 64 → Completes .tbStep s fun t =>
      t.time.tb.toNat = s.time.tb.toNat + s.fab.step ∧ t.time.nextBoundary.toNat % 125000 = 0 ∧
      t.time.tb.toNat + 125000 ≤ t.time.nextBoundary.toNat ∧ t.time.nextBoundary.toNat < t.time.tb.toNat + 250000 ∧
      t.time.tick = s.time.tick ∧ t.fab.step = 0 ∧ Only [.time, .fab, .qm] s t) ∧
    (s.fab.step = 0 → exec .tbStep s = .next s.fresh) ∧
    (pinHeld s 2 = true → exec .timerefOutPulse s = .next (s.fresh.emit [.timerefOut])))

/-- R315, R316, R317: an apply copies every pending shadow of its groups to its active value and clears its pending state, and
leaves every other register and shadow as it is; a packet-memory part that the carve refuses keeps its active values, stays
pending and counts EV44. ARM and DISARM of SYS_APPLY_TICK set and clear bits of the armed set. (The clause on active values is
about parts taken as written, while no engine is lost.) -/
def Obligations.AppliesTakeThePendingShadows : Prop :=
  ∀ (w : Who) (mask : BitVec 16) (s : State), s.dbg.stepping = 0 → Sparse.wf regDefault s.regs.active = true →
    let l := takenBy s mask
    (mayWrite s w 0x20 = true → (∀ e, (port s e).holding = false) → (∀ n, (eng s n).portHold = false) →
      (l.map (·.addr)).Nodup →
      ((∀ h ∈ l, partOf h.addr = .plain ∧ ¬ (0x90000 ≤ h.addr ∧ h.addr < 0xA0000)) →
        Answers (.apply w mask) w [] s fun t => (∀ h ∈ l, regv t h.addr = h.val) ∧
          (∀ a, (∀ h ∈ l, h.addr ≠ a) → regv t a = regv s a) ∧
          t.regs.shadows = s.regs.shadows.filter fun h => !mask.getLsbD (groupNo s h.addr)) ∧
      (∀ code row isEpb, l ≠ [] → (∀ h ∈ l, partOf h.addr = .qm) → carveCheck s (loadShadows l s) false = some (code, row, isEpb) →
        Answers (.apply w mask) w [] s fun t => (∀ a, regv t a = regv s a) ∧ t.qm.carveOk = false ∧ t.qm.carveErr = code ∧
          t.qm.carveRow = row ∧ Counts 44 s t ∧ t.qm.q = s.qm.q ∧ ∀ h ∈ l, { h with refused := true } ∈ t.regs.shadows)) ∧
    (mayWrite s w 0x24 = true →
      (Answers (.applyTickArm w mask) w [] s fun t => t.regs.armed = s.regs.armed ||| mask ∧ t.regs.active = s.regs.active ∧
        t.regs.shadows = s.regs.shadows ∧ Only [.regs] s t) ∧
      (Answers (.applyTickDisarm w mask) w [] s fun t => t.regs.armed = s.regs.armed &&& ~~~mask ∧ t.regs.active = s.regs.active ∧
        t.regs.shadows = s.regs.shadows ∧ Only [.regs] s t))

/-- R50, R169: SetPortFeature and ClearPortFeature(PORT_POWER) set and clear the bit of their half alone; a port left unpowered
on both halves is DISCONNECTED; while the port's engine is lost the request waits for it. R49, R52, R65: what each port
feature request does to the port it names, whose engine runs: resets start, links are asked into U3 and back, timeouts,
masks and test modes are kept, a change bit is cleared; no other port changes. A port number beyond the hub's gets a Request
Error, the internal port completes with no effect. -/
def Obligations.PortFeatureRequestsActOnTheirPortAndItsPower : Prop :=
  (∀ (lh : Fin 6) (hs : Bool) (n : Nat) (e : Fin 40) (s : State), HubServes s lh → portTarget s lh hs n = .entry e →
    let q := port s e
    let reach := [Comp.usb, .qm, .arb, .eng, .pow, .fab, .xpt]
    (q.holding = false →
      Completes (.setPortPower lh hs n) s (fun t => t.reply = .done [] ∧ (port t e).powerOf hs = true ∧
        (port t e).powerOf (!hs) = q.powerOf (!hs) ∧ Only reach s t) ∧
      Completes (.clearPortPower lh hs n) s (fun t => t.reply = .done [] ∧ (port t e).powerOf hs = false ∧
        (port t e).powerOf (!hs) = q.powerOf (!hs) ∧ (q.powerOf (!hs) = false → (port t e).st = .disconnected) ∧ Only reach s t)) ∧
    (q.holding = true →
      exec (.setPortPower lh hs n) s = .next ((updPort s.fresh e fun q => { q with reqs := q.reqs ++ [.power hs true] }).answer (.done [])) ∧
      exec (.clearPortPower lh hs n) s = .next ((updPort s.fresh e fun q => { q with reqs := q.reqs ++ [.power hs false] }).answer (.done [])))) ∧
  (∀ (lh : Fin 6) (hs : Bool) (n : Nat) (e : Fin 40) (s : State), HubServes s lh →
    let q := port s e
    let acts := fun (c : Instr) (P : PortS → Prop) => Completes c s fun t =>
      t.reply = .done [] ∧ P (port t e) ∧ (∀ k, k ≠ e → port t k = port s k) ∧ Only [.usb, .qm, .arb, .fab, .xpt] s t
    (portTarget s lh hs n = .bad → exec (.setPortReset lh hs n) s = .next (s.fresh.answer .requestError)) ∧
    (portTarget s lh hs n = .internal → exec (.setPortReset lh hs n) s = .next (s.fresh.answer (.done []))) ∧
    (portTarget s lh hs n = .entry e → ∀ b : Fin 8, acts (.clearPortChange lh hs n b) fun r =>
      r = q.onHalf hs fun h => { h with chg := h.chg &&& ~~~(BitVec.ofNat 16 (2 ^ b.val)) }) ∧
    (portTarget s lh false n = .entry e → q.holding = false →
      (e.val < 24 → q.st = .enabled → q.connSS = true → acts (.setPortReset lh false n) fun r =>
        r.st = .reset ∧ r.resetKind = some 1 ∧ r.ss.has 4 = true ∧ r.hs = q.hs) ∧
      (e.val < 24 → q.st = .enabled → q.connSS = true → q.babbler = false → acts (.setBhPortReset lh n) fun r =>
        r.st = .reset ∧ r.resetKind = some 2 ∧ r.ss.has 4 = true ∧ r.hs = q.hs) ∧
      (q.st = .enabled → q.connSS = true → acts (.setPortLinkState lh n 3) fun r => r = { q with selSus := true }) ∧
      (q.st = .suspended → q.connSS = true → acts (.setPortLinkState lh n 0) fun r => r = { q with resuming := true }) ∧
      (∀ t : Byte, acts (.setPortU1Timeout lh n t) (fun r => r = { q with u1to := t }) ∧
        acts (.setPortU2Timeout lh n t) (fun r => r = { q with u2to := t }) ∧
        acts (.setPortRemoteWakeMask lh n t) (fun r => r = { q with rwMask := t })) ∧
      ∀ on : Bool, acts (.setForceLinkpmAccept lh n on) fun r => r = { q with forceLpm := on }) ∧
    (portTarget s lh true n = .entry e → q.holding = false →
      (e.val < 24 → (q.st = .disabled ∨ q.st = .enabled) → q.connHS = true → q.babbler = false → acts (.setPortReset lh true n) fun r =>
        r.st = .reset ∧ r.resetKind = some 0 ∧ r.hs.has 4 = true ∧ r.hs.has 1 = false ∧ r.ss = q.ss) ∧
      (q.st = .enabled → q.connHS = true → acts (.setPortSuspend lh n) (fun r => r = { q with selSus := true }) ∧
        acts (.clearPortEnable lh n) (fun r => r.st = .disabled ∧ r.hs.has 1 = false ∧ r.hs.chg = q.hs.chg ∧ r.ss = q.ss)) ∧
      (q.st = .suspended → q.connHS = true → acts (.clearPortSuspend lh n) fun r => r = { q with resuming := true }) ∧
      ∀ m : Fin 5, acts (.setPortTest lh n m) fun r => r.test = m.val + 1 ∧ r.hs.has 11 = true ∧ r.st = q.st))

/-- R46, R49, R51, R56: the answers of a hub half: hub status, port status with over-current and link state, error count, its hub
descriptor, the change bitmap or a hold-off; GET_TT_STATE, STOP_TT and SET_DESCRIPTOR get a Request Error; the translator
requests act on the translator of their port. While the engine of HUBS restarts every half is held off; while no engine holds
HUBS a control request gets a Request Error. -/
def Obligations.HubHalvesAnswer : Prop :=
  ∀ (lh : Fin 6) (hs : Bool) (n : Nat) (e : Fin 40) (b : Fin 4) (s : State),
    let gives := fun (c : Instr) (r : Reply) => exec c s = .next (s.fresh.answer r)
    let q := port s e
    (HubServes s lh →
      gives (.getHubStatus lh hs) (.done (le16 (if vinMin s < 1800 then 1 else 0) ++
        le16 ((if (if hs then (hub s lh).cLocalHS else (hub s lh).cLocalSS) then 1 else 0) +
          (if (if hs then (hub s lh).cOverHS else (hub s lh).cOverSS) then 2 else 0)))) ∧
      gives (.getHubDescriptor lh true) (.done ([BitVec.ofNat 8 (7 + 2 * hsBytes s lh), 0x29, BitVec.ofNat 8 (nSS s lh + 1), 0x0D, 0, 13, 0] ++
        leBytes ((if hubTier lh = 1 ∧ tiers s (hubUp lh).val = 2 then 2 ^ nSS s lh else 0) + 2 ^ (nSS s lh + 1)) (hsBytes s lh) ++
        List.replicate (hsBytes s lh) 0xFF)) ∧
      (hubTier lh = 1 → tiers s (hubUp lh).val ≠ 2 →
        gives (.getHubDescriptor lh false) (.done [12, 0x2A, BitVec.ofNat 8 (nSS s lh), 0x09, 0, 13, 0, 1, 220, 0, 0, 0])) ∧
      gives (.getTtState lh n) .requestError ∧ gives (.stopTt lh n) .requestError ∧ gives (.setDescriptor lh hs) .requestError ∧
      (changeBitmap s lh hs ≠ 0 →
        gives (.statusChangePoll lh hs) (.done (leBytes (changeBitmap s lh hs) (if hs then hsBytes s lh else 2)))) ∧
      (changeBitmap s lh true = 0 → gives (.statusChangePoll lh true) .nak) ∧
      (changeBitmap s lh false = 0 → exec (.statusChangePoll lh false) s =
        .next ((updHub s.fresh lh fun h => { h with nrdy := true }).answer .nrdy)) ∧
      (portTarget s lh true n = .entry e →
        gives (.getPortStatus lh true n false) (.done (le16 (q.hs.st ||| (if overCurrentNow s e then 8 else 0)).toNat ++ le16 q.hs.chg.toNat)) ∧
        exec (.clearTtBuffer lh n b) s = .next ((updPort s.fresh e fun q => { q with tt := Tbl.put q.tt b false }).answer (.done [])) ∧
        exec (.resetTt lh n) s = .next ((updPort s.fresh e fun q => { q with tt := Tbl.fill 4 false }).answer (.done []))) ∧
      (portTarget s lh false n = .entry e →
        gives (.getPortStatus lh false n false) (.done (le16 (q.ss.st ||| (if overCurrentNow s e then 8 else 0) |||
          BitVec.ofNat 16 (q.link.code * 32)).toNat ++ le16 q.ss.chg.toNat)) ∧
        gives (.getPortErrCount lh n) (.done (le16 q.errCount.toNat)))) ∧
    (hubReached s lh = true → (∀ k, roleOf s 28 = some k → (eng s k).serves = false) → (∃ k, roleOf s 28 = some k) →
      gives (.getHubStatus lh true) .nak ∧
      Completes (.getHubStatus lh false) s fun t => t.reply = .nrdy ∧ Only [.eng] s t) ∧
    (hubReached s lh = true → roleOf s 28 = none →
      gives (.getHubStatus lh hs) .requestError ∧ gives (.statusChangePoll lh hs) (if hs then .nak else .nrdy))

/-- R43, R49, R55, R65, R67, R92: the standard requests of a hub half and of a management function set what they name; SET_CONFIGURATION
clears PORT_POWER of the half on every port of the hub, and SET_HUB_DEPTH takes depths 0 to 4. -/
def Obligations.HubStandardRequestsConfigure : Prop :=
  ∀ (lh : Fin 6) (u : Fin 3) (hs on : Bool) (d : BitVec 16) (addr : BitVec 7) (s : State),
    (HubServes s lh →
      let acts := fun (c : Instr) (P : HubS → Prop) => Completes c s fun t =>
        t.reply = .done [] ∧ P (hub t lh) ∧ (∀ k, k ≠ lh → hub t k = hub s k) ∧ Only [.usb] s t
      acts (.setConfiguration (.hub lh hs) on) (fun h => (if hs then h.cfgHS else h.cfgSS) = on ∧ (if hs then h.cfgSS else h.cfgHS) =
        (if hs then (hub s lh).cfgSS else (hub s lh).cfgHS)) ∧
      (∀ e : Fin 40, (place s e).map (·.1) = some lh → (port s e).holding = false →
        Completes (.setConfiguration (.hub lh hs) on) s fun t => (port t e).powerOf hs = false ∧ (port t e).powerOf (!hs) = (port s e).powerOf (!hs)) ∧
      acts (.setAddress (.hub lh hs) addr) (fun h => h = if hs then { hub s lh with addrHS := addr } else { hub s lh with addrSS := addr }) ∧
      acts (.deviceRemoteWakeup (.hub lh hs) on) (fun h => h = if hs then { hub s lh with rwHS := on } else { hub s lh with rwSS := on }) ∧
      acts (.setInterface lh on) (fun h => h = { hub s lh with alt := on }) ∧
      acts (.setU1U2Enable lh false on) (fun h => h = { hub s lh with u1en := on }) ∧
      acts (.setU1U2Enable lh true on) (fun h => h = { hub s lh with u2en := on }) ∧
      acts (.clearHubFeature lh false false) (fun h => h = { hub s lh with cLocalSS := false }) ∧
      acts (.clearHubFeature lh true false) (fun h => h = { hub s lh with cLocalHS := false }) ∧
      acts (.clearHubFeature lh false true) (fun h => h = { hub s lh with cOverSS := false }) ∧
      acts (.clearHubFeature lh true true) (fun h => h = { hub s lh with cOverHS := false }) ∧
      (∀ h : d.toNat < 5, acts (.setHubDepth lh d) (fun x => x = { hub s lh with depth := some ⟨d.toNat, h⟩ })) ∧
      (5 ≤ d.toNat → exec (.setHubDepth lh d) s = .next (s.fresh.answer .requestError))) ∧
    (mfReached s u = true → s.xb.st ≠ .halt → s.xb.st ≠ .rebuild →
      let acts := fun (c : Instr) (f : TreeS → TreeS) => exec c s = .next ((updTree s.fresh u f).answer (.done []))
      acts (.setConfiguration (.mf u) on) (fun t => { t with mfCfg := on }) ∧
      acts (.setAddress (.mf u) addr) (fun t => { t with mfAddr := addr }) ∧
      acts (.deviceRemoteWakeup (.mf u) on) (fun t => { t with mfRw := on }))

/-- R58, R59, R61, R62: the requests of a host to a management function that it reaches: GET_INFO and GET_STATUS_CODE, dictionary and
register reads with their data, writes with their effect, messages that leave one response each, responses and event reports in
order, NAK where there is none or four responses wait. (GET_INFO's register of the boot-ROM wait is R63's.) -/
def Obligations.ManagementFunctionsAnswer : Prop :=
  ∀ (u : Fin 3) (idx : Half) (sub tag : Byte) (len : Nat) (data d : List Byte) (addr val : Word) (r : OdRow) (s s0 : State),
    let w := mfWho u
    let f := Tbl.get s.usb.mf u
    let replies := fun (c : Instr) (b : List Byte) (l : List Comp) => Completes c s fun t => t.reply = .done b ∧ Only l s t
    let resp := fun (op : Byte) (code : Nat) (b : List Byte) (t : State) =>
      (Tbl.get t.usb.mf u).resp = f.resp ++ [{ opcode := op, tag := tag, index := idx, sub := sub, status := code, data := b }]
    let kept : Prop := odRow idx.toNat sub.toNat = some r ∧ r.takes = .reset ∧ mayOd s w idx.toNat sub.toNat data = true ∧ s.dbg.stepping = 0
    let put := fun (t : State) => t.od = { s.od with vals := Sparse.put odDefault s.od.vals (odKey idx.toNat sub.toNat) data }
    let pipe : Prop := pathOpen s w.m = true ∧ (tree s u).mfCfg = true
    (pathOpen s w.m = true →
      replies (.getInfo u) (leBytes Config.uniqueId.toNat 8 ++ leBytes (firmwareRelease s) 4 ++ leBytes s.fab.addr.toNat 2 ++
        [BitVec.ofNat 8 u.val, BitVec.ofNat 8 (tiers s u.val), 0] ++ List.replicate 15 0) [] ∧
      (Completes (.getStatusCode u) s fun t => t.reply = .done [BitVec.ofNat 8 f.status, 0, 0, 0] ∧ (Tbl.get t.usb.mf u).status = 0 ∧
        Only [.mf] s t) ∧
      (1 ≤ len → len ≤ 4096 → odRead w idx.toNat sub.toNat s.fresh = (0, d, s0) →
        replies (.odRead u idx sub len) (d.take len) [.qm, .jr, .usb, .arb, .eng]) ∧
      (1 ≤ len → len ≤ 4096 → odServes s = false → Completes (.odRead u idx sub len) s fun t =>
        t.reply = .requestError ∧ (Tbl.get t.usb.mf u).status = 8 ∧ Only [.mf] s t) ∧
      ((∀ k, k < len / 4 → ∃ row, placeOf (addr.toNat + 4 * k) = .reg row) → addr.toNat % 4 = 0 → 4 ≤ len → len ≤ 256 → len % 4 = 0 →
        replies (.regRead u addr len) ((List.range (len / 4)).flatMap fun k => le32 (readReg s (addr.toNat + 4 * k)).toNat) []) ∧
      (kept → 1 ≤ data.length → data.length ≤ 4096 → Completes (.odWrite u idx sub data) s fun t =>
        t.reply = .done [] ∧ put t ∧ Only [.od] s t) ∧
      (∀ row, s.dbg.stepping = 0 → mayWrite s w addr.toNat = true → addr.toNat % 4 = 0 → placeOf addr.toNat = .reg row →
        row.rs ≠ 0 → row.posted = false → val.toNat &&& row.rv = 0 → Completes (.regWrite u addr val) s fun t =>
          t.reply = .done [] ∧ t.regs.active = s.regs.active ∧ shadowValue t addr.toNat = merge (shadowValue s addr.toNat) val (BitVec.ofNat 32 row.rs) ∧
          (∃ h ∈ t.regs.shadows, h.addr = addr.toNat ∧ h.writer = w.m ∧ h.refused = false) ∧ Only [.regs] s t)) ∧
    (pipe →
      (4 ≤ f.resp.length → exec (.dictMsgRead u tag idx sub) s = .next (s.fresh.answer .nak)) ∧
      (f.resp.length < 4 → odRead w idx.toNat sub.toNat s.fresh = (0, d, s0) → Completes (.dictMsgRead u tag idx sub) s fun t =>
        t.reply = .done [] ∧ resp 0x01 0 d t) ∧
      (f.resp.length < 4 → odServes s = false → Completes (.dictMsgRead u tag idx sub) s fun t => t.reply = .done [] ∧ resp 0x01 8 [] t) ∧
      (f.resp.length < 4 → kept → data.length ≤ 4096 → Completes (.dictMsgWrite u tag idx sub data) s fun t =>
        t.reply = .done [] ∧ put t ∧ resp 0x02 0 [] t ∧ Only [.od, .mf] s t) ∧
      (∀ x l, f.resp = x :: l → Completes (.dictResponseRead u) s fun t => (Tbl.get t.usb.mf u).resp = l ∧ Only [.mf] s t ∧
        t.reply = .done ([x.opcode ||| 0x80, x.tag] ++ le16 x.index.toNat ++ [x.sub, BitVec.ofNat 8 x.status] ++ le16 x.data.length ++ x.data)) ∧
      (f.resp = [] → exec (.dictResponseRead u) s = .next (s.fresh.answer .nak)) ∧
      (∀ x l, (tree s u).susHS = false → f.reports = x :: l → Completes (.eventReportPoll u) s fun t =>
        (Tbl.get t.usb.mf u).reports = l ∧ (Tbl.get t.usb.mf u).lostRep = false ∧ Only [.mf] s t ∧
        t.reply = .done ([BitVec.ofNat 8 x.ev.val, if f.lostRep then 1 else 0] ++ le16 x.cnt.toNat ++ leBytes x.tb.toNat 4 ++
          leBytes x.sec.toNat 4 ++ [0, 0, 0, 0])) ∧
      (f.reports = [] → exec (.eventReportPoll u) s = .next (s.fresh.answer .nak)))

/-- R327 whole, and of R286 and R319: one master at a time holds the lease: a free lease is acquired for 10 s, its owner renews and
releases it, any other master is refused with status 3, and an expiry frees it, discards the owner's shadows and counts EV8. A count
between the seen value and the counter is taken into EV_SEEN and clears the overflow bit, and leaves the status bit set for what came
after it; any other value changes nothing. -/
def Obligations.TheLeaseHasOneOwner : Prop :=
  ∀ (w : Who) (n : Fin 64) (count : Half) (s : State), pathOpen s w.m = true →
    let later := s.time.tb + 10000000000
    (s.lease.owner = none → Answers (.leaseAcquire w) w [] s fun t => leaseHeldBy t w = true ∧ t.lease.due = later ∧
      t.lease.comm = false ∧ Only [.lease] s t) ∧
    (s.lease.owner = none → Refuses (.leaseRenew w) w 3 [.mf] s ∧ Refuses (.leaseRelease w) w 3 [.mf] s) ∧
    (leaseHeldBy s w = true → Answers (.leaseRenew w) w [] s fun t => t.lease = { s.lease with due := later } ∧ Only [.lease] s t) ∧
    (leaseHeldBy s w = true → Answers (.leaseRelease w) w [] s fun t => t.lease.owner = none ∧ t.lease.comm = false ∧
      t.regs.active = s.regs.active ∧ t.regs.shadows = s.regs.shadows.filter (fun h => h.writer ≠ w.m) ∧ Only [.lease, .regs, .od] s t) ∧
    (s.lease.owner.isSome = true → leaseHeldBy s w = false → Refuses (.leaseAcquire w) w 3 [.mf] s ∧
      Refuses (.leaseRenew w) w 3 [.mf] s ∧ Refuses (.leaseRelease w) w 3 [.mf] s) ∧
    (∀ m, s.lease.owner = some m → Completes .leaseExpired s fun t => t.lease.owner = none ∧ Counts 8 s t ∧
      t.regs.active = s.regs.active ∧ t.regs.shadows = s.regs.shadows.filter (fun h => h.writer ≠ m) ∧ Only [.lease, .regs, .od] s t) ∧
    ((Tbl.get s.ev.cnt n - count).toNat ≤ (Tbl.get s.ev.cnt n - Tbl.get s.ev.seen n).toNat →
      Answers (.eventAck w n count) w [] s fun t => Tbl.get t.ev.seen n = count ∧ t.ev.cnt = s.ev.cnt ∧ t.ev.ovf.getLsbD n.val = false ∧
        (count ≠ Tbl.get s.ev.cnt n → evStatus t n = true) ∧ (∀ k, k ≠ n → Tbl.get t.ev.seen k = Tbl.get s.ev.seen k) ∧ Only [.can] s t) ∧
    (¬ (Tbl.get s.ev.cnt n - count).toNat ≤ (Tbl.get s.ev.cnt n - Tbl.get s.ev.seen n).toNat →
      Answers (.eventAck w n count) w [] s fun t => t.ev = s.ev)

/-- R58, R183, R184: an image load begins in the slot that does not run, takes its blocks in order, and ends with the slot VALID, or
INVALID with EV10; ACTIVATE makes the other slot TRIAL and the running one RETIRED and asks for a module reset, CONFIRM makes a
running TRIAL slot GOOD, RESTORE exchanges a RETIRED slot, and a trial that is not confirmed ends RETIRED. -/
def Obligations.ImagesLoadAndChange : Prop :=
  ∀ (w : Who) (k : Fin 2) (block : Half) (data : List Byte) (s : State), pathOpen s w.m = true → bootWait s = false →
    let m := w.m
    let w0 : Who := { m := m, node := 0 }
    let run := s.img.running
    let other := otherImg run
    (s.lease.owner = some m → k ≠ run → Answers (.imageBegin m k) w0 [] s fun t => (imgSlot t k).st = .loading ∧ (imgSlot t k).bytes = [] ∧
      t.img.load = some (k, 0, m) ∧ Only [.img] s t) ∧
    (s.lease.owner = some m → k = run → Refuses (.imageBegin m k) w0 5 [.mf] s) ∧
    (s.lease.owner ≠ some m → Refuses (.imageBegin m k) w0 3 [.mf] s) ∧
    (s.lease.owner = some m → s.img.load = some (k, block.toNat, m) → block.toNat < 1024 → (imgSlot s k).bytes.length = block.toNat * 4096 →
      1 ≤ data.length → data.length ≤ 4096 → Answers (.imageData m block data) w0 [] s fun t =>
        (imgSlot t k).bytes = (imgSlot s k).bytes ++ data ∧ t.img.load = some (k, block.toNat + 1, m) ∧ Only [.img] s t) ∧
    (∀ next, s.lease.owner = some m → s.img.load = some (k, next, m) →
      (Completes (.imageEndVerify m) s fun t => t.img.load = none ∧
        (if imageOk { s.fresh with img := { s.img with load := none } } (imgSlot s k).bytes = true then
          t.reply = answerOf w0 0 [] ∧ (imgSlot t k).st = .valid ∧ Only [.img] s t
        else t.reply = answerOf w0 9 [] ∧ (imgSlot t k).st = .invalid ∧ Counts 10 s t ∧ Only [.img, .mf] s t)) ∧
      Answers (.imageAbort m) w0 [] s fun t => (imgSlot t k).st = .invalid ∧ t.img.load = none ∧ Only [.img] s t) ∧
    (mayOd s w 0x2031 4 [1] = true → (imgSlot s other).st = .valid ∨ (imgSlot s other).st = .good →
      Answers (.imageActivate w) w [] s fun t => (imgSlot t other).st = .trial ∧ (imgSlot t run).st = .retired ∧
        t.start.rstCmd = .image (some m) ∧ Only [.img, .start, .jr, .qm] s t) ∧
    (mayOd s w 0x2031 4 [2] = true → (imgSlot s run).st = .trial →
      Answers (.imageConfirm w) w [] s fun t => (imgSlot t run).st = .good ∧ t.img.confirmDue = none ∧
        imgSlot t other = imgSlot s other ∧ Only [.img, .qm] s t) ∧
    (mayOd s w 0x2031 4 [3] = true → (imgSlot s other).st = .retired →
      Answers (.imageRestore w) w [] s fun t => (imgSlot t other).st = .good ∧ (imgSlot t run).st = .retired ∧
        t.start.rstCmd = .image (some m) ∧ Only [.img, .start, .qm] s t) ∧
    (s.start.stage = .run → (imgSlot s run).st = .trial → Completes .trialExpired s fun t => (imgSlot t run).st = .retired ∧
      t.start.rstCmd = .image none ∧ t.img.confirmDue = none ∧ Only [.img, .start] s t)

/-- R52, R54, R169: connection and reset events of a slot port: Rx.Detect finds a termination, Polling reaches U0 or fails for the
eighth time, a USB 2.0 device connects and disconnects, resets complete or time out. Each sets the status and change bits R52
names, and no other port changes; while the port's engine is lost a link event is latched instead. -/
def Obligations.PortsFollowTheirLinkEvents : Prop :=
  ∀ (p : Fin 24) (b : Bool) (s : State),
    let e := slotEntry p
    let q := port s e
    let moves := fun (c : Instr) (P : PortS → Prop) => Completes c s fun t =>
      P (port t e) ∧ (∀ k, k ≠ e → port t k = port s k) ∧ Only [.usb, .qm, .arb, .eng, .fab, .xpt] s t
    (q.holding = true → moves (.usb2Connect p b) (fun r => r = { q with linkEv := q.linkEv ++ [.hsConn b] })) ∧
    (q.holding = false → q.st = .powered →
      (q.link = .rxDetect → q.ssdis = false → moves (.ssTerminationDetected p) fun r => r = { q with farTerm := true, link := .polling }) ∧
      (q.link = .polling → moves (.pollingU0 p b) (fun r => r.st = .enabled ∧ r.link = .u0 ∧ r.speed = (if b then .gen2 else .gen1) ∧
        r.ss.st = q.ss.st ||| 3 ∧ r.ss.chg = q.ss.chg ||| 1 ∧ r.hs = q.hs)) ∧
      (q.link = .polling → q.pollFails < 7 → moves (.pollingFail p) fun r => r.pollFails = q.pollFails + 1 ∧ r.link = .rxDetect ∧
        r.ssdis = q.ssdis ∧ r.st = .powered) ∧
      (q.link = .polling → 7 ≤ q.pollFails → moves (.pollingFail p) fun r => r.ssdis = true ∧ r.link = .ssDisabled ∧ r.st = .powered) ∧
      ((q.farTerm = false ∨ q.link = .ssDisabled) → q.ovrOff = false → moves (.usb2Connect p b) fun r => r.st = .disabled ∧
        r.hs.st = q.hs.st ||| (if b then 0x201 else 1) ∧ r.hs.chg = q.hs.chg ||| 1 ∧ r.speed = (if b then .ls else .fs) ∧ r.ss = q.ss)) ∧
    (q.holding = false → q.held = false → (q.st = .disabled ∨ q.st = .enabled ∨ q.st = .suspended) → q.connHS = true →
      moves (.usb2Disconnect p) fun r => r.st = .powered ∧ r.connHS = false ∧ r.hs.has 1 = false ∧ r.hs.chg &&& 1 = 1 ∧ r.speed = .none) ∧
    (q.holding = false → (q.st = .enabled ∨ q.st = .suspended) → q.connSS = true →
      moves (.ssTerminationLost p) fun r => r.st = .powered ∧ r.connSS = false ∧ r.ss.has 1 = false ∧ r.ss.chg &&& 1 = 1 ∧ r.speed = .none) ∧
    (q.st = .reset → q.resetKind = some 0 →
      moves (.usb2ResetComplete p false b) (fun r => r.st = .enabled ∧ r.resetKind = none ∧ r.hs.has 1 = true ∧ r.hs.has 4 = false ∧
        r.hs.chg = q.hs.chg ||| 0x10 ∧ r.speed = if q.speed = .ls then .ls else if b && !fullSpeedTree s e then .hs else .fs) ∧
      (q.connHS = true → moves (.usb2ResetComplete p true b) fun r => r.st = .powered ∧ r.connHS = false ∧ r.hs.chg = q.hs.chg ||| 1)) ∧
    (q.st = .reset → q.resetKind = some 1 →
      moves (.hotResetComplete p) (fun r => r.st = .enabled ∧ r.link = .u0 ∧ r.ss.has 1 = true ∧ r.ss.has 4 = false ∧ r.ss.chg = q.ss.chg ||| 0x10) ∧
      moves (.hotResetTimeout p) (fun r => r.st = .reset ∧ r.resetKind = some 2)) ∧
    (q.st = .reset → q.resetKind = some 2 →
      moves (.warmResetComplete p b) (fun r => r.st = .enabled ∧ r.link = .u0 ∧ r.ss.has 0 = true ∧ r.ss.has 1 = true ∧
        r.ss.chg = q.ss.chg ||| 0x30 ∧ r.speed = if b then .gen2 else .gen1) ∧
      moves (.warmResetTimeout p) (fun r => r.st = .error ∧ r.link = .ssInactive ∧ r.ss.has 1 = false ∧ r.ss.chg = q.ss.chg ||| 0x40))

/-- R26, R65, R69 to R71, R75 to R78, R82: suspend, resume and inactivity of a port; a cut-off disables the port, records its reason,
counts EV24, and with LIMIT cut-offs in the window makes it BABBLER with EV25; an acknowledge clears BABBLER and the recent list.
Attach and detach of UP_S set its Type-C status. -/
def Obligations.PortsSuspendAndAreCutOff : Prop :=
  ∀ (w : Who) (p : Fin 24) (k : Fin 40) (b : Bool) (rp : Fin 4) (s : State),
    let e := slotEntry p
    let q := port s e
    let moves := fun (c : Instr) (e : Fin 40) (P : PortS → Prop) => Completes c s fun t =>
      P (port t e) ∧ (∀ k, k ≠ e → port t k = port s k) ∧ Only [.usb] s t
    let cuts := fun (c : Instr) (reason : Nat) (P : PortS → Prop) => Completes c s fun t =>
      P (port t e) ∧ (port t e).st = .disabled ∧ (port t e).cutrsn = reason ∧ (port t e).recent = q.recent ++ [s.time.tb] ∧
      Counts 24 s t ∧ (∀ k, k ≠ e → port t k = port s k) ∧ Only [.usb, .qm, .jr] s t
    ((port s k).st = .enabled → moves (.portSuspendEntered k) k fun r => r.st = .suspended ∧
      (r.link = if (port s k).connSS then .u3 else (port s k).link) ∧ ((port s k).connHS = true → r.hs.has 2 = true)) ∧
    ((port s k).st = .suspended → (port s k).resuming = true → moves (.portResumeComplete k) k fun r => r.st = .enabled ∧
      r.resuming = false ∧ r.waking = false ∧ r.selSus = false ∧ r.treeSS = false ∧ r.treeHS = false ∧
      ((port s k).connHS = true → r.hs.has 2 = false) ∧
      ((port s k).connSS = true → r.link = .u0 ∧ r.ss.chg = (port s k).ss.chg ||| (if (port s k).waking || (port s k).selSus then 0x40 else 0))) ∧
    (q.holding = false → q.st = .enabled → q.connSS = true → moves (.ssInactive p) e fun r => r.st = .error ∧ r.link = .ssInactive ∧
      r.ss.has 1 = false ∧ r.ss.chg = q.ss.chg ||| 0x40) ∧
    (q.st = .enabled → q.connSS = true → q.link = .u0 → (if b then q.u2to else q.u1to) ≠ 0 → (if b then q.u2to else q.u1to) ≠ 0xFF →
      moves (.portInactivityTimeout p b) e fun r => r = { q with link := if b then .u2 else .u1 }) ∧
    (q.held = false → q.st = .enabled → q.connSS = true → moves (.deviceLgoU1U2 p b) e fun r => r = { q with link := if b then .u2 else .u1 }) ∧
    (q.held = true → exec (.deviceLgoU1U2 p b) s = .next (s.fresh.answer .lxu)) ∧
    (q.st = .enabled → q.connHS = true → cuts (.babble p) 1 fun r => r.hs.has 1 = false ∧ r.hs.chg = q.hs.chg ||| 2 ∧
      r.babbleCnt = min 255 (q.babbleCnt + 1) ∧ r.ovrCnt = q.ovrCnt) ∧
    (q.st = .enabled → q.connSS = true → cuts (.overrun p) 2 fun r => r.ss.has 1 = false ∧ r.ss.chg = q.ss.chg ||| 0x40 ∧
      r.link = .ssDisabled ∧ r.ssdis = true ∧ r.ovrCnt = min 255 (q.ovrCnt + 1) ∧ r.babbleCnt = q.babbleCnt) ∧
    (q.st = .enabled → q.connHS = true → q.babbler = false → fld (regv s 0x57210) 3 0 ≠ 0 →
      fld (regv s 0x57210) 3 0 ≤ (q.recent.filter fun t => s.time.tb.toNat - t.toNat ≤ min 60 (max 1 (fld (regv s 0x57210) 9 4)) * 1000000000).length + 1 →
      Completes (.babble p) s fun t => (port t e).babbler = true ∧ Counts 25 s t) ∧
    (mayWrite s w (0x50024 + 0x400 * p.val) = true → s.dbg.stepping = 0 → Answers (.babblerAck w p) w [] s fun t =>
      port t e = { q with babbler := false, recent := [] } ∧ (∀ k, k ≠ e → port t k = port s k) ∧ Only [.usb, .regs] s t) ∧
    moves (.cutoffRecentExpiry p) e (fun r => r = { q with recent := q.recent.drop 1 }) ∧
    (rp ≠ 0 → exec (.ccAttach b rp) s = .next { s.fresh with usb := { s.usb with ccAttached := true, ccOrient := b, ccRp := rp.val } }) ∧
    exec .ccDetach s = .next { s.fresh with usb := { s.usb with ccAttached := false, ccOrient := false, ccRp := 0 } }

/-- R65, R67, R69 to R72: link power of a tree: LGO requests, U3 and L2 entry with the ports they suspend, LPM, wakes of a device, of a
port change and of the MF (latched in an entry window, propagated while their enable is set), the host's resume, and the replay
of latched wakes. -/
def Obligations.TreesSuspendWakeAndResume : Prop :=
  ∀ (u : Fin 3) (e : Fin 40) (p : Fin 24) (k : Fin 3) (hs : Bool) (s : State),
    let t0 := tree s u
    let q := port s e
    let sp := port s (slotEntry p)
    let susp := if hs then t0.susHS else t0.susSS
    let entry := if hs then t0.entHS else t0.entSS
    let becomes := fun (c : Instr) (P : State → Prop) => Completes c s fun t => P t ∧ Only [.usb, .qm, .arb, .fab, .xpt, .pow] s t
    exec (.lgoU1U2 u hs) s = .next (if (if hs then (hub s (tier1 u)).u2en else (hub s (tier1 u)).u1en) then
      (updTree s.fresh u fun t => { t with link := if hs then .u2 else .u1 }).answer .lau else s.fresh.answer .lxu) ∧
    exec (.lgoU3 u) s = .next (updTree s.fresh u fun t => { t with entSS := true }) ∧
    becomes (.upstreamU3Entry u) (fun t => (tree t u).link = .u3 ∧ (tree t u).susSS = true ∧ (tree t u).entSS = false ∧
      (inTree s u e = true → q.connSS = true → (q.link = .u0 ∨ q.link = .u1 ∨ q.link = .u2) →
        (port t e).link = .u3 ∧ (port t e).treeSS = true ∧ (q.st = .enabled → (port t e).st = .suspended)) ∧
      (inTree s u e = false → port t e = q)) ∧
    becomes (.upstreamL2Idle u) (fun t => (tree t u).susHS = true ∧ (tree t u).entHS = true ∧
      (inTree s u e = true → q.connHS = true → q.st = .enabled → (port t e).st = .suspended ∧ (port t e).treeHS = true ∧ (port t e).hs.has 2 = true) ∧
      (inTree s u e = false → port t e = q)) ∧
    exec (.lpmTransaction (.hub (tier2 u))) s = .next (s.fresh.answer .nyet) ∧
    ((∀ e, inTree s u e = true → lpmQuiet (port s e) = true) → (Tbl.get s.usb.mf u).resp = [] → (Tbl.get s.usb.mf u).reports = [] →
      exec (.lpmTransaction (.hub (tier1 u))) s = .next (s.fresh.answer (.done []))) ∧
    (sp.connHS = true → sp.st = .enabled → (becomes (.lpmTransaction (.device p true)) fun t => (port t (slotEntry p)).l1 = true ∧ t.reply = .done []) ∧
      exec (.lpmTransaction (.device p false)) s = .next (s.fresh.answer .nyet)) ∧
    (q.holding = true → becomes (.deviceWake (.device e hs)) fun t => port t e = { q with linkEv := q.linkEv ++ [.wake hs] }) ∧
    (q.holding = false → treeOf s e = some u → q.st = .suspended →
      (entry = true → becomes (.deviceWake (.device e hs)) fun t => port t e = { q with latched := true }) ∧
      (entry = false → susp = true → (hs = true → halfRw s e = true) → becomes (.deviceWake (.device e hs)) fun t =>
        port t e = { q with waking := true } ∧ (if hs then (tree t u).winHS else (tree t u).winSS) = true) ∧
      (entry = false → susp = false → q.selSus = true → becomes (.deviceWake (.device e hs)) fun t =>
        port t e = { q with waking := true, resuming := true })) ∧
    (treeOf s e = some u → entry = false → susp = true → (if hs then halfRw s e else q.rwMask.getLsbD k.val) = true →
      becomes (.deviceWake (.portChange e hs k)) fun t => port t e = { q with waking := true } ∧
        (if hs then (tree t u).winHS else (tree t u).winSS) = true) ∧
    (t0.entHS = true → becomes (.deviceWake (.mfEvent u)) fun t => tree t u = { t0 with mfLatched := true }) ∧
    (t0.entHS = false → t0.susHS = true → t0.mfRw = true → becomes (.deviceWake (.mfEvent u)) fun t => (tree t u).winHS = true) ∧
    becomes (.hostResume u hs) (fun t => (if hs then (tree t u).susHS else (tree t u).susSS) = false ∧
      (if hs then (tree t u).winHS else (tree t u).winSS) = false ∧
      (inTree s u e = true → (if hs then q.treeHS else q.treeSS) = true →
        (port t e).resuming = true ∧ (if hs then (port t e).treeHS else (port t e).treeSS) = false ∧ (port t e).waking = q.waking) ∧
      (inTree s u e = false → port t e = q)) ∧
    (inTree s u e = true → q.latched = true → t0.susHS = true → q.connHS = true → halfRw s e = true →
      becomes (.wakeReplay u true) fun t => (port t e).waking = true ∧ (port t e).latched = false ∧ (tree t u).winHS = true)

/-- R54, R73, R79 to R81: a USB 2.0 reset returns the USB 2.0 halves of the tree and the MF to the default state, a hot or warm reset
the SuperSpeed halves alone, and a link loss or the fall of VBUS all of them: the hubs are unconfigured, their ports lose that
half's PORT_POWER, the MF's responses and reports go and its lease is revoked. EV23 counts; a new loss of UP_A or UP_B counts EV29,
and starts the hold of a set in NORMAL with AUTO. An upstream that becomes present ends a hold. -/
def Obligations.UpstreamResetsAndLosses : Prop :=
  ∀ (u : Fin 3) (e : Fin 40) (l : LossLink) (hi mid : Bool) (s : State),
    let t0 := tree s u
    let m : Fin 16 := ⟨u.val, by omega⟩
    let off := fun (hs : Bool) (t : State) => ∀ lh, (lh = tier1 u ∨ lh = tier2 u) →
      (if hs then (hub t lh).cfgHS = false ∧ (hub t lh).addrHS = 0 else (hub t lh).cfgSS = false ∧ (hub t lh).addrSS = 0 ∧ (hub t lh).depth = none) ∧
      (inTree s u e = true → (port t e).powerOf hs = false)
    let keeps := fun (hs : Bool) (t : State) => ∀ lh, (if hs then (hub t lh).cfgHS = (hub s lh).cfgHS else (hub t lh).cfgSS = (hub s lh).cfgSS) ∧
      (port t e).powerOf hs = (port s e).powerOf hs
    let mfOff := fun (t : State) => (Tbl.get t.usb.mf u).resp = [] ∧ (Tbl.get t.usb.mf u).reports = [] ∧
      (s.lease.owner = some m → t.lease.owner = none) ∧ t.regs.unlock.getLsbD u.val = false ∧ (tree t u).mfCfg = false
    let lost := fun (c : Instr) (link : LinkSt) => Completes c s fun t => off true t ∧ off false t ∧ mfOff t ∧
      (tree t u).lost = true ∧ (tree t u).link = link ∧ Counts 23 s t ∧ (u.val < 2 → Counts 29 s t) ∧
      (∀ x : Fin 2, x.val = u.val → (fo s x).st = .normal → foAuto s x = true → t0.everCfg = true →
        (fo t x).st = .watch ∧ (fo t x).holdMs = failHold s)
    (Completes (.upstreamUsb2Reset u hi mid) s fun t => off true t ∧ keeps false t ∧ mfOff t ∧ (tree t u).hiSpeed = hi ∧
      (Tbl.get t.usb.mf u).status = (if mid then 8 else (Tbl.get s.usb.mf u).status) ∧ Counts 23 s t) ∧
    (∀ c, c = .upstreamHotReset u ∨ c = .upstreamWarmReset u → Completes c s fun t => off false t ∧ keeps true t ∧ Counts 23 s t ∧
      Only [.usb, .qm, .arb, .fab, .xpt] s t) ∧
    (t0.lost = false → lost (.upstreamLinkLoss u l mid) (lossLink l) ∧ lost (.vbusFall u) .ssDisabled) ∧
    (t0.lost = true → exec (.upstreamLinkLoss u l mid) s = .next (updTree s.fresh u fun t => { t with link := lossLink l })) ∧
    (exec (.vbusRise u) s = .next (updTree s.fresh u fun t => { t with vbus := true, presents := t.enabled && !coreFault s })) ∧
    (t0.vbus = true → coreFault s = false → Completes (.upstreamPresent u hi) s fun t => (tree t u).lost = false ∧
      (hi = true → (tree t u).link = .u0) ∧ Only [.usb] s t ∧
      ∀ x : Fin 2, x.val = u.val → ((fo s x).st = .watch ∨ (fo s x).st = .pending) → (fo t x).st = .normal)

/-- R80 to R84, R86: the failover machine of a set while PE0 runs: a hold that ends, an alternate that appears, a start wait that
ends and a handover make the set ACTIVE, count EV26 and hold the links of its entries, whose ports go to DISCONNECTED; with the
other upstream lost a hold or start wait ends in PENDING and a handover is refused with REFUSE 1; a failback returns the set to
NORMAL with EV28. The tick after a detach the alternate's hub is connected. A held link that is lost releases its port; bridging
ends. -/
def Obligations.FailoverSetsMove : Prop :=
  ∀ (x : Fin 2) (p : Fin 24) (s : State),
    let f := fo s x
    let q := port s (slotEntry p)
    let X := tree s (foUp x)
    let Y := tree s (foUp (foOther x))
    let frame := [Comp.usb, .xb, .qm, .arb, .eng, .pow, .fab, .xpt, .jr]
    let activates := fun (c : Instr) => Completes c s fun t => (fo t x).st = .active ∧ (fo t x).reattach = true ∧ (fo t x).cmd = none ∧
      t.usb.foCnt = min 0xFFFF (s.usb.foCnt + 1) ∧ Counts 26 s t ∧ Only frame s t ∧
      ∀ e, setOf s e = some x → (port t e).st = .disconnected ∧ (port t e).held = true
    let becomes := fun (c : Instr) (P : State → Prop) => Completes c s fun t => P t ∧ Only [.usb] s t
    (peRuns s 0 = true →
      (f.st = .watch → Y.lost = false → activates (.failHoldExpired x)) ∧
      (f.st = .watch → Y.lost = true → becomes (.failHoldExpired x) fun t => fo t x = { f with st := .pending }) ∧
      (f.st = .pending → Y.lost = false → activates (.alternatePresent x)) ∧
      (f.startWait = true → X.everCfg = false → (f.st = .normal ∨ f.st = .watch) →
        (Y.lost = false → activates (.startWaitExpired x)) ∧
        (Y.lost = true → becomes (.startWaitExpired x) fun t => fo t x = { f with st := .pending, startWait := false })) ∧
      (f.cmd = some true → (f.st = .normal ∨ f.st = .watch) → Y.lost = false → activates (.handover x)) ∧
      (f.cmd = some true → (f.st = .normal ∨ f.st = .watch ∨ f.st = .pending) → (f.st = .pending ∨ Y.lost = true) →
        becomes (.handover x) fun t => t.usb.foRefuse = 1 ∧ fo t x = { f with cmd := none }) ∧
      (f.cmd = some true → f.st = .active → becomes (.handover x) fun t => t.usb.foRefuse = 5 ∧ fo t x = { f with cmd := none }) ∧
      (f.cmd = some false → f.st = .active → X.lost = false → ((hub s (tier1 (foUp x))).cfgSS = true ∨ (hub s (tier1 (foUp x))).cfgHS = true) →
        Completes (.failback x) s fun t => (fo t x).st = .normal ∧ (fo t x).reattach = true ∧ Counts 28 s t ∧
          (hub t (tier2 (foUp (foOther x)))).standby = true ∧ Only frame s t) ∧
      (f.cmd = some false → f.st = .active → X.lost = true → becomes (.failback x) fun t => t.usb.foRefuse = 3 ∧ (fo t x).st = .active) ∧
      (f.cmd = some false → (f.st = .normal ∨ f.st = .watch ∨ f.st = .pending) → becomes (.failback x) fun t =>
        t.usb.foRefuse = 4 ∧ fo t x = { f with cmd := none }) ∧
      (f.reattach = true → f.st = .active → becomes (.reattach x) fun t => (fo t x).reattach = false ∧
        (hub t (tier2 (foUp (foOther x)))).standby = false ∧
        (tree t (foUp (foOther x))).t2ss.has 0 = true ∧ (tree t (foUp (foOther x))).t2hs.has 0 = true)) ∧
    (peRuns s 0 = false → exec (.failHoldExpired x) s = .next s.fresh ∧ exec (.handover x) s = .next s.fresh) ∧
    (q.held = true → q.st ≠ .powered → becomes (.heldRelease p) fun t => port t (slotEntry p) =
      { q with held := false, heldHS := false, bridge := false, link := .rxDetect }) ∧
    (q.held = true → q.st = .powered → becomes (.heldRelease p) fun t =>
      (port t (slotEntry p)).held = false ∧ (port t (slotEntry p)).bridge = false ∧ (port t (slotEntry p)).st = .powered) ∧
    exec (.bridgeTimeout p) s = .next (updPort s.fresh (slotEntry p) fun q => { q with bridge := false })

/-- R92, R93, R105: a header from an upstream to a slot with an open link waits for its egress point, and so does one from an enabled
slot to its owner; a payload is stored in the egress queue of a slot that has credit; a USB 2.0 packet leaves on the lanes of the
enabled ports of the tree; what the table discards counts UNROUTE. A link in U1 or U2 exits and defers the packet, a closed link
and a halted core turn it away. -/
def Obligations.PacketsGoWhereTheTableSays : Prop :=
  ∀ (u : Fin 3) (p : Fin 24) (b : Fin 2) (k : Packet) (s : State), domainOn s 25 = true →
    let up : Fin 33 := ⟨24 + u.val, by omega⟩
    let xp : Fin 33 := ⟨p.val, by omega⟩
    let q : Fin 64 := ⟨p.val, by omega⟩
    let e := slotEntry p
    let toSlot := k.kind ≠ .usb2 ∧ k.kind ≠ .engine ∧ ssDest s u k.route k.addr = .slot e
    let opens := linkClosed (port s e) = false ∧ (port s e).link ≠ .u1 ∧ (port s e).link ≠ .u2
    let waits := fun (x d : Fin 33) => Completes (.packetIngress x k) s fun t =>
      t.xb.hdrs = s.xb.hdrs ++ [{ src := x, dst := d, bytes := k.bytes }] ∧
      (t.arb.waits.any (fun w => w.point = egressPoint d && w.req.val = x.val) ∨ ((Tbl.get t.arb.points (egressPoint d)).holder.map Fin.val) = some x.val) ∧
      Only [.xb, .arb] s t
    (s.xb.st ≠ .run → exec (.packetIngress up k) s = .next (s.fresh.answer .nak)) ∧
    (s.xb.st = .run →
      (toSlot → (linkClosed (port s e) = true ∨ (port s e).st = .disconnected) → exec (.packetIngress up k) s = .next (s.fresh.answer .requestError)) ∧
      (toSlot → (port s e).st ≠ .disconnected → ((port s e).link = .u1 ∨ (port s e).link = .u2) → exec (.packetIngress up k) s =
        .next ((updPort s.fresh e fun r => { r with link := .u0 }).answer .nrdy)) ∧
      (toSlot → (port s e).st ≠ .disconnected → opens → k.kind = .ssHeader → waits up xp) ∧
      (toSlot → (port s e).st ≠ .disconnected → opens → k.kind = .ssData →
        qEn s q = true → qDropMode s q = false → qMarkMode s q ≠ 2 → consDrained (queue s q) = false → (queue s q).cur = none →
        (queue s q).prod = some b → (queue s q).cons ≠ b → (Tbl.get (queue s q).banks b).fill = (Tbl.get (queue s q).banks b).done →
        qCredit s q = true → k.bytes.length ≤ qItemMax s q → qItemMax s q ≤ 65528 → Completes (.packetIngress up k) s fun t =>
          (∃ c, (queue t q).cur = some c ∧ c.prod = up.val ∧ c.bank = b ∧ c.len = k.bytes.length ∧ c.sop = true) ∧ t.reply = .none ∧
          (∀ j, j ≠ q → queue t j = queue s j) ∧ Only [.qm, .arb] s t) ∧
      (k.kind = .ssHeader → ssDest s u k.route k.addr = .discard → exec (.packetIngress up k) s = .next (unroute up s.fresh)) ∧
      (k.kind = .usb2 → usb2Dest s u k.addr = .lanes u → Completes (.packetIngress up k) s fun t => Only [] s t ∧
        ∀ r : Fin 24, .packet ⟨r.val, by omega⟩ k.bytes false ∈ t.out ↔ (inTree s u (slotEntry r) = true ∧ (port s (slotEntry r)).st = .enabled ∧
          (port s (slotEntry r)).connHS = true ∧ (port s (slotEntry r)).hs.has 2 = false)) ∧
      (treeOf s e = some u → topoOwner s e ≠ 4 → (port s e).held = false → ((port s e).st = .enabled ∨ (port s e).st = .suspended) →
        (k.kind = .ssHeader → waits xp up) ∧
        (k.kind = .usb2 → exec (.packetIngress xp k) s = .next (s.fresh.emit [.packet up k.bytes false]))) ∧
      (topoOwner s e ≠ 4 → k.kind = .ssHeader → (treeOf s e = none ∨ (port s e).held = true ∨
          ((port s e).st ≠ .enabled ∧ (port s e).st ≠ .suspended)) →
        exec (.packetIngress xp k) s = .next (unroute xp s.fresh)))

/-- R97, R98, R106, R123, R124, R126, R145: the last data of a payload commit its item, with its length, POISON and a count of a bad
CRC-32, or abort it; a transmitted packet leaves and frees its egress point, and a poisoned or aborted one leaves stomped with EV21;
a cut-through wait that ends aborts the item and stomps the packet; a stalled port has its queue flushed and counts EV22. -/
def Obligations.EgressPortsSendAndStomp : Prop :=
  ∀ (x : Fin 33) (q : Fin 64) (p : Fin 2) (rest : List Byte) (poison crcBad : Bool) (b : List Byte) (s : State),
    let y := queue s q
    let k := Tbl.get y.banks p
    let ex : Fin 64 := ⟨x.val, by omega⟩
    let d := (qDequeue ex 65528 s.fresh).1
    let bad := d.poison || d.status == qABORTED
    let n := Tbl.get s.xb.cnt x
    let stomped := fun (t : State) => Counts 21 s t ∧ (Tbl.get t.xb.cnt x).stomp = sat16 n.stomp ∧ t.xb.stompTick.getLsbD x.val = true
    let freed := fun (t : State) => Tbl.get t.xb.tx x = .idle ∧ (Tbl.get t.arb.points (egressPoint x)).holder = none
    (∀ c, y.cur = some c → c.prod = x.val → c.bank = p → c.off = k.done → c.len + rest.length ≤ qItemMax s q →
      k.done + up8 (c.len + rest.length) + 32 ≤ qSize s q p → qMarkMode s q ≠ 2 → consDrained y = false → y.prod = some p → y.cons ≠ p →
      (x.val < 24 → c.len + rest.length ≤ 1024) → ∀ abort, Completes (.payloadComplete x q rest poison crcBad abort) s fun t =>
        let w := pmGet t ((qBase s q p + k.done) / 8)
        (queue t q).cur = none ∧ (Tbl.get (queue t q).banks p).items = k.items + 1 ∧ hLen w.data = c.len + rest.length ∧
        hType w.data = (if abort then 2 else 0) ∧ hPoison w.data = (c.poison || (poison && !rest.isEmpty)) ∧
        (Tbl.get t.xb.cnt x).crcErr = (if crcBad then sat16 n.crcErr else n.crcErr) ∧
        (∀ j, j ≠ q → queue t j = queue s j) ∧ Only [.xb, .qm, .arb] s t) ∧
    (Tbl.get s.xb.tx x = .bytes b → Completes (.packetTransmitted x) s fun t => freed t ∧
      (∀ f : Fin 4, x.val = 27 + f.val → t.out = [.frame f b]) ∧ ((x.val < 27 ∨ 30 < x.val) → t.out = [.packet x b false]) ∧
      Only [.xb, .arb] s t) ∧
    (Tbl.get s.xb.tx x = .item → x.val < 27 → (∀ w, headAt s ex ≠ some (w, true)) → d.status ≠ qEMPTY → d.status ≠ qDISABLED →
      Completes (.packetTransmitted x) s fun t => freed t ∧ t.out = [.packet x d.data bad] ∧
        queue t ex = queue (qDequeue ex 65528 s.fresh).2 ex ∧ (bad = true → stomped t) ∧
        (bad = false → (Tbl.get t.xb.cnt x).stomp = n.stomp) ∧ Only [.xb, .qm, .arb] s t) ∧
    (∀ c, Tbl.get s.xb.tx x = .item → x.val ≤ 30 → (queue s ex).cur = some c → qCut s ex = true → c.bank = (queue s ex).cons →
      c.off = (queue s ex).rpos → Completes (.cutThroughWaitExpired x) s fun t => freed t ∧ stomped t ∧ (queue t ex).cur = none ∧
        (queue t ex).skip = some c.prod ∧ t.out = [.packet x [] true] ∧ Only [.xb, .qm, .arb] s t) ∧
    (x.val ≤ 30 → fld (regv s 0x40008) 9 0 ≠ 0 → qEn s ex = true → 0 < qLevel s ex → Completes (.egressStall x) s fun t =>
      qLevel t ex = 0 ∧ (queue t ex).banks = Tbl.fill 2 bankEmpty ∧ (Tbl.get t.xb.cnt x).stall = sat16 n.stall ∧ Counts 22 s t ∧
      t.usb.ports = s.usb.ports ∧ Only [.xb, .qm, .arb] s t)

/-- R101 to R103: a lockstep mismatch halts the running core, ends every packet in transmission, discards the waiting headers and counts
EV20; with LS_LIMIT mismatches in 60 s the core goes to FAULT, and every upstream presents no connect and is lost. The drain leads
to REBUILD, or a failed pattern counts EV20 and stays in HALT; the rebuild leads to RUN. An injected mismatch acts as one. -/
def Obligations.LockstepHaltsAndRebuilds : Prop :=
  ∀ (w : Who) (g : Fin 35) (s : State),
    let halted := fun (inj : Bool) (t : State) => t.xb.st = .halt ∧ t.xb.group = g.val ∧ t.xb.total = sat16 s.xb.total ∧
      t.xb.lsTime = BitVec.ofNat 32 s.time.tb.toNat ∧ t.xb.injected = inj ∧ t.xb.hdrs = [] ∧ (∀ x, Tbl.get t.xb.tx x = .idle) ∧
      t.xb.recent = (if inj then s.xb.recent else s.xb.recent ++ [s.time.tb]) ∧ Counts 20 s t
    (domainOn s 25 = true → s.xb.st = .run →
      (s.xb.recent.length + 1 < lsLimit s → Completes (.lockstepMismatch g) s fun t => halted false t ∧ Only [.xb, .arb, .qm, .jr] s t) ∧
      (lsLimit s ≤ s.xb.recent.length + 1 → Completes (.lockstepMismatch g) s fun t => t.xb.st = .fault ∧ t.xb.group = g.val ∧ Counts 20 s t ∧
        ∀ u : Fin 3, (tree t u).presents = false ∧ (tree t u).lost = true ∧
          ((tree s u).lost = false → s.lease.owner = some ⟨u.val, by omega⟩ → t.lease.owner = none))) ∧
    (mayWrite s w 0x40018 = true → s.dbg.stepping = 0 → s.xb.st = .run → s.xb.recent.length < lsLimit s →
      Answers (.lsInject w ⟨g.val, by omega⟩) w [] s fun t => halted true t ∧ Only [.regs, .xb, .arb, .qm, .jr] s t) ∧
    (domainOn s 25 = true → s.xb.st = .halt →
      exec (.haltDrainComplete true) s = .next { s.fresh with xb := { s.xb with st := .rebuild } } ∧
      Completes (.haltDrainComplete false) s fun t => Counts 20 s t ∧ Only [] s t) ∧
    (domainOn s 25 = true → s.xb.st = .rebuild → s.xb.offWait = none → Completes .rebuildComplete s fun t => t.xb = { s.xb with st := .run } ∧
      (∀ q, q ≠ 57 → queue t q = queue s q) ∧ Only [.xb, .arb, .qm] s t) ∧
    exec .lockstepRecentExpiry s = .next { s.fresh with xb := { s.xb with recent := s.xb.recent.drop 1 } }

/-- R144, R146, R149, R153, R154: a point decision grants a request that no waiting one precedes: by age at each AGE_N-th grant, else by
priority, age and number; the grant leaves the waiting requests, sets the grant counter and MAX_WAIT and wakes an engine that slept
on it, and a header that waited starts to leave. A wait of WARN cycles counts EV45 once; a write of the statistics clears MAX_WAIT. -/
def Obligations.PointsGrantByPriorityAndAge : Prop :=
  ∀ (w : Who) (pt : Fin 49) (raised : List (Fin 48)) (dc : Nat) (r : Fin 48) (s : State),
    let s0 := raised.foldl (fun t r => raiseReq pt r t) { s.fresh with arb := { s.arb with cyc := s.arb.cyc + dc } }
    let p := Tbl.get s0.arb.points pt
    let ws := waitsAt s0 pt
    let grants := fun (P : ReqS → State → Prop) => Completes (.pointDecision pt raised dc) s fun t => ∃ v ∈ ws, P v t ∧
      (∀ o ∈ ws, (if p.ctr = ageN s - 1 then olderThan s0 o v else priBefore s0 o v) = false) ∧
      (let g := Tbl.get t.arb.points pt
       g.holder = some v.req ∧ g.ctr = (if ageN s ≤ p.ctr + 1 then 0 else p.ctr + 1) ∧ g.maxWait = max p.maxWait (min 0xFFFF (s0.arb.cyc - v.raised))) ∧
      t.arb.waits = s0.arb.waits.filter (fun x => !(x.point = pt && x.req = v.req)) ∧ t.arb.cyc = s.arb.cyc + dc ∧
      ∀ n : Fin 8, v.req.val = 33 + n.val → (eng s n).sleep = .waitg → (eng t n).sleep = .awake
    (pt.val < 16 → bankOn s pt.val = true → ws ≠ [] → grants fun _ t => Only [.arb, .eng] s t) ∧
    (pt.val < 16 → bankOn s pt.val = true → ws = [] → Completes (.pointDecision pt raised dc) s fun t =>
      (Tbl.get t.arb.points pt).holder = none ∧ Only [.arb] s t) ∧
    (∀ x : Fin 33, pt = egressPoint x → s.xb.st = .run → p.holder = none → headStopped s0 pt = false → ws ≠ [] → (∀ v ∈ ws, v.req.val ≠ 43) →
      grants fun v t => Only [.arb, .eng, .xb] s t ∧ ∀ h, s.xb.hdrs.find? (fun h => h.dst = x && h.src.val = v.req.val) = some h → v.req.val < 33 →
        Tbl.get t.xb.tx x = .bytes h.bytes ∧ t.xb.hdrs = s.xb.hdrs.erase h) ∧
    (16 ≤ pt.val → p.holder.isSome = true → exec (.pointDecision pt raised dc) s = .next s0) ∧
    (fld (regv s 0x20004) 31 16 ≠ 0 → s.arb.waits.any (fun v => v.point = pt && v.req = r && !v.warned) = true →
      Completes (.arbWaitWarn pt r) s fun t => Counts 45 s t ∧ (Tbl.get t.arb.points pt).warnCnt = sat16 (Tbl.get s.arb.points pt).warnCnt ∧
        t.arb.waits.length = s.arb.waits.length ∧ (∀ v ∈ t.arb.waits, v.point = pt → v.req = r → v.warned = true) ∧ Only [.arb] s t) ∧
    (mayWrite s w (if pt.val < 16 then 0x20200 + 4 * pt.val else 0x20300 + 4 * (pt.val - 16)) = true → s.dbg.stepping = 0 →
      Answers (.maxwaitReset w pt) w [] s fun t => (Tbl.get t.arb.points pt).maxWait = 0 ∧
        (∀ o, o ≠ pt → Tbl.get t.arb.points o = Tbl.get s.arb.points o) ∧ Only [.arb, .regs] s t)

/-- R188, R190, R192 to R195, R197 to R200: the pass of PE1 starts the seated slot that meets every start condition and is first by PRIO
and number, and no other; a ramp ends in ON; regulation enters and leaves FOLDBACK. A trip turns the gate off, sets REASON, SSUB and
OFF_REMAIN, counts TRIPS and EV16 and reports over-current at the port; a gate fault and a shorted FET lead to FET_FAULT, kept in
flash, with EV17, and a shorted FET opens the group FET unless GRPPOL is 1, with EV18. PE1 takes a trip to RETRY_WAIT or LOCKOUT. -/
def Obligations.SlotsStartTripAndRetry : Prop :=
  ∀ (p : Fin 24) (s : State),
    let x := slot s p
    let g := groupOf p
    let ready := fun (k : Fin 24) => (slot s k).st = .seating ∧ waitCode s k = 0
    let others := fun (t : State) => ∀ r, r ≠ p → slot t r = slot s r
    let ends := fun (t : State) => (port t (slotEntry p)).ss.chg &&& 8 = 8 ∧ (port t (slotEntry p)).hs.chg &&& 8 = 8 ∧
      (port t (slotEntry p)).connSS = false ∧ (port t (slotEntry p)).connHS = false
    let trips := fun (c : Instr) (reason ssub : Nat) => Completes c s fun t => let y := slot t p
      y.st = .tripped ∧ y.reason = reason ∧ y.ssub = ssub ∧ y.retries = x.retries ∧ y.trips = min 255 (x.trips + 1) ∧
      y.offDue = s.time.tb + BitVec.ofNat 64 (min (2 ^ (x.retries + 1)) 64 * 1000000000) ∧ t.out = [.slotGate p false] ∧
      Counts 16 s t ∧ ends t ∧ others t ∧ Tbl.get t.jr.lifeTrip p = lifeAdd (Tbl.get s.jr.lifeTrip p) ∧ Only [.usb, .qm, .pow, .jr] s t
    let faults := fun (c : Instr) (reason : Nat) (P : State → Prop) => Completes c s fun t => let y := slot t p
      y.st = .fetFault ∧ y.reason = reason ∧ y.flashFet = some reason ∧ (x.st.gateOn = true → .slotGate p false ∈ t.out) ∧
      Counts 17 s t ∧ ends t ∧ P t ∧ Only [.usb, .qm, .pow] s t
    let alone := fun (y : SlotS) (c : Instr) => exec c s = .next (updSlot p (fun _ => y) s.fresh)
    (roleRuns s 29 = true → Completes .slotRampStart s fun t => Only [.pow] s t ∧
      ((∀ k, ¬ ready k) → t.out = [] ∧ ∀ k, (slot t k).st = (slot s k).st) ∧
      (ready p → (∀ k, ready k → slotPrio s k < slotPrio s p ∨ (slotPrio s k = slotPrio s p ∧ p.val ≤ k.val)) →
        (slot t p).st = .ramp ∧ t.out = [.slotGate p true] ∧ t.pow.lastStart = some s.time.tb ∧ ∀ k, k ≠ p → (slot t k).st = (slot s k).st)) ∧
    (x.st = .ramp →
      (Completes (.rampComplete p) s fun t => slot t p = { x with st := .on } ∧ Tbl.get t.jr.lifeOn p = lifeAdd (Tbl.get s.jr.lifeOn p) ∧
        others t ∧ Only [.usb, .qm, .pow, .jr] s t) ∧
      trips (.fastTrip p) 1 2 ∧ faults (.gateRiseFail p) 6 others ∧
      (s.pow.warn = false → trips (.rampTimeout p) 1 0 ∧ trips (.rampLong p) 5 x.ssub)) ∧
    (x.st = .on → alone { x with st := .foldback } (.foldbackEntry p) ∧ alone { x with retries := 0 } (.retriesReset p) ∧
      trips (.fastTrip p) 2 x.ssub ∧ faults (.gateFault p) 6 others) ∧
    (x.st = .foldback → alone { x with st := .on } (.foldbackExit p) ∧ alone { x with retries := 0 } (.retriesReset p) ∧
      trips (.fastTrip p) 2 x.ssub ∧ trips (.overcurrent p) 3 x.ssub) ∧
    (x.st ≠ .fetFault → faults (.shortedFet p) 7 fun t => Counts 18 s t ∧
      (grpPol s g = true → others t ∧ group t g = group s g) ∧
      (grpPol s g = false → (group t g).closed = false ∧ (group t g).isol = true ∧ (group t g).islot = p.val % 6 ∧ .groupGate g false ∈ t.out ∧
        ∀ r, r ≠ p → groupOf r = g → (slot s r).st.gateOn = true → (slot t r).st = .seating ∧ (slot t r).reason = 10 ∧ .slotGate r false ∈ t.out)) ∧
    (roleRuns s 29 = true → x.st = .tripped →
      (x.retries < slotRetryCount s p → alone { x with st := .retryWait } (.tripHandling p)) ∧
      (slotRetryCount s p ≤ x.retries → Completes (.tripHandling p) s fun t => slot t p = { x with st := .lockout, locked := true } ∧
        Counts 19 s t ∧ others t ∧ Only [.pow, .qm] s t)) ∧
    (x.st = .retryWait → alone { x with offDue := s.time.tb, retries := min 15 (x.retries + 1), st := .seating } (.backoffExpired p)) ∧
    (x.st ≠ .retryWait → alone { x with offDue := s.time.tb } (.backoffExpired p))

/-- R188, R189, R199, R201 to R203: pins seat a slot; lost seating turns a powered slot off with REASON REMOVED; withdrawal clears LOCKED
and RETRIES and leads to OFF; one pin alone for 1 s sets SKEW with EV60. A lockout clear and a FET fault clear restore the slot, FRC and
REL set and clear FORCE.FIRMWARE, and a LIMIT is taken within its ceiling while the budget allows. -/
def Obligations.SlotsFollowPinsAndCommands : Prop :=
  ∀ (w : Who) (p : Fin 24) (b a2 b2 : Bool) (v : BitVec 6) (s : State),
    let x := slot s p
    let others := fun (t : State) => ∀ r, r ≠ p → slot t r = slot s r
    let seat := fun (c : Instr) (P : SlotS → State → Prop) => Completes c s fun t => P (slot t p) t ∧ others t ∧
      Only [.usb, .pow, .ao, .qm, .free, .xb, .start] s t
    (s.ao.onVbat = false →
      seat (.pinSeated p b) (fun y _ => y.pinA = (x.pinA || !b) ∧ y.pinB = (x.pinB || b) ∧ y.st = (if x.st = .off then .seating else x.st) ∧
        (x.pinA = false → x.pinB = false → y.firstPin = s.time.tb ∧ y.seatedSince = x.seatedSince) ∧
        (x.pinA ≠ x.pinB → x.pinA = b → y.seatedSince = some s.time.tb ∧ y.firstPin = x.firstPin)) ∧
      ((a2 || b2) = true → seat (.seatingLost p a2 b2) fun y t => y.seatedSince = none ∧ y.pinA = (x.pinA && !a2) ∧ y.pinB = (x.pinB && !b2) ∧
        (x.st.gateOn = true → y.st = .seating ∧ y.reason = 8 ∧ y.seatLoss = min 255 (x.seatLoss + 1) ∧ .slotGate p false ∈ t.out) ∧
        (x.st.gateOn = false → y.st = x.st)) ∧
      seat (.withdrawal p) (fun y t => y.pinA = false ∧ y.pinB = false ∧ y.skew = false ∧ y.offDue = x.offDue ∧
        (x.st ≠ .fetFault → x.st ≠ .forcedOff → y.st = .off ∧ (x.st ≠ .off → y.locked = false ∧ y.retries = 0)) ∧
        (x.st = .forcedOff → y.st = .forcedOff ∧ y.locked = false ∧ y.retries = 0) ∧ (x.st = .fetFault → y.st = .fetFault) ∧
        (x.st.gateOn = true → .slotGate p false ∈ t.out))) ∧
    (x.st = .seating → x.pinA ≠ x.pinB → x.skew = false → Completes (.skewTimeout p) s fun t => (slot t p).skew = true ∧
      (slot t p).st = .seating ∧ Counts 60 s t ∧ others t ∧ Only [.pow, .qm] s t) ∧
    (pathOpen s w.m = true → Answers (.lockoutClear w p) w [] s fun t =>
      slot t p = { x with locked := false, retries := 0, st := if x.st = .tripped ∨ x.st = .retryWait ∨ x.st = .lockout then .seating else x.st } ∧ others t ∧ Only [.pow, .qm] s t) ∧
    (pathOpen s w.m = true → (8 ≤ w.m.val ∨ commLevel s w = true) → x.st = .fetFault → Answers (.fetFaultClear w p) w [] s fun t =>
      let y := slot t p
      y.reason = 0 ∧ y.flashFet = none ∧ y.st = (if slotForced s p then .forcedOff else if x.locked then .lockout else x.restSt) ∧ others t ∧
      (x.reason = 7 → (group s (groupOf p)).closed = false → (group t (groupOf p)).closing = true ∧ t.out = [.groupGate (groupOf p) true]) ∧
      (x.reason ≠ 7 → group t (groupOf p) = group s (groupOf p)) ∧ Only [.usb, .pow, .qm] s t) ∧
    (pathOpen s w.m = true → w.m.val < 8 → commLevel s w = false → Refuses (.fetFaultClear w p)
      w (if !leaseHeldBy s w && s.lease.owner.isSome then 3 else 2) [.mf] s) ∧
    (mayWrite s w (0x80030 + 0x100 * p.val) = true → s.dbg.stepping = 0 →
      (Answers (.slotCmdFrc w p) w [] s fun t => (slot t p).forceFw = true ∧ (slot t p).st = (if x.st = .fetFault then .fetFault else .forcedOff) ∧
        (x.st.gateOn = true → t.out = [.slotGate p false]) ∧ others t ∧ Only [.usb, .pow, .regs] s t) ∧
      (Answers (.slotCmdRel w p) w [] s fun t => (slot t p).forceFw = false ∧
        (x.st = .forcedOff → slotEn s p = true → x.forceHost = false → (slot t p).st = if x.locked then .lockout else x.restSt) ∧
        others t ∧ Only [.usb, .pow, .regs] s t)) ∧
    (mayWrite s w (0x80004 + 0x100 * p.val) = true → s.dbg.stepping = 0 →
      (limitFits s p v.toNat = true → Answers (.limitWrite w p v) w [] s fun t =>
        slotLimit t p = min (max 1 v.toNat) (max 1 (slotCeil s p)) ∧ slotCeil t p = slotCeil s p ∧ Only [.regs] s t) ∧
      (limitFits s p v.toNat = false → Refuses (.limitWrite w p v) w 5 [.regs, .mf] s))

/-- R197 to R199: a group FET that a master opens, or whose gate fails, turns its powered slots off with REASON GROUP; one
commanded to close is closed with its fault cleared, unless a slot of the group is shorted under GRPPOL 0, which opens it
again with EV18. R196, R204, R205: a model evaluation moves both thermal elements, keeps the highest temperature and trips a
slot with its gate on at MODEL_TRIP; the input watch warns at a low level, a slope or a spread with EV61, once, and clears
with good inputs; an input below 18.0 V turns every powered slot off with REASON INPUT. -/
def Obligations.GroupsModelAndInputWatchProtect : Prop :=
  (∀ (w : Who) (g : Fin 4) (s : State),
    let x := group s g
    let opened := fun (t : State) => (group t g).closed = false ∧ (group t g).closing = false ∧ .groupGate g false ∈ t.out ∧
      (∀ h, h ≠ g → group t h = group s h) ∧ ∀ p, (groupOf p = g → (slot s p).st.gateOn = true →
          (slot t p).st = .seating ∧ (slot t p).reason = 10 ∧ .slotGate p false ∈ t.out) ∧
        (groupOf p ≠ g ∨ (slot s p).st.gateOn = false → slot t p = slot s p) ∧
        (groupOf p = g → x.closed = true → (port t (slotEntry p)).ss.chg &&& 8 = 8 ∧ (port t (slotEntry p)).hs.chg &&& 8 = 8)
    (mayWrite s w (0x83004 + 0x40 * g.val) = true → s.dbg.stepping = 0 → Answers (.groupOpen w g) w [] s fun t => opened t ∧
      (group t g).gfault = x.gfault ∧ (group t g).isol = x.isol ∧ Only [.usb, .pow, .regs] s t) ∧
    ((x.closing = true ∨ x.closed = true) → Completes (.groupGateFault g) s fun t => opened t ∧ (group t g).gfault = true ∧ Only [.usb, .pow] s t) ∧
    (x.closed = false → shortedIn s g = none → exec (.groupClose g) s = .next ((updGroup g (fun y =>
      { y with closed := true, closing := false, gfault := false, isol := false, islot := 0 }) s.fresh).emit [.groupGate g true])) ∧
    (∀ p, x.closed = false → shortedIn s g = some p → Completes (.groupClose g) s fun t => (group t g).closed = false ∧ (group t g).isol = true ∧
      (group t g).islot = p.val % 6 ∧ (group t g).gfault = false ∧ Counts 18 s t ∧ Only [.usb, .pow, .qm] s t)) ∧
  (∀ (p : Fin 24) (vds iout : Half) (vout : BitVec 13) (ts : BitVec 11) (v : VinSample) (slope : Bool) (s : State),
    let x := slot s p
    let m := (slotSet s p).model
    let pw : Rat := if x.st.gateOn then ((vds.toNat * iout.toNat : Nat) : Rat) / 1000000 else 0
    let da := x.da + (pw * (modelField m 7 0 / 20) - x.da) * ((2 / 1000000) / (modelField m 15 8 / 10000))
    let db := x.db + (pw * (modelField m 23 16 / 10) - x.db) * ((2 / 1000000) / (modelField m 31 24 / 200))
    let temp : Rat := (ts.toInt : Rat) / 4 + da + db
    let vins := fun (t : State) => ∀ g, (group t g).vin = (Tbl.get v g).toNat
    let low := fun (t : State) => decide (vinMin t < vwarn s) || slope || decide (vinMin t + 100 < vinMax t)
    (Completes (.modelUpdate p vds iout vout ts) s fun t => let y := slot t p
      y.da = da ∧ y.db = db ∧ y.tmodel = (temp * 4).floor ∧ y.tpeak = max x.tpeak (temp * 4).floor ∧
      (group t (groupOf p)).tsense = ts.toInt ∧ (∀ r, r ≠ p → slot t r = slot s r) ∧
      (x.st.gateOn = true → y.iout = min 8191 iout.toNat ∧ y.vout = vout.toNat ∧ y.peak = max x.peak iout.toNat) ∧
      (x.st.gateOn = true → (modelTrip s p : Rat) ≤ temp → y.st = .tripped ∧ Counts 16 s t ∧ t.out = [.slotGate p false] ∧
        (x.st = .ramp → y.reason = 1 ∧ y.ssub = 1) ∧ (x.st ≠ .ramp → y.reason = 4)) ∧
      ((x.st.gateOn = false ∨ temp < (modelTrip s p : Rat)) → y.st = x.st ∧ Only [.pow] s t) ∧ Only [.usb, .qm, .pow, .jr] s t) ∧
    (Completes (.inputWarning v slope) s fun t => vins t ∧ t.pow.level = decide (vinMin t < vwarn s) ∧ t.pow.slope = slope ∧
      t.pow.spread = decide (vinMin t + 100 < vinMax t) ∧ t.pow.slots = s.pow.slots ∧ t.pow.warn = (s.pow.warn || low t) ∧
      (s.pow.warn = false → low t = true → t.pow.warnCnt = min 255 (s.pow.warnCnt + 1) ∧ Counts 61 s t ∧
        Tbl.get t.jr.life 8 = lifeAdd (Tbl.get s.jr.life 8)) ∧
      ((s.pow.warn = true ∨ low t = false) → t.pow.warnCnt = s.pow.warnCnt ∧ t.jr = s.jr) ∧ Only [.pow, .qm, .jr] s t) ∧
    (Completes (.inputWarningClear v) s fun t => vins t ∧ t.pow.slots = s.pow.slots ∧ Only [.pow] s t ∧
      (if vwarn s + 50 ≤ vinMin t ∧ vinMax t ≤ vinMin t + 80 then t.pow.warn = false ∧ t.pow.level = false ∧ t.pow.slope = false ∧ t.pow.spread = false
       else t.pow.warn = s.pow.warn)) ∧
    (Completes (.inputUndervoltage v) s fun t => vins t ∧ Only [.usb, .pow, .qm] s t ∧ ∀ r, (slot t r = if vinMin t < 1800 ∧ (slot s r).st.gateOn = true then
        { slot s r with st := .seating, reason := 9 } else slot s r) ∧
      (vinMin t < 1800 → (slot s r).st.gateOn = true → .slotGate r false ∈ t.out)))

/-- R215, R220, R221: the states of a fabric port: block lock, training and probing with their limits, UP after a partner's SEEN 1 and
one measured delay, FAULT for a loop or a long link, and every row that leaves UP: the reason recorded, the egress queue flushed, EV30
and the exit counted. Credit blocks carry STOP by FIFO content, all four while the core is halted, and RF in DOWN. -/
def Obligations.FabricPortsFollowTheirTable : Prop :=
  ∀ (f : Fin 4) (t1 t2 t3 t4 : DWord) (h : Hello) (stop : BitVec 4) (b : Bool) (s : State),
    let p := fport s f
    let now := fun (c : Instr) (q : FPortS) => exec c s = .next (updFport f (fun _ => q) s.fresh)
    let others := fun (t : State) => ∀ g, g ≠ f → fport t g = fport s g
    let leaves := fun (c : Instr) (reason : Nat) => Completes c s fun t => (fport t f).st = .down ∧ (fport t f).reason = reason ∧
      (fport t f).downs = sat8 p.downs ∧ (fport t f).delays = [] ∧ (linkMask t).testBit f.val = true ∧ t.fab.lsDue = true ∧ others t ∧
      (qEn s (fabQ f) = true → (queue t (fabQ f)).banks = Tbl.fill 2 bankEmpty) ∧ Counts 30 s t ∧
      Tbl.get t.jr.life 7 = lifeAdd (Tbl.get s.jr.life 7) ∧ Only [.fab, .qm, .xb, .arb, .jr] s t
    (p.st = .down → now (.blockLockAcquired f) { p with st := .train, creditRun := 0, helloOk := false }) ∧
    (p.st = .train → now (.trainTimeout f) p.toDown ∧ (16 ≤ p.creditRun → p.helloOk = true → Completes (.trainComplete f t1) s fun t =>
      (fport t f).st = .probe ∧ (fport t f).delays = [] ∧ (fport t f).partnerSeen = false ∧ (fport t f).dreqSeq = p.dreqSeq + 1 ∧
      (fport t f).dreqT1 = some t1 ∧ others t ∧ (SendsTc0 s f → t.out = [.frame f (frameBytes (bcast s 4 (dreqBody (p.dreqSeq + 1) t1)) (dreqBody (p.dreqSeq + 1) t1))]) ∧
      Only [.fab] s t)) ∧
    (p.st = .probe →
      now (.probeTimeout f) p.toDown ∧
      (p.partnerSeen = true → p.delays ≠ [] → Completes (.probeComplete f) s fun t => (fport t f).st = .up ∧ (fport t f).seen0 = 0 ∧
        (linkMask t).testBit f.val = false ∧ t.fab.lsDue = true ∧ Tbl.get t.ev.cnt 30 = Tbl.get s.ev.cnt 30 ∧ others t ∧ Only [.fab, .qm, .arb] s t) ∧
      (p.dreqT1 = some t1 → 24000 < ((t4 - t1).toInt - (t3 - t2).toInt) / 2 + fabAsym s f → Completes (.drespReceive f p.dreqSeq t1 t2 t3 t4) s fun t =>
        (fport t f).st = .fault ∧ (fport t f).reason = 5 ∧ others t ∧ Only [.fab] s t) ∧
      (h.uid = Config.uniqueId → Completes (.helloReceive f h) s fun t => (fport t f).st = .fault ∧ (fport t f).reason = 6 ∧ others t ∧
        Only [.fab, .qm] s t)) ∧
    (p.st = .fault → now (.faultHoldExpired f) p.toDown) ∧
    (p.st = .up → leaves (.lossOfSignal f b) (if b then 2 else 1) ∧ (2 ≤ p.rfRun → leaves (.remoteFault f) 3) ∧ leaves (.helloDead f) 4 ∧
      (h.uid ≠ p.nbrUid → leaves (.helloReceive f h) 4) ∧ (h.uid = p.nbrUid → h.seen = false → 1 ≤ p.seen0 → leaves (.helloReceive f h) 4)) ∧
    (p.st ≠ .off →
      (Completes (.creditBlockReceive f stop b) s fun t => (fport t f).stopRx = stop ∧ (fport t f).creditRun = min 16 (p.creditRun + 1) ∧
        (fport t f).rfRun = (if b then min 2 (p.rfRun + 1) else 0) ∧ (fport t f).st = p.st ∧ others t ∧ Only [.fab, .arb] s t) ∧
      (Completes (.creditBlockSend f) s fun t => t.out = [.credit f (fport t f).stopTx.toNat (p.st == .down)] ∧ others t ∧ Only [.fab] s t ∧
        ∀ c : Fin 4, (fport t f).stopTx.getLsbD c.val = (s.xb.st != .run || decide (2048 < fifoBytes p c) ||
          (decide (1024 < fifoBytes p c) && p.stopTx.getLsbD c.val))))

/-- R213, R214, R217, R230: a frame that a port receives: a block error, a bad HCRC and a malformed header are counted and the frame is
discarded; a frame for another node goes on to the port its route names, with TTL one less, when its queue has credit, is dropped and
counted with TTL 1 or without a route; a frame for this node goes to its engine's queue; a frame of a class with frames held waits behind them. -/
def Obligations.FramesAreCheckedAndForwarded : Prop :=
  ∀ (f g : Fin 4) (b : List Byte) (st : Stamps) (p : Fin 2) (alt : Bool) (s : State),
    let x := fport s f
    let h := FHdr.ofBytes b
    let tc : Fin 4 := ⟨h.tc % 4, Nat.mod_lt _ (by decide)⟩
    let counts := fun (aborted : Bool) (q : FPortS) => exec (.frameReceive f b aborted st) s = .next (updFport f (fun _ => q) s.fresh)
    let good := 16 ≤ b.length ∧ hcrcOk b = true ∧ badHeader h b = false
    let mine := h.dst = 0xFFF ∨ (h.dst = s.fab.addr.toNat ∧ h.dst ≠ 0)
    (x.st = .off ∨ x.st = .down → exec (.frameReceive f b false st) s = .next s.fresh) ∧
    (x.st ≠ .off → x.st ≠ .down →
      counts true { x with blkErr := sat8 x.blkErr } ∧
      (b.length < 16 → counts false { x with badHdr := sat8 x.badHdr }) ∧
      (16 ≤ b.length → hcrcOk b = false → counts false { x with hcrcErr := sat8 x.hcrcErr }) ∧
      (16 ≤ b.length → hcrcOk b = true → badHeader h b = true → counts false { x with badHdr := sat8 x.badHdr }) ∧
      (good → x.fifo.any (fun y => y.tc = tc) = true → counts false { x with fifo := x.fifo ++ [{ tc := tc, bytes := b }] }) ∧
      (good → x.fifo.any (fun y => y.tc = tc) = false → ¬ mine → s.xb.st ≠ .run → ¬ (h.fclass = 4 ∨ (h.fclass = 3 ∧ bodyWord (frameBody b) 0 % 256 = 1)) →
        counts false { x with fifo := x.fifo ++ [{ tc := tc, bytes := b }] }) ∧
      (good → x.fifo.any (fun y => y.tc = tc) = false → s.xb.st = .run → ¬ mine →
        (h.ttl ≤ 1 → counts false { x with ttlDrop := sat8 x.ttlDrop }) ∧
        (1 < h.ttl → lookup s h.dst h.alt = .none → counts false { x with noRoute := sat8 x.noRoute }) ∧
        (1 < h.ttl → lookup s h.dst h.alt = .port g alt → (h.tc = 2 → qLevel s (fabQ g) ≤ tc2Admit s) → Takes s (fabQ g) p b.length → b.length ≤ 65535 →
          Completes (.frameReceive f b false st) s fun t => Took s t (fabQ g) p b.length ∧ (∀ j, j ≠ fabQ g → queue t j = queue s j) ∧ (fport t f).fifo = x.fifo ∧
            (∀ n, n ≠ f → n ≠ g → fport t n = fport s n ∨ fport t n = { fport s n with altFwd := sat8 (fport s n).altFwd }) ∧
            Only [.fab, .qm, .arb, .xb] s t)) ∧
      (good → x.fifo.any (fun y => y.tc = tc) = false → s.xb.st = .run → mine → h.fclass = 5 → fcrcOk b = true → Takes s 53 p b.length →
        Completes (.frameReceive f b false st) s fun t => Took s t 53 p b.length ∧ (∀ j, j ≠ 53 → queue t j = queue s j) ∧ Only [.qm] s t))

/-- R222 to R227: with PE5 running, a hello is sent and a received one is kept; link-state records are sent with a new SEQ, installed
when newer than the one held and flooded on the other UP ports, and expire; a node without an address asks, the steward grants a
free address of its range, and the target keeps the grant for the next tick; an address held by a node that R227 puts first is given up. -/
def Obligations.NodesLearnTheNetworkAndTheirAddress : Prop :=
  ∀ (f g : Fin 4) (h : Hello) (l : Lsr) (src pref a : BitVec 12) (ttl : BitVec 6) (uid stew : DWord) (seq : Word) (s : State),
    let p := fport s f
    let fab := s.fab
    let own := fun (n : Word) (t : State) => t.fab.lsSeq = n ∧ t.fab.lsDue = false ∧ t.fab.dbDirty.isSome = true ∧
      ∃ r ∈ t.fab.db, r.lsr.uid = Config.uniqueId ∧ r.lsr.seq = n ∧ r.lsr.origin = fab.addr ∧ r.at_ = s.time.tb
    let newer := ∀ r, s.fab.db.find? (fun r => r.lsr.uid = l.uid) = some r → r.lsr.seq.toNat < l.seq.toNat
    let floods := fun (body : List Byte) (t : State) => g ≠ f → fabUp s g = true → SendsTc0 s g → 1 < ttl.toNat →
      .frame g (frameBytes { fclass := 3, tc := 0, dst := 0xFFF, src := src.toNat, ttl := ttl.toNat - 1, len := body.length / 8, alt := false } body) ∈ t.out
    (SendsTc0 s f → Completes (.helloSend f) s fun t => Only [.fab] s t ∧
      t.out = [.frame f (frameBytes (bcast s 3 (helloBody (ownHello s f))) (helloBody (ownHello s f)))]) ∧
    (tc0Sends s f = true → (p.st = .up → h.uid = p.nbrUid ∧ (h.seen = true ∨ p.seen0 = 0)) → (p.st = .probe → h.uid ≠ Config.uniqueId) →
      Completes (.helloReceive f h) s fun t => let q := fport t f
        q.helloOk = true ∧ q.nbrUid = h.uid ∧ q.nbrAddr = h.addr ∧ q.nbrPort = h.port ∧ q.nbrFwok = h.fwok ∧ q.nbrCf = h.cfault ∧
        q.helloTb = some s.time.tb ∧ q.st = p.st ∧ q.seen0 = (if h.seen then 0 else p.seen0 + 1) ∧
        (p.st = .probe → q.partnerSeen = (p.partnerSeen || h.seen)) ∧ (∀ k, k ≠ f → fport t k = fport s k) ∧ Only [.fab, .qm] s t) ∧
    (peRuns s 5 = true →
      (fab.lsDue = true → Completes .lsrSend s fun t => own (fab.lsSeq + 1) t ∧ Only [.fab] s t) ∧
      (fab.lsDue = false → exec .lsrSend s = .next s.fresh) ∧
      (Completes .lsrRefresh s fun t => own (fab.lsSeq + 1) t ∧ Only [.fab] s t) ∧
      (uid ≠ Config.uniqueId → fab.db.any (fun r => r.lsr.uid = uid) = true → Completes (.lsrExpire uid) s fun t =>
        t.fab.db = fab.db.filter (fun r => r.lsr.uid ≠ uid) ∧ t.fab.dbDirty.isSome = true ∧ Only [.fab] s t) ∧
      (l.uid = Config.uniqueId → fab.lsSeq.toNat < l.seq.toNat → Completes (.lsrReceive f src ttl l) s fun t => own (l.seq + 1) t ∧ Only [.fab] s t) ∧
      (l.uid ≠ Config.uniqueId → newer → Completes (.lsrReceive f src ttl l) s fun t =>
        (∃ r ∈ t.fab.db, r.lsr = l ∧ r.at_ = s.time.tb) ∧ (∀ r ∈ t.fab.db, r.lsr.uid = l.uid → r.lsr = l) ∧ t.fab.dbDirty.isSome = true ∧
        (fab.addr ≠ 0 → l.origin = fab.addr → (l.static = true ∧ isStatic s = false ∨ l.static = isStatic s ∧ l.uid.toNat < Config.uniqueId.toNat) →
          t.fab.addr = 0 ∧ t.fab.asrc = (if isStatic s then 3 else 0) ∧ Counts 32 s t) ∧
        (l.origin ≠ fab.addr → t.fab.addr = fab.addr) ∧ floods (lsrBody l) t ∧ Only [.fab, .qm] s t) ∧
      (∀ r, l.uid ≠ Config.uniqueId → fab.db.find? (fun r => r.lsr.uid = l.uid) = some r → l.seq.toNat ≤ r.lsr.seq.toNat →
        Completes (.lsrReceive f src ttl l) s fun t => t.fab.db = fab.db ∧ t.fab.addr = fab.addr ∧ Only [.fab] s t) ∧
      (fab.addr = 0 → fab.asrc ≠ 3 →
        (steward s ≠ some Config.uniqueId → Completes .addrreqSend s fun t => t.fab.reqSeq = fab.reqSeq + 1 ∧ Only [.fab] s t ∧
          (fabUp s g = true → SendsTc0 s g →
            .frame g (frameBytes (bcast s 3 (addrReqBody fab.pref (fab.reqSeq + 1) Config.uniqueId)) (addrReqBody fab.pref (fab.reqSeq + 1) Config.uniqueId)) ∈ t.out)) ∧
        (steward s = some Config.uniqueId → fab.granted = none → dynBase s ≤ fab.pref.toNat → fab.pref.toNat ≤ dynLast s →
          addrTaken s Config.uniqueId fab.pref.toNat = false → Completes .addrreqSend s fun t => t.fab.granted = some fab.pref ∧
          t.fab.grants = fab.grants ++ [(fab.pref, Config.uniqueId, s.time.tb)] ∧ Only [.fab] s t)) ∧
      (isNew s 3 uid seq = true → Completes (.addrreqReceive f src ttl uid pref seq) s fun t => isNew t 3 uid seq = false ∧
        floods (addrReqBody pref seq uid) t ∧ Only [.fab] s t ∧ (steward s = some Config.uniqueId → fab.addr ≠ 0 → uid ≠ Config.uniqueId →
          dynLast s < 4096 → ∀ b, dynBase s ≤ b → b ≤ dynLast s → addrTaken s uid b = false → ∃ c : BitVec 12, t.fab.grants = fab.grants ++ [(c, uid, s.time.tb)] ∧
            dynBase s ≤ c.toNat ∧ c.toNat ≤ dynLast s ∧ addrTaken s uid c.toNat = false)) ∧
      (isNew s 3 uid seq = false → exec (.addrreqReceive f src ttl uid pref seq) s = .next s.fresh) ∧
      (isNew s 4 uid seq = true → Completes (.addrReceive f src ttl uid a seq stew) s fun t => isNew t 4 uid seq = false ∧
        floods (addrBody a seq uid stew) t ∧ t.fab.granted = (if uid = Config.uniqueId ∧ fab.addr = 0 ∧ fab.asrc ≠ 3 then some a else fab.granted) ∧
        Only [.fab] s t))

/-- R228, R229: PE5 computes the routes of the database into the shadow bank: this node's own address leads to its engines, the entry
of a node with a usable link to this node has a distance of at most that link's cost, a node that cannot forward has none, and an
address of no node keeps the reset entry; the bank the core reads does not change until a swap. -/
def Obligations.RoutesAreComputedAndSwapped : Prop :=
  ∀ (w : Who) (f : Fin 4) (m : Nat) (d : Lsr) (s : State),
    let fab := s.fab
    let self := ownLsr s
    let db := fab.db.map fun r => r.lsr
    let x := Tbl.get self.ports f
    let y := Tbl.get d.ports x.nbrPort
    (peRuns s 5 = true → fab.dbDirty ≠ none → Completes .routeRecompute s fun t =>
      t.fab.rtActive = fab.rtActive ∧ routeEntry t false m = routeEntry s false m ∧ t.fab.dbDirty = none ∧ Only [.fab] s t ∧
      (fab.addr ≠ 0 → fld (routeEntry t true fab.addr.toNat) 2 0 = 4) ∧
      (m ≠ fab.addr.toNat → (∀ l ∈ db, l.origin.toNat ≠ m ∨ l.uid = Config.uniqueId) → routeEntry t true m = 0xFFFF003F) ∧
      (d ∈ db → d.uid ≠ Config.uniqueId → (∀ l ∈ db, l.uid = d.uid ∨ l.origin = d.origin → l = d) →
        d.origin ≠ 0 → d.origin ≠ 0xFFF → d.origin ≠ fab.addr →
        (d.cfault = true → routeEntry t true d.origin.toNat = 0xFFFF003F) ∧
        (d.cfault = false → x.nbrUid = d.uid → x.up = true → y.up = true → y.nbrUid = Config.uniqueId → y.nbrPort = f →
          fld (routeEntry t true d.origin.toNat) 31 16 ≤ max 1 x.cost.toNat ∧ fld (routeEntry t true d.origin.toNat) 2 0 < 4))) ∧
    (mayWrite s w 0x90020 = true → s.dbg.stepping = 0 → Answers (.routeBankSwap w) w [] s fun t => t.fab.rtActive = !fab.rtActive ∧
      routeEntry t false m = routeEntry s true m ∧ t.fab.rt0 = fab.rt0 ∧ t.fab.rt1 = fab.rt1 ∧ Only [.fab, .regs] s t)

/-- R233, R234: delay requests and responses of a fabric port: a request carries the next SEQ8 and T1, is answered with T1, T2 and T3, and
its response adds half the round trip with the port's asymmetry to the last eight measurements; a SYNC on TUP sets the offset from
origin, correction and mean delay, and goes on to every other UP port with the residence time added. -/
def Obligations.DelayAndSyncFramesAreHandled : Prop :=
  ∀ (f g : Fin 4) (q : Byte) (m : BitVec 12) (sseq : Word) (t1 t2 t3 t4 origin corr trx : DWord) (ttx : Tbl 4 DWord) (s : State),
    let p := fport s f
    let others := fun (t : State) => ∀ k, k ≠ f → fport t k = fport s k
    let sent := fun (k : Fin 4) (body : List Byte) (t : State) => SendsTc0 s k → .frame k (frameBytes (bcast s 4 body) body) ∈ t.out
    let delay := ((t4 - t1).toInt - (t3 - t2).toInt) / 2 + fabAsym s f
    ((p.st = .probe ∨ p.st = .up) → Completes (.dreqSend f t1) s fun t => (fport t f).dreqSeq = p.dreqSeq + 1 ∧ (fport t f).dreqT1 = some t1 ∧
      (fport t f).st = p.st ∧ sent f (dreqBody (p.dreqSeq + 1) t1) t ∧ others t ∧ Only [.fab] s t) ∧
    (tc0Sends s f = true → Completes (.dreqReceive f q t1 t2 t3) s fun t => sent f (drespBody q t1 t2 t3) t ∧ others t ∧ Only [.fab] s t) ∧
    (p.dreqT1 = some t1 → (p.st = .probe → delay ≤ 24000) → exec (.drespReceive f p.dreqSeq t1 t2 t3 t4) s = .next (updFport f (fun p =>
      { p with dreqT1 := none, delays := (p.delays ++ [delay]).drop ((p.delays ++ [delay]).length - 8) }) s.fresh)) ∧
    ((q ≠ p.dreqSeq ∨ p.dreqT1 ≠ some t1) → exec (.drespReceive f q t1 t2 t3 t4) s = .next s.fresh) ∧
    (s.fab.tup = some f → s.fab.tst ≠ .master → s.xb.st ≠ .fault → fabUp s f = true →
      Completes (.syncReceive f m sseq origin corr trx ttx) s fun t => t.fab.masterAddr = m ∧
        t.fab.ofs = trx.toInt - (origin.toInt + corr.toInt + delayMean p) ∧
        (g ≠ f → fabUp s g = true → sent g (syncBody m sseq origin (BitVec.ofInt 64 (corr.toInt + delayMean p + ((Tbl.get ttx g).toInt - trx.toInt)))) t) ∧
        Only [.fab, .time, .free, .qm] s t) ∧
    (s.fab.tup ≠ some f → exec (.syncReceive f m sseq origin corr trx ttx) s = .next s.fresh)

/-- R19, R232, R235 to R237: the time states: an accepted SYNC leads from FREE and HOLDOVER to ACQUIRE; in ACQUIRE an offset below
-1 us steps TB forward at the next boundary, one above 1 us steers back, and the sixteenth within 100 ns leads to LOCKED; LOCKED ends
with EV31 beyond 1 us. Loss of SYNC leads to HOLDOVER with EV31, and its end to FREE at the nominal rate. Four good edges of TIMEREF_IN
make it valid, and its loss ends that. Snapshot targets are queued by their command, and armed or missed when received. -/
def Obligations.TimeStatesFollowTheirSources : Prop :=
  ∀ (w : Who) (f : Fin 4) (m src origin12 : BitVec 12) (ttl : BitVec 6) (id sseq : Word) (n : Fin 4) (origin corr trx target : DWord)
    (ttx : Tbl 4 DWord) (s : State),
    let fab := s.fab
    let o : Int := trx.toInt - (origin.toInt + corr.toInt + delayMean (fport s f))
    let nominal := if s.ao.onPll then 5 * 2 ^ 24 else Config.fircInc.toNat
    let sync := fun (P : State → Prop) => Completes (.syncReceive f m sseq origin corr trx ttx) s P
    let edge := match fab.trefLast with
      | some t => decide (999900000 ≤ s.time.tb.toNat - t.toNat) && decide (s.time.tb.toNat - t.toNat ≤ 1000100000)
      | none => false
    (fab.tup = some f → s.xb.st ≠ .fault → fabUp s f = true →
      ((fab.tst = .free ∨ fab.tst = .holdover) → sync fun t => t.fab.tst = .acquire ∧ t.fab.goodSync = 0 ∧ t.time = s.time) ∧
      (fab.tst = .acquire → o < -16000 → sync fun t => t.fab.tst = .acquire ∧ t.fab.step = (-o).toNat / 16 ∧ t.fab.goodSync = 0 ∧ t.time = s.time) ∧
      (fab.tst = .acquire → 16000 < o → sync fun t => t.fab.tst = .acquire ∧ t.fab.goodSync = 0 ∧
        t.time = { s.time with inc := BitVec.ofNat 32 (nominal - nominal / 5000) }) ∧
      (fab.tst = .acquire → o.natAbs ≤ 1600 → fab.goodSync < 15 → sync fun t => t.fab.tst = .acquire ∧ t.fab.goodSync = fab.goodSync + 1 ∧ t.time = s.time) ∧
      (fab.tst = .acquire → o.natAbs ≤ 1600 → 15 ≤ fab.goodSync → sync fun t => t.fab.tst = .locked ∧ t.time.tbEst = false ∧ t.time.tbUnc = 0) ∧
      (fab.tst = .acquire → o.natAbs ≤ 16000 → 1600 < o.natAbs → sync fun t => t.fab.tst = .acquire ∧ t.fab.goodSync = 0 ∧ t.time = s.time) ∧
      (fab.tst = .locked → 16000 < o.natAbs → sync fun t => t.fab.tst = .acquire ∧ Counts 31 s t) ∧
      (fab.tst = .locked → o.natAbs ≤ 16000 → nominal + nominal / 5000 < 2 ^ 32 → sync fun t => t.fab.tst = .locked ∧ t.time = { s.time with inc := t.time.inc } ∧
        nominal - nominal / 5000 ≤ t.time.inc.toNat ∧ t.time.inc.toNat ≤ nominal + nominal / 5000)) ∧
    ((fab.tst = .acquire ∨ fab.tst = .locked) → Completes .syncLoss s fun t => t.fab = { fab with tst := .holdover, goodSync := 0 } ∧ Counts 31 s t ∧
      Only [.fab, .qm] s t) ∧
    (fab.tst = .holdover → exec .holdoverExpired s = .next { s.fresh with
      fab := { fab with tst := .free }, time := { s.time with inc := BitVec.ofNat 32 nominal } }) ∧
    (Completes .timerefInEdge s fun t => t.fab.trefLast = some s.time.tb ∧ t.fab.trefRun = (if edge then min 4 (fab.trefRun + 1) else 1) ∧
      t.fab.trefValid = ((edge && decide (3 ≤ fab.trefRun)) || (fab.trefValid && edge)) ∧
      (peRuns s 5 = false → fab.tst = .master → fab.trefStepped = false → t.fab.trefValid = true → t.fab.trefStepped = true ∧
        t.fab.step = (1000000000 - s.time.tb.toNat % 1000000000) % 1000000000) ∧ Only [.fab, .time, .free, .qm] s t) ∧
    (Completes .timerefInLoss s fun t => t.fab.trefValid = false ∧ t.fab.trefRun = 0 ∧ t.fab.trefLast = none ∧ t.fab.trefStepped = false ∧
      Only [.fab, .qm] s t) ∧
    (mayOd s w 0x4030 3 [1] = true → Answers (.snapshotSchedule w) w [] s fun t =>
      t.od.pend = s.od.pend ++ [{ key := 0x403003, bytes := [1], master := w.m, node := w.node }] ∧ t.fab = fab ∧ Only [.od] s t) ∧
    (peRuns s 5 = true → isNew s 5 (BitVec.ofNat 64 origin12.toNat) id = true →
      (∀ k, k.val < n.val → (Tbl.get s.snap.tgt k).armed = true) → (Tbl.get s.snap.tgt n).armed = false →
      (s.time.tb.toNat < target.toNat → Completes (.snaptReceive f src ttl id origin12 target) s fun t =>
        Tbl.get t.snap.tgt n = { armed := true, target := target, id := id } ∧ Only [.fab] s t) ∧
      (target.toNat ≤ s.time.tb.toNat → Completes (.snaptReceive f src ttl id origin12 target) s fun t =>
        Tbl.get t.snap.tgt n = Tbl.get s.snap.tgt n ∧ Counts 33 s t ∧ Only [.fab, .qm] s t))

/-- R239 to R242: a remote request is answered with status 8 while PE0 does not serve; a read is answered with the value and kept for a
repetition, which reads nothing again; a whole write takes effect and a part waits for the rest. A gateway command sends its request,
or reads status 4 without a route; its response fills in value and status; three timeouts read status 3. The lease of a remote node
without a route is revoked with EV8. -/
def Obligations.RemoteRequestsAndGatewaysWork : Prop :=
  ∀ (src : BitVec 12) (r : OdxMsg) (info : BindInfo) (m : Fin 16) (cmd : Fin 3) (row : OdRow) (code : Nat) (d : List Byte) (e : OdxStore) (s s1 : State),
    let s0 := odxExpire s.fresh
    let found := s0.fab.odxStore.find? fun e => e.src = src && e.tag = r.tag
    let kept := fun (st : Nat) (d : List Byte) (t : State) => t.fab.odxStore.getLast? =
      some (OdxStore.mk src r.tag s.time.tb (if r.write then 0x82 else 0x81) r.index r.sub st d) ∧ t.fab.odxStore.length ≤ 16
    let g := gate s m
    let req := fun (g : GateS) => 32 + (if g.cmd = 2 then up8 g.value.length else 0)
    let w : Who := { m := m, node := 0 }
    (s.dbg.stepping = 0 →
      (odServes s = false → Completes (.odxRequestReceive src r) s fun t => Sends s t src 32 ∧ Only [.qm, .arb, .fab] s t) ∧
      (odServes s = true → found = some e → e.data.length ≤ 2016 → Completes (.odxRequestReceive src r) s fun t => t.fab.odxStore = s0.fab.odxStore ∧
        t.fab.odxParts = s0.fab.odxParts ∧ Sends s t src (32 + up8 e.data.length) ∧ Only [.qm, .arb, .fab] s t) ∧
      (odServes s = true → found = none → r.write = false → odRead (remoteWho src) r.index.toNat r.sub.toNat s0 = (code, d, s1) → d.length ≤ 2016 →
        s1 = s0 → Completes (.odxRequestReceive src r) s fun t => kept code d t ∧ Sends s t src (32 + up8 d.length) ∧ Only [.qm, .arb, .fab] s t) ∧
      (odServes s = true → found = none → r.write = true → r.off = 0 → odxPartOf s0 src r.tag = none →
        (r.last = false → Completes (.odxRequestReceive src r) s fun t => t.fab.odxStore = s0.fab.odxStore ∧
          t.fab.odxParts = s0.fab.odxParts ++ [{ src := src, tag := r.tag, at_ := s.time.tb, data := r.data }] ∧ Only [.fab] s t) ∧
        (r.last = true → r.data.length ≠ r.total → Completes (.odxRequestReceive src r) s fun t => kept 5 [] t ∧ Sends s t src 32 ∧ Only [.qm, .arb, .fab] s t) ∧
        (r.last = true → r.data.length = r.total → odRow r.index.toNat r.sub.toNat = some row → row.takes = .reset →
          mayOd s (remoteWho src) r.index.toNat r.sub.toNat r.data = true → Completes (.odxRequestReceive src r) s fun t => kept 0 [] t ∧
            t.od = { s.od with vals := Sparse.put odDefault s.od.vals (odKey r.index.toNat r.sub.toNat) r.data } ∧ Sends s t src 32 ∧
            Only [.qm, .arb, .fab, .od] s t))) ∧
    (gateWaits g src r = true → (∀ k, k.val < m.val → gateWaits (gate s k) src r = false) → r.write = false → r.off = 0 → r.last = true → r.status = 0 →
      exec (.odxResponseReceive src r info) s = .next (updGate m (fun g => { g with value := r.data, status := 2, remote := 0, cmd := 0 }) s.fresh)) ∧
    (gateWaits g src r = true → (∀ k, k.val < m.val → gateWaits (gate s k) src r = false) → r.write = true → r.last = true →
      exec (.odxResponseReceive src r info) s = .next (updGate m (fun g =>
        { g with status := (if r.status = 2 then 5 else 2), remote := r.status, cmd := 0 }) s.fresh)) ∧
    (mayOd s w (0x4090 + m.val) 4 [BitVec.ofNat 8 cmd.val] = true →
      (noRouteTo s (gateNode g) = true → Answers (.gatewayCommand m cmd) w [] s fun t => (gate t m).status = 4 ∧ (gate t m).cmd = 0 ∧ Only [.fab] s t) ∧
      (noRouteTo s (gateNode g) = false → (g.value.length ≤ 2016 ∨ cmd.val ≠ 2) → Answers (.gatewayCommand m cmd) w [] s fun t =>
        gate t m = { g with cmd := BitVec.ofNat 8 cmd.val, status := 1, remote := 0, tag := s.fab.gateTag + 1, attempts := 1 } ∧
        t.fab.gateTag = s.fab.gateTag + 1 ∧ Sends s t (gateNode g) (req (gate t m)) ∧ Only [.qm, .arb, .fab] s t)) ∧
    (peRuns s 0 = true → g.status = 1 →
      (g.attempts < 3 → noRouteTo s (gateNode g) = false → (g.value.length ≤ 2016 ∨ g.cmd ≠ 2) → Completes (.gatewayTimeout m) s fun t =>
        gate t m = { g with attempts := g.attempts + 1 } ∧ Sends s t (gateNode g) (req g) ∧ Only [.qm, .arb, .fab] s t) ∧
      (3 ≤ g.attempts → exec (.gatewayTimeout m) s = .next (updGate m (fun g => { g with status := 3, cmd := 0 }) s.fresh))) ∧
    (s.lease.owner = some 4 → noRouteTo s s.lease.node = true → Completes .remoteLeaseRevoke s fun t => t.lease.owner = none ∧
      t.lease.comm = false ∧ Counts 8 s t ∧ t.regs.shadows = s.regs.shadows.filter (fun h => h.writer ≠ 4) ∧ Only [.lease, .regs, .od] s t)

/-- R262 to R266, R268: a sending channel numbers its items and sends while the window allows; a receiving end admits the next SEQ in
order, answers a gap or a bad frame with one NAK and a duplicate with an ACK; an ACK moves the mark; a NAK and a timeout replay from
the mark, and REPLAY_LIM of them without progress fail the channel with EV36 and CHFAIL. EN opens a channel at SEQ 0 and closes it. A relay
holds four reports, which the host's polls take in order. -/
def Obligations.ChannelsNumberAcknowledgeAndReplay : Prop :=
  ∀ (w : Who) (n : Fin 48) (seq next : Byte) (payload : List Byte) (poison good : Bool) (win : BitVec 6) (p : Fin 2) (f : Fin 4) (s : State),
    let c := chan s n
    let q := chanQ n
    let peer := bindPeer s n
    let gap := (seq - c.seq).toNat
    let k := (next - c.markSeq).toNat
    let s0 := if c.unack = 0 then (qMark q s.fresh).2 else s.fresh
    let d := (qDequeue q 65528 s0).1
    let sends := (c.st = .open_ ∨ c.st = .replay) ∧ receives s n = false
    let others := fun (t : State) => ∀ j, j ≠ n → chan t j = chan s j
    let fails := fun (i : Instr) => Completes i s fun t => (chan t n).st = .failed ∧ Counts 36 s t ∧ others t ∧
      (∃ m ∈ t.xpt.msgs, m.op = 0x41 ∧ m.peer = peer ∧ m.tag = s.xpt.tag + 1) ∧ Only [.qm, .arb, .fab, .xpt] s t
    let acks := fun (i : Instr) (nak : Bool) (P : ChanS → Prop) => Completes i s fun t => P (chan t n) ∧ (chan t n).seq = c.seq ∧
      (chan t n).markSeq = c.seq ∧ (chan t n).since = 0 ∧ (chan t n).nakDone = (c.nakDone || nak) ∧ others t ∧ Sends s t peer 24 ∧
      Only [.qm, .arb, .fab, .xpt] s t
    let replays := fun (i : Instr) (mark : Byte) => Completes i s fun t => (chan t n).st = .replay ∧ (chan t n).seq = mark ∧ (chan t n).unack = 0 ∧
      (chan t n).strikes = c.strikes + 1 ∧ (chan t n).replays = sat8 c.replays ∧ others t ∧ Only [.qm, .xpt] s t
    (sends → n.val < 16 → c.unack < sendWindow s n →
      (d.status = 0 → Completes (.channelSend n) s fun t => (chan t n).seq = c.seq + 1 ∧ (chan t n).unack = c.unack + 1 ∧
        (chan t n).st = c.st ∧ others t ∧ (chanTc s n = 2 → lookup s peer.toNat false = .port f false → ∃ last, (burstLen s ≤ c.burst + 1 → last = true) ∧
          (chan t n).burst = (if last then 0 else c.burst + 1) ∧
          t.out = [.frame f (frameBytes { fclass := 0, tc := 2, dst := peer.toNat, src := s.fab.addr.toNat, ttl := 32, len := (8 + up8 d.data.length) / 8, alt := false }
            (dataWord c.seq (bindPchan s n) d.data.length last (decide (d.data.length < epMps s n)) 0 (captureTb s d.ts) ++ wordsOf d.data))]) ∧
        Only [.qm, .arb, .fab, .xpt] s t) ∧
      (d.status = 11 → fails (.channelSend n))) ∧
    (receives s n = true → c.st = .open_ →
      (gap = 0 → good = true → n.val < 16 → Takes s q p payload.length → Completes (.channelDataReceive n seq payload good false) s fun t =>
        Took s t q p payload.length ∧ chan t n = { c with seq := c.seq + 1, nakDone := false, since := c.since + 1 } ∧ others t ∧ Only [.qm, .xpt] s t) ∧
      (gap = 0 → good = true → 16 ≤ n.val → c.reports.length < 4 → exec (.channelDataReceive n seq payload good false) s = .next (updChan n
        (fun c => { c with seq := c.seq + 1, nakDone := false, since := c.since + 1, reports := c.reports ++ [payload] }) s.fresh)) ∧
      (gap = 0 → (good = false ∨ poison = true) → c.nakDone = false → acks (.channelDataReceive n seq payload good poison) true fun _ => True) ∧
      (0 < gap → gap ≤ 127 → c.nakDone = false → acks (.channelDataReceive n seq payload good poison) true fun x => x.ooo = sat8 c.ooo) ∧
      (0 < gap → gap ≤ 127 → c.nakDone = true → exec (.channelDataReceive n seq payload good poison) s =
        .next (updChan n (fun c => { c with ooo := sat8 c.ooo }) s.fresh)) ∧
      (127 < gap → acks (.channelDataReceive n seq payload good poison) false fun x => x.dup = sat8 c.dup) ∧
      acks (.ackSend n) false (fun x => x.st = .open_)) ∧
    (sends → bindEn s n = true →
      (0 < k → k ≤ c.unack → Completes (.channelAckReceive n peer next false win) s fun t => (chan t n).markSeq = next ∧ (chan t n).unack = c.unack - k ∧
        (chan t n).pwin = win.toNat ∧ (chan t n).strikes = 0 ∧ (chan t n).st = .open_ ∧ (chan t n).seq = c.seq ∧
        (16 ≤ n.val → (chan t n).reports = c.reports.drop k) ∧ others t ∧ Only [.qm, .xpt] s t) ∧
      ((k = 0 ∨ c.unack < k) → exec (.channelAckReceive n peer next false win) s = .next (updChan n (fun c => { c with pwin := win.toNat }) s.fresh)) ∧
      (n.val < 16 → c.strikes + 1 < replayLim s → replays (.channelAckReceive n peer next true win) (if 0 < k ∧ k ≤ c.unack then next else c.markSeq)) ∧
      (replayLim s ≤ c.strikes + 1 → fails (.channelAckReceive n peer next true win))) ∧
    (sends → 0 < c.unack → (n.val < 16 → c.strikes + 1 < replayLim s → replays (.ackTimeout n) c.markSeq) ∧
      (replayLim s ≤ c.strikes + 1 → fails (.ackTimeout n))) ∧
    (mayWrite s w (bindAddr n.val) = true → s.dbg.stepping = 0 →
      (bindEn s n = false → c.st = .closed → Answers (.channelOpen w n) w [] s fun t => chan t n = { chanZero with st := .open_ } ∧ bindEn t n = true ∧
        others t ∧ Only [.regs, .xpt, .eng] s t) ∧
      (bindEn s n = true → c.st ≠ .closed → Answers (.channelClose w n) w [] s fun t => chan t n = { c with st := .closed, unack := 0, reports := [] } ∧
        bindEn t n = false ∧ (n.val < 16 → qEn s q = true → (queue t q).banks = Tbl.fill 2 bankEmpty ∧ (queue t q).mark = none) ∧
        others t ∧ Only [.regs, .xpt, .qm] s t)) ∧
    (16 ≤ n.val → sends → c.reports.length < 4 → Completes (.relayPoll n payload) s fun t => (chan t n).seq = c.seq + 1 ∧ (chan t n).unack = c.unack + 1 ∧
      (chan t n).reports = c.reports ++ [payload.take (epMps s n)] ∧ others t ∧ Sends s t peer (24 + up8 (payload.take (epMps s n)).length) ∧
      Only [.qm, .arb, .fab, .xpt] s t) ∧
    (16 ≤ n.val → receives s n = true → c.st = .open_ → (∀ r l, c.reports = r :: l → exec (.relayHostPoll n) s =
        .next ((updChan n (fun c => { c with reports := l }) s.fresh).answer (.done r))) ∧
      (c.reports = [] → exec (.relayHostPoll n) s = .next (s.fresh.answer .nak)))

/-- R247 to R253, R270: an export entry powers its port, enumerates a connected device and becomes READY, or REFUSED with its reason and
EV35; a bind of a READY device that its permission allows binds it to the importer, and any other is refused with its reason; an unbind
and a lost device end the binding. An import in service asks its exporter, and the exporter's answer binds it or records the refusal. -/
def Obligations.DevicesAreExportedAndBound : Prop :=
  ∀ (w : Who) (p : Fin 24) (v : Fin 16) (src : BitVec 12) (failed : Bool) (descs : List Desc) (r : OdxMsg) (info : BindInfo) (s : State),
    let x := exps s p
    let e := slotEntry p
    let q := port s e
    let i := imp s v
    let dev := ((descs.find? fun d => d.typ = 1).map fun d => d.bytes).getD []
    let others := fun (t : State) => ∀ k, k ≠ p → exps t k = exps s k
    let refused := fun (code : Nat) (t : State) => (exps t p).st = .refused ∧ (exps t p).refuse = code ∧ Counts 35 s t
    let cmd : List Byte := le32 (src.toNat + 2 ^ 12 * v.val + 2 ^ 24)
    let asks := mayOd s w 0x4804 (p.val + 1) cmd = true
    let perm := odNum s 0x4802 (p.val + 1)
    let denies := fun (reason : Nat) => Refuses (.bind w p src v) w 5 [.xpt, .mf] s ∧
      Completes (.bind w p src v) s fun t => exps t p = { x with breason := reason } ∧ others t
    let o := topoOwner s (virtEntry v)
    (roleRuns s 27 = true →
      (isExport s p = true → q.st = .disconnected → q.holding = false → Completes (.exportPortPower p) s fun t =>
        (port t e).powerOf true = true ∧ (port t e).powerOf false = true ∧ (slotPowered s p = false → (port t e).st = .seating) ∧
        (slotPowered s p = true → q.held = false → (port t e).st = .powered) ∧ (∀ k, k ≠ e → port t k = port s k) ∧ Only [.usb] s t) ∧
      (isExport s p = true → x.st = .empty → slotConnected s p = true → Completes (.exportEnumStart p) s fun t => (exps t p).st = .enum ∧
        (exps t p).speed = q.speed ∧ (exps t p).cache = [] ∧ (exps t p).importer = 0 ∧ others t ∧
        (q.connHS = true → (port t e).st = .reset ∧ (port t e).resetKind = some 0 ∧ t.out = [.portReset e 0]) ∧
        (q.connHS = false → t.usb.ports = s.usb.ports) ∧ Only [.usb, .xpt] s t) ∧
      (x.st = .enum → Completes (.exportEnumComplete p failed descs) s fun t =>
        (exps t p).vid = BitVec.ofNat 16 (dbyte dev 8 + 256 * dbyte dev 9) ∧ (exps t p).pid = BitVec.ofNat 16 (dbyte dev 10 + 256 * dbyte dev 11) ∧
        (exps t p).speed = q.speed ∧ (refuseCode failed q.speed descs = 0 → (exps t p).st = .ready ∧ (exps t p).cache = descs) ∧
        (refuseCode failed q.speed descs ≠ 0 → refused (refuseCode failed q.speed descs) t) ∧ others t ∧ Only [.xpt, .qm] s t) ∧
      (x.st = .enum → Completes (.exportEnumTimeout p) s fun t => refused 7 t ∧ others t ∧ Only [.xpt, .qm] s t)) ∧
    (x.st ≠ .empty → (isExport s p = false ∨ slotConnected s p = false ∨ slotPowered s p = false) → Completes (.exportDeviceGone p) s fun t =>
      (exps t p).st = .empty ∧ (exps t p).cache = [] ∧ (exps t p).importer = 0 ∧ chansOf t p.val = [] ∧ others t ∧
      (x.st = .bound → ∃ m ∈ t.xpt.msgs, m.op = 0x40 ∧ m.peer = x.importer ∧ m.slot = p.val + 1) ∧ Only [.regs, .qm, .arb, .fab, .xpt] s t) ∧
    (asks → (w.m = 4 → w.node = src) →
      (x.st = .ready → (perm = 0 ∨ perm = src.toNat) → Answers (.bind w p src v) w [] s fun t =>
        exps t p = { x with st := .bound, importer := src, vslot := v, breason := 0 } ∧ others t ∧ Only [.xpt, .od] s t) ∧
      (x.st = .bound → x.importer ≠ src → denies 2) ∧ ((x.st = .empty ∨ x.st = .enum ∨ x.st = .refused) → denies 1) ∧
      (x.st = .ready → perm ≠ 0 → perm ≠ src.toNat → denies 3)) ∧
    (asks → w.m = 4 → w.node ≠ src → Refuses (.bind w p src v) w 2 [] s) ∧
    (mayOd s w 0x4804 (p.val + 1) (le32 (2 ^ 25)) = true → (w.m = 4 → w.node = x.importer) →
      (x.st = .bound → Answers (.unbind w p) w [] s fun t => (exps t p).st = .enum ∧ (exps t p).importer = 0 ∧ chansOf t p.val = [] ∧
        (port t e).st = .reset ∧ (port t e).resetKind = some (if q.connSS then 1 else 0) ∧ others t ∧ Only [.regs, .qm, .usb, .xpt, .od] s t) ∧
      (x.st ≠ .bound → Refuses (.unbind w p) w 5 [.mf] s)) ∧
    (roleRuns s 27 = true → impOn s v = true → 1 ≤ o → o ≤ 3 → importBound s v.val = false → Completes (.importBindAttempt v) s fun t =>
      imp t v = { i with st := .binding, bindTag := some (s.fab.gateTag + 1) } ∧ t.fab.gateTag = s.fab.gateTag + 1 ∧
      Sends s t (impAddr s v) 40 ∧ Only [.xpt, .fab, .qm, .arb] s t) ∧
    ((∀ m, gateWaits (gate s m) src r = false) → i.bindTag = some r.tag → impAddr s v = src → r.write = true →
      (∀ k, k.val < v.val → (imp s k).bindTag ≠ some r.tag ∨ impAddr s k ≠ src) →
      (r.status ≠ 0 → exec (.odxResponseReceive src r info) s = .next (updImp v (fun i =>
        { i with st := .refused, bindTag := none, breason := info.breason.val }) s.fresh)) ∧
      (r.status = 0 → Completes (.odxResponseReceive src r info) s fun t => ((imp t v).st = .bound ∨ (imp t v).st = .noSpeed) ∧ (imp t v).bindTag = none ∧
        (imp t v).speed = info.speed.toSpeed ∧ (imp t v).cache = info.cache ∧ (imp t v).config = 0 ∧ Only [.usb, .xpt] s t))

/-- R74, R254 to R257, R259, R270: a request at a virtual slot is answered from the cache or state where R254 says so, refused where it
says so, and else forwarded in one message while the host is held off; the response offers the answer, or STALL for any other status,
and keeps what R254 keeps; a limit ends with EV37. The virtual port completes its reset by the answer, or is disabled after 300 ms. -/
def Obligations.ImportersForwardRequests : Prop :=
  ∀ (v : Fin 16) (setup data : List Byte) (tag : Half) (status : Nat) (speed : SpeedCode) (req : HostReq) (kind : Fin 3) (s : State),
    let i := imp s v
    let e := virtEntry v
    let q := port s e
    let peer := impAddr s v
    let slot := impSlot s v
    let others := fun (t : State) => ∀ k, k ≠ v → imp t k = imp s k
    let held : Reply := if i.speed.isSS then .nrdy else .nak
    let serves := roleRuns s 27 = true ∧ importBound s v.val = true ∧ q.st ≠ .disconnected ∧ q.st ≠ .seating ∧ q.st ≠ .powered ∧ i.resetOf = none ∧ i.req = none
    let answers := fun (r : Reply) => exec (.virtualControlRequest v setup data) s = .next (s.fresh.answer r)
    let mine := roleRuns s 27 = true ∧ importBound s v.val = true ∧ ∀ k, importBound s k.val = true → impAddr s k = peer → impSlot s k = slot → k = v
    (serves →
      (classify i.cache setup data = .refused → answers .requestError) ∧
      (classify i.cache setup data = .local_ → answers (.done (localAnswer i setup))) ∧
      ((classify i.cache setup data = .noData ∨ classify i.cache setup data = .sIn ∨ classify i.cache setup data = .classVendor) →
        opensChannels (forwarded setup) = false → Completes (.virtualControlRequest v setup data) s fun t => t.reply = held ∧
          imp t v = { i with req := some { tag := s.xpt.tag + 1, setup := forwarded setup, data := data } } ∧ others t ∧
          (∃ m ∈ t.xpt.msgs, m.op = 0x01 ∧ m.tag = s.xpt.tag + 1 ∧ m.peer = peer ∧ m.slot = slot) ∧ t.xpt.tag = s.xpt.tag + 1)) ∧
    (roleRuns s 27 = false → i.st = .bound → answers held) ∧
    (roleRuns s 27 = true → importBound s v.val = false → answers .requestError) ∧
    (mine → i.req = some req → req.tag = tag →
      (status ≠ 0 → Completes (.ctrlRsp peer slot tag status data) s fun t => t.reply = .requestError ∧ imp t v = { i with req := none } ∧ others t ∧
        (∀ m ∈ t.xpt.msgs, ¬ (m.peer = peer ∧ m.slot = slot ∧ m.tag = tag ∧ m.op = 0x01)) ∧ Only [.xpt] s t) ∧
      (opensChannels req.setup = false → Completes (.ctrlRsp peer slot tag 0 data) s fun t => t.reply = .done data ∧
        imp t v = ({ i with req := none } : ImpS).keep req.setup ∧ others t ∧ Only [.xpt, .qm, .eng] s t)) ∧
    (roleRuns s 27 = true → i.req = some req → Completes (.importLimitExpired v) s fun t => t.reply = .requestError ∧ imp t v = { i with req := none } ∧
      others t ∧ Counts 37 s t ∧ (∃ m ∈ t.xpt.msgs, m.op = 0x10 ∧ m.tag = req.tag ∧ m.peer = peer) ∧ Only [.xpt, .qm, .arb, .fab] s t) ∧
    (mine → i.resetOf = some (tag, kind) → q.st = .reset → Completes (.ctrlResetAnswer peer slot tag speed) s fun t =>
      imp t v = { i with resetOf := none, speed := speed.toSpeed } ∧ others t ∧ (port t e).st = .enabled ∧ (port t e).resetKind = none ∧
      (port t e).speed = speed.toSpeed ∧ (kind = 0 → (port t e).hs.has 1 = true ∧ (port t e).hs.has 4 = false ∧ (port t e).hs.chg = q.hs.chg ||| 0x10) ∧
      (kind ≠ 0 → (port t e).ss.has 0 = true ∧ (port t e).ss.has 1 = true ∧ (port t e).ss.has 4 = false ∧ (port t e).link = .u0 ∧
        (port t e).ss.chg = q.ss.chg ||| (if kind = 2 then 0x30 else 0x10)) ∧ (∀ k, k ≠ e → port t k = port s k) ∧ Only [.usb, .xpt] s t) ∧
    (roleRuns s 27 = true → i.resetOf = some (tag, kind) → Completes (.virtualResetTimeout v) s fun t => imp t v = { i with resetOf := none } ∧ others t ∧
      (port t e).st = .disabled ∧ (port t e).resetKind = none ∧
      (let h := if kind = 0 then (port t e).hs else (port t e).ss
       h.has 1 = false ∧ h.has 4 = false ∧ h.chg &&& 0x10 = 0x10) ∧ (∀ k, k ≠ e → port t k = port s k) ∧ Only [.usb, .xpt] s t)

/-- R74, R256, R258 to R260, R270: the exporter of a bound device runs a request of its importer once, repeats the kept answer of its TAG, and
refuses any other sender with status 4; an abort and the device allowance end the request, with a reset of the device where R74 asks for
one; RESET, SUSPEND, RESUME, WAKE, DETACH, CHFAIL and PING act and are answered; an answer ends the resending of its message; a lost peer
ends its bindings with EV38. -/
def Obligations.ExportersServeControlMessages : Prop :=
  ∀ (p : Fin 24) (v : Fin 16) (src : BitVec 12) (tag : Half) (setup data : List Byte) (kind : Fin 4) (k3 : Fin 3) (slot : Nat) (op ep : Byte) (d : List Byte)
    (r : DevReq) (a : AnswerS) (g : MsgS) (n : Fin 48) (s : State), roleRuns s 27 = true →
    let x := exps s p
    let e := slotEntry p
    let others := fun (t : State) => ∀ j, j ≠ p → exps t j = exps s j
    let net : List Comp := [.qm, .arb, .fab]
    let keeps := fun (op : Byte) (st : Nat) (c : List Byte) (t : State) => (exps t p).req = none ∧
      (exps t p).answer = some { src := src, tag := tag, op := op, status := st, content := c }
    let sent := fun (n : Nat) (t : State) => Sends s t src n
    let bound := x.st = .bound ∧ x.importer = src
    let hs := !(imp s v).speed.isSS
    let resets := fun (t : State) => (port t e).st = .reset ∧ (port t e).resetKind = some (if (port s e).connSS then 1 else 0) ∧ chansOf t p.val = []
    (¬ bound → (Completes (.ctrlReq p src tag setup data none) s fun t => sent 32 t ∧ Only net s t) ∧
      (Completes (.ctrlReset p src tag kind) s fun t => sent 24 t ∧ Only net s t) ∧ (Completes (.ctrlSuspend p src tag) s fun t => sent 24 t ∧ Only net s t) ∧
      (Completes (.ctrlResume p src tag) s fun t => sent 24 t ∧ Only net s t)) ∧
    (bound →
      (x.answer = none → x.req = none → opensChannels setup = false →
        (exec (.ctrlReq p src tag setup data none) s = .next ((updExp p (fun x => { x with req := some { src := src, tag := tag, setup := setup, words := [] } })
          s.fresh).emit [.device p setup data])) ∧
        (Completes (.ctrlReq p src tag setup data (some (true, d))) s fun t => keeps 0x01 1 (partFrames 2016 [] []).flatten t ∧ t.out = [.device p setup data] ∧
          sent 32 t ∧ others t ∧ Only (.xpt :: net) s t) ∧
        (d.length ≤ 2016 → Completes (.ctrlReq p src tag setup data (some (false, d))) s fun t => keeps 0x01 0 (partWord 0 d.length true ++ d) t ∧
          t.out = [.device p setup data] ∧ others t ∧ Only [.xpt, .qm, .arb, .fab, .eng] s t)) ∧
      (x.answer = some a → a.tag = tag → a.src = src → a.op = 0x01 → a.content.length ≤ 2024 → Completes (.ctrlReq p src tag setup data none) s fun t =>
        sent (24 + up8 a.content.length) t ∧ t.out = [] ∧ Only net s t) ∧
      (kind.val = 3 → Completes (.ctrlReset p src tag kind) s fun t => keeps 0x20 0 (word2 0) t ∧ (exps t p).suspended = true ∧ sent 32 t ∧ others t ∧
        ((port s e).st = .enabled → (port t e).st = .suspended) ∧ Only [.xpt, .usb, .qm, .arb, .fab] s t) ∧
      (kind.val = k3.val → Completes (.ctrlReset p src tag kind) s fun t => (exps t p).resetOf = some (src, tag) ∧ (exps t p).req = none ∧
        (port t e).st = .reset ∧ (port t e).resetKind = some k3 ∧ chansOf t p.val = [] ∧ t.out = [.portReset e k3.val] ∧ others t ∧ Only [.xpt, .usb, .regs, .qm] s t) ∧
      (Completes (.ctrlSuspend p src tag) s fun t => keeps 0x30 0 [] t ∧ (exps t p).suspended = true ∧ sent 24 t ∧
        ((port s e).st = .enabled → (port t e).st = .suspended) ∧ others t ∧ Only [.xpt, .usb, .qm, .arb, .fab] s t) ∧
      (Completes (.ctrlResume p src tag) s fun t => keeps 0x31 0 [] t ∧ (exps t p).suspended = false ∧ sent 24 t ∧
        ((port s e).st = .suspended → (port t e).st = .enabled) ∧ t.out = [.portResume e (port s e).connHS] ∧ others t ∧ Only [.xpt, .usb, .qm, .arb, .fab] s t)) ∧
    (x.req = some r → r.tag = tag → r.src = src → Completes (.ctrlAbort p src tag) s fun t => keeps 0x10 0 [] t ∧ others t ∧
      (abortResets s p r.setup = true → resets t) ∧ (abortResets s p r.setup = false → port t e = port s e) ∧ sent 24 t ∧
      Only [.xpt, .usb, .regs, .qm, .arb, .fab] s t) ∧
    (x.req = some r → r.tag = tag → r.src = src → Completes (.deviceAllowanceExpired p) s fun t => keeps 0x01 2 (partFrames 2016 [] []).flatten t ∧
      Counts 37 s t ∧ (abortResets s p r.setup = true → resets t) ∧ sent 32 t ∧ others t ∧ Only [.xpt, .usb, .regs, .qm, .arb, .fab] s t) ∧
    (importOf s src slot = some v →
      (Completes (.ctrlWake src slot tag) s fun t => let y := port s (virtEntry v)
        sent 24 t ∧ (∀ u, treeOf s (virtEntry v) = some u → y.st = .suspended →
          ((if hs then (tree s u).entHS else (tree s u).entSS) = true → port t (virtEntry v) = { y with latched := true }) ∧
          ((if hs then (tree s u).entHS else (tree s u).entSS) = false → (if hs then (tree s u).susHS else (tree s u).susSS) = true →
            (hs = true → halfRw s (virtEntry v) = true) → (port t (virtEntry v)).waking = true)) ∧ Only [.xpt, .usb, .pow, .qm, .arb, .fab] s t) ∧
      (Completes (.ctrlDetach src slot tag) s fun t => (imp t v).st = .binding ∧ (imp t v).cache = [] ∧ chansOf t (24 + v.val) = [] ∧ sent 24 t ∧
        Only [.xpt, .usb, .regs, .qm, .arb, .fab] s t)) ∧
    (bindEn s n = true → bindPeer s n = src → chanSlot s n = slot → fld (epReg s n) 11 8 = ep.toNat % 16 →
      ((decide (fld (epReg s n) 5 0 < 24) != receives s n) = decide (128 ≤ ep.toNat)) → (chan s n).st ≠ .closed →
      Completes (.ctrlChfail src slot tag ep) s fun t => (chan t n).st = .failed ∧ sent 24 t ∧ Only (.xpt :: net) s t) ∧
    (Completes (.ctrlPing src slot tag) s fun t => sent 24 t ∧ Only net s t) ∧
    (exec (.ctrlAnswer src op slot tag) s = .next { s.fresh with xpt := { s.xpt with
      msgs := s.xpt.msgs.filter fun m => !(m.peer = src && m.slot = slot && m.tag = tag && (m.op ||| 0x80) = (op ||| 0x80)) } }) ∧
    (s.xpt.msgs.find? (fun m => m.tag = tag) = some g → g.peer = src → g.frames = [d] → d.length ≤ 2024 → Completes (.ctrlResend tag) s fun t =>
      sent (24 + up8 d.length) t ∧ Only net s t) ∧
    (Completes (.pingSend src slot) s fun t => t.xpt.tag = s.xpt.tag + 1 ∧ sent 24 t ∧
      t.xpt.msgs = s.xpt.msgs ++ [{ peer := src, slot := slot, tag := s.xpt.tag + 1, op := 0x50, frames := [[]] }] ∧ Only (.xpt :: net) s t) ∧
    (Completes (.peerLost src) s fun t => (∀ m ∈ t.xpt.msgs, m.peer ≠ src) ∧ (importBound s v.val = true → impAddr s v = src → (imp t v).st = .lost) ∧
      ((importBound s v.val = false ∨ impAddr s v ≠ src) → imp t v = imp s v) ∧ (bound → (exps t p).st = .enum ∧ chansOf t p.val = []) ∧
      (¬ bound → exps t p = x) ∧ (bound ∨ (importBound s v.val = true ∧ impAddr s v = src) → Tbl.get t.ev.cnt 38 ≠ Tbl.get s.ev.cnt 38 ∨ t.ev.ovf.getLsbD 38 = true) ∧
      Only [.xpt, .usb, .regs, .qm] s t)

/-- R278, R296: the SDO server carries a value in an expedited, a segmented or a block transfer, and with FDEN 1 the USDO server in an
expedited or a segmented one; the value is written when the last of it has arrived and is given from the read that opened the transfer.
A refused write, a specifier that does not fit and a client that stays silent abort; a client's abort writes nothing. -/
def Obligations.CanTransfersCarryValues : Prop :=
  ∀ (idx : Half) (sub : Byte) (d f : List Byte) (row : OdRow) (x : SdoXfer) (n blk : Nat) (last : Bool) (s : State),
    let mux := muxBytes idx sub
    let xmux := muxBytes x.idx x.sub
    let frame := fun (b : List Byte) => Out.can (0x580 + canNode s) (padTo 8 b)
    let tells := fun (b : List Byte) (t : State) => t.out = [frame b]
    let live := sdoLive s = true ∧ canFd s = false ∧ s.dbg.stepping = 0
    let idle := live ∧ s.can.sdo = none
    let held := live ∧ s.can.sdo = some x
    let kept := fun (y : SdoXfer) (t : State) => t.can = { s.can with sdo := some y } ∧ Only [.can] s t
    let ended := fun (t : State) => t.can = { s.can with sdo := none }
    let opens := fun (i : Half) (k : Byte) => odStartCode canWho i.toNat k.toNat s.fresh = 0
    let takes := fun (i : Half) (k : Byte) (v : List Byte) => odRow i.toNat k.toNat = some row ∧ row.takes = .reset ∧
      odWriteCode canWho i.toNat k.toNat v s.fresh = 0
    let wrote := fun (i : Half) (k : Byte) (v : List Byte) (t : State) =>
      t.od = { s.od with vals := Sparse.put odDefault s.od.vals (odKey i.toNat k.toNat) v } ∧ t.reply = .done [] ∧ Only [.od, .can] s t
    let reads := odRead canWho idx.toNat sub.toNat s.fresh = (0, d, s.fresh)
    let subBlock := fun (y : SdoXfer) (t : State) =>
      let segs := chunks 7 (y.data.length / 7 + 1) y.data
      let now := segs.take y.blk
      t.out = (now.zipIdx.map fun z => frame ([toByte (z.2 + 1 + 128 * b2n (decide (z.2 + 1 = segs.length)))] ++ z.1)) ∧
        kept { y with started := true, seq := now.length, flight := now.flatMap id } t
    let v := x.data ++ d
    let e := x.data.take (x.data.length - n)
    -- expedited and segmented download
    (idle → takes idx sub d → 1 ≤ d.length → d.length ≤ 4 →
      Completes (.sdoInitiateDownload ([toByte (0x23 + 4 * (4 - d.length))] ++ mux ++ padTo 4 d)) s fun t =>
        wrote idx sub d t ∧ tells ([0x60] ++ mux) t ∧ t.can = s.can) ∧
    (idle → opens idx sub → n ≤ 4096 → Completes (.sdoInitiateDownload ([0x21] ++ mux ++ le32 n)) s fun t =>
      kept (xferNew idx sub true false [] (some n) 0) t ∧ tells ([0x60] ++ mux) t) ∧
    (held → x.down = true → x.block = false → d.length ≤ 7 → v.length ≤ 4096 →
      (Completes (.sdoDownloadSegment ([toByte (16 * b2n x.toggle + 2 * (7 - d.length))] ++ padTo 7 d)) s fun t =>
        kept { x with data := v, toggle := !x.toggle } t ∧ tells [toByte (0x20 + 16 * b2n x.toggle)] t) ∧
      (takes x.idx x.sub v → x.size = some v.length ∨ x.size = none →
        Completes (.sdoDownloadSegment ([toByte (16 * b2n x.toggle + 2 * (7 - d.length) + 1)] ++ padTo 7 d)) s fun t =>
          wrote x.idx x.sub v t ∧ ended t ∧ tells [toByte (0x20 + 16 * b2n x.toggle)] t)) ∧
    -- expedited and segmented upload
    (idle → reads → (1 ≤ d.length → d.length ≤ 4 → Completes (.sdoInitiateUpload ([0x40] ++ mux ++ [0, 0, 0, 0])) s fun t =>
        tells ([toByte (0x43 + 4 * (4 - d.length))] ++ mux ++ d) t ∧ t.reply = .done d ∧ Only [] s t) ∧
      (4 < d.length → Completes (.sdoInitiateUpload ([0x40] ++ mux ++ [0, 0, 0, 0])) s fun t => tells ([0x41] ++ mux ++ le32 d.length) t ∧
        kept (xferNew idx sub false false d (some d.length) 0) t)) ∧
    (held → x.down = false → x.block = false →
      (7 < x.data.length → Completes (.sdoUploadSegment [toByte (0x60 + 16 * b2n x.toggle)]) s fun t =>
        kept { x with data := x.data.drop 7, toggle := !x.toggle } t ∧ tells ([toByte (16 * b2n x.toggle)] ++ x.data.take 7) t) ∧
      (x.data.length ≤ 7 → Completes (.sdoUploadSegment [toByte (0x60 + 16 * b2n x.toggle)]) s fun t => ended t ∧ Only [.can] s t ∧
        tells ([toByte (16 * b2n x.toggle + 2 * (7 - x.data.length) + 1)] ++ x.data) t ∧ t.reply = .done x.data)) ∧
    -- block download
    (idle → opens idx sub → n ≤ 4096 → Completes (.sdoBlockDownload ([0xC2] ++ mux ++ le32 n)) s fun t =>
      kept (xferNew idx sub true true [] (some n) 127) t ∧ tells ([0xA0] ++ mux ++ [127]) t) ∧
    (held → x.down = true → x.block = true → x.ending = false → d.length = 7 → x.data.length ≤ 4096 → x.seq + 1 ≤ 127 →
      (last = false → x.seq + 1 ≠ x.blk → Completes (.sdoBlockDownload ([toByte (x.seq + 1)] ++ d)) s fun t =>
        kept { x with data := v, seq := x.seq + 1 } t ∧ t.out = []) ∧
      ((last = true ∨ x.seq + 1 = x.blk) → Completes (.sdoBlockDownload ([toByte (x.seq + 1 + 128 * b2n last)] ++ d)) s fun t =>
        kept { x with data := v, seq := 0, ending := last } t ∧ tells [0xA2, toByte (x.seq + 1), toByte x.blk] t)) ∧
    (held → x.down = true → x.block = true → x.ending = true → n < 8 → takes x.idx x.sub e → x.size = some e.length ∨ x.size = none →
      Completes (.sdoBlockDownload [toByte (0xC1 + 4 * n)]) s fun t => wrote x.idx x.sub e t ∧ ended t ∧ tells [0xA1] t) ∧
    -- block upload
    (idle → reads → 1 ≤ blk → blk ≤ 127 → Completes (.sdoBlockUpload ([0xA0] ++ mux ++ [toByte blk])) s fun t =>
      kept (xferNew idx sub false true d (some d.length) blk) t ∧ tells ([0xC2] ++ mux ++ le32 d.length) t) ∧
    (held → x.down = false → x.block = true → x.ending = false →
      (x.started = false → Completes (.sdoBlockUpload [0xA3]) s fun t => subBlock x t) ∧
      (x.started = true → n ≤ x.seq → n ≤ 127 → 1 ≤ blk → blk ≤ 127 →
        (7 * n < x.data.length → Completes (.sdoBlockUpload [0xA2, toByte n, toByte blk]) s fun t =>
          subBlock { x with data := x.data.drop (7 * n), blk := blk } t) ∧
        (x.data.length ≤ 7 * n → 1 ≤ n → Completes (.sdoBlockUpload [0xA2, toByte n, toByte blk]) s fun t =>
          kept { x with data := [], ending := true } t ∧ tells [toByte (0xC1 + 4 * blockPad x)] t))) ∧
    (held → x.down = false → x.block = true → x.ending = true → Completes (.sdoBlockUpload [0xA1]) s fun t =>
      ended t ∧ t.reply = .done [] ∧ t.out = [] ∧ Only [.can] s t) ∧
    -- aborts
    (idle → odWriteCode canWho idx.toNat sub.toNat d s.fresh ≠ 0 → 1 ≤ d.length → d.length ≤ 4 →
      Completes (.sdoInitiateDownload ([toByte (0x23 + 4 * (4 - d.length))] ++ mux ++ padTo 4 d)) s fun t =>
        t.can = { s.can with aborts := sat8 s.can.aborts } ∧ Only [.can] s t ∧ tells ([0x80] ++ mux ++
          le32 (odAbort s.fresh (some d.length) idx.toNat sub.toNat (odWriteCode canWho idx.toNat sub.toNat d s.fresh)).toNat) t) ∧
    (idle → (f.getD 0 0).toNat / 32 ≠ 2 → Completes (.sdoInitiateUpload f) s fun t => t.can = { s.can with aborts := sat8 s.can.aborts } ∧
      Only [.can] s t ∧ tells ([0x80] ++ muxBytes (sdoIdx f) (sdoSub f) ++ le32 0x05040001) t) ∧
    (canLive s = true → exec (.sdoClientAbort f) s = .next { s.fresh with can := { s.can with sdo := none } }) ∧
    (s.can.sdo = some x → s.can.usdo = none → Completes .sdoTimeout s fun t => t.can = { s.can with sdo := none, aborts := sat8 s.can.aborts } ∧
      Only [.can] s t ∧ tells ([0x80] ++ xmux ++ le32 0x05040000) t ∧ t.reply = .sdoAbort 0x05040000) ∧
    (s.can.sdo = none → s.can.usdo = some x → Completes .sdoTimeout s fun t => t.can = { s.can with usdo := none, aborts := sat8 s.can.aborts } ∧
      Only [.can] s t ∧ t.reply = .sdoAbort 0x05040000) ∧
    -- USDO
    (sdoLive s = true → canFd s = true → s.dbg.stepping = 0 →
      (s.can.usdo = none → reads → Completes (.usdoRequest (.upload idx sub)) s fun t => t.reply = .done (d.take 56) ∧ Only [.can] s t ∧
        t.can = (if d.length ≤ 56 then s.can else { s.can with usdo := some (xferNew idx sub false false (d.drop 56) (some d.length) 0) })) ∧
      (s.can.usdo = some x → x.down = false → Completes (.usdoRequest .upSegment) s fun t => t.reply = .done (x.data.take 56) ∧ Only [.can] s t ∧
        t.can = { s.can with usdo := if x.data.length ≤ 56 then none else some { x with data := x.data.drop 56 } }) ∧
      (s.can.usdo = none → takes idx sub d → d.length ≤ 4096 → Completes (.usdoRequest (.download idx sub d.length d)) s fun t =>
        wrote idx sub d t ∧ t.can = s.can) ∧
      (s.can.usdo = none → opens idx sub → d.length < n → n ≤ 4096 → Completes (.usdoRequest (.download idx sub n d)) s fun t =>
        t.reply = .done [] ∧ Only [.can] s t ∧ t.can = { s.can with usdo := some (xferNew idx sub true false d (some n) 0) }) ∧
      (s.can.usdo = some x → x.down = true →
        (Completes (.usdoRequest (.downSegment false d)) s fun t => t.reply = .done [] ∧ Only [.can] s t ∧
          t.can = { s.can with usdo := some { x with data := v } }) ∧
        (takes x.idx x.sub v → x.size = some v.length → Completes (.usdoRequest (.downSegment true d)) s fun t =>
          wrote x.idx x.sub v t ∧ t.can = { s.can with usdo := none })) ∧
      (exec (.usdoRequest .abort) s = .next { s.fresh with can := { s.can with usdo := none } }))

/-- R295 to R300: NMT commands move the node; a reset of communication discards transfers, revokes master 3's lease, reloads and boots
again. A TPDO that is due sends its mapped values, an RPDO writes its objects, at once or at the next SYNC. Heartbeats are sent and
watched; CAN errors raise their EMCY; EMCYs leave in order. TIME is a host time write of master 3. -/
def Obligations.CanNodeFollowsNmtAndErrors : Prop :=
  ∀ (n k : Fin 4) (why : PdoCause) (data : List Byte) (tec rec_ : Byte) (node : BitVec 7) (e : Emcy) (rest : List Emcy) (ms : BitVec 28) (days : Half)
    (s : State),
    let raised := fun (code : Nat) (c : CanS) (t : State) => t.can = { c with
      canErr := true, emcy := s.can.emcy ++ [{ code := BitVec.ofNat 16 code, info := [] }], emcyOpen := true,
      hist := (BitVec.ofNat 32 code :: s.can.hist).take 8, changed := t.can.changed } ∧ Only [.can] s t
    let live := canLive s = true
    let oper := live ∧ s.can.nmt = .oper
    let fresh := fun (c : CanS) => { c with
      nmt := .oper, tpdoLast := Tbl.fill 4 [], tpdoSync := Tbl.fill 4 0, tpdoAt := Tbl.fill 4 none, rpdoHeld := Tbl.fill 4 none }
    let sent := tpdoBytes s n
    let resets := fun (c : Instr) => Completes c s fun t => t.can.sdo = none ∧ t.can.usdo = none ∧ t.can.emcy = [] ∧
      t.out = [.can (0x700 + canNode t) [0]] ∧ (t.can.nmt = if ofLe (odGet t 0x2050 5) = 1 then .oper else .preOp) ∧
      (s.lease.owner = some 3 → t.lease.owner = none) ∧ (s.lease.owner ≠ some 3 → t.lease = s.lease) ∧
      (∀ i j, canKey (odKey i j) = true → j < 256 → Sparse.wf odDefault s.od.vals = true →
        (∀ x, newestCfg s = some x → Sparse.wf odDefault x.2.vals = true) → Sparse.get odDefault t.od.vals (odKey i j) =
          match newestCfg s with | some x => Sparse.get odDefault x.2.vals (odKey i j) | none => odDefault (odKey i j)) ∧
      Only [.regs, .lease, .od, .can] s t
    -- NMT
    (live → s.can.nmt ≠ .oper → exec .nmtStart s = .next { s.fresh with can := fresh s.can }) ∧
    (live → exec .nmtStop s = .next { s.fresh with can := { s.can with nmt := .stopped } }) ∧
    (live → exec .nmtEnterPreoperational s = .next { s.fresh with can := { s.can with nmt := .preOp } }) ∧
    (canEn s = true → peRuns s 7 = true → resets .nmtResetCommunication ∧ resets .nmtResetNode) ∧
    -- PDOs
    (oper → pdoValid s (0x1800 + n.val) = true → tpdoDue s n why = true → exec (.tpdoTransmit n why) s = .next
      (({ s.fresh with can := { s.can with
          tpdoLast := Tbl.put s.can.tpdoLast n sent, tpdoSync := Tbl.put s.can.tpdoSync n 0, tpdoAt := Tbl.put s.can.tpdoAt n (some s.time.tb) } } : State).emit [.can (cobOf (cobId s (0x1800 + n.val))) sent])) ∧
    (oper → s.dbg.stepping = 0 → pdoValid s (0x1400 + n.val) = true →
      (data.length < mappedLen (rpdoMap s n) → Completes (.rpdoReceive n data) s fun t => raised 0x8210 s.can t) ∧
      (mappedLen (rpdoMap s n) ≤ data.length → pdoParam s (0x1400 + n.val) 2 ≤ 240 → Completes (.rpdoReceive n data) s fun t =>
        t.can = { s.can with rpdoHeld := Tbl.put s.can.rpdoHeld n (some data) } ∧ Only [.can] s t) ∧
      (rpdoMap s n = [0x20610120] → 4 ≤ data.length → 240 < pdoParam s (0x1400 + n.val) 2 →
        (odWriteCode canWho 0x2061 1 (data.take 4) s.fresh = 0 → Completes (.rpdoReceive n data) s fun t =>
          t.od.pend = s.od.pend ++ (allFin 24).map (fun p => { key := odKey (0x3000 + p.val) 1, bytes := [toByte (b2n ((ofLe (data.take 4)).testBit p.val))], master := 3, node := 0 }) ∧
          Only [.od] s t) ∧
        (odWriteCode canWho 0x2061 1 (data.take 4) s.fresh ≠ 0 → Completes (.rpdoReceive n data) s fun t => Counts 12 s t ∧ Only [] s t))) ∧
    (oper → s.can.rpdoHeld = Tbl.fill 4 none → Completes .canSync s fun t => t.can = { s.can with tpdoSync := Vector.map (· + 1) s.can.tpdoSync } ∧
      Only [.can] s t) ∧
    (oper → s.can.rpdoHeld = Tbl.put (Tbl.fill 4 none) n (some data) → rpdoMap s n = [0x20610120] →
      odWriteCode canWho 0x2061 1 (data.take 4) s.fresh = 0 → Completes .canSync s fun t =>
        t.od.pend = s.od.pend ++ (allFin 24).map (fun p => { key := odKey (0x3000 + p.val) 1, bytes := [toByte (b2n ((ofLe (data.take 4)).testBit p.val))], master := 3, node := 0 }) ∧
        t.can = { s.can with rpdoHeld := Tbl.fill 4 none, tpdoSync := Vector.map (· + 1) s.can.tpdoSync } ∧ Only [.od, .can] s t) ∧
    -- heartbeat, bus state, EMCY and TIME
    (live → ofLe (odGet s 0x1017 0) ≠ 0 → exec .heartbeatProduce s = .next (s.fresh.emit [.can (0x700 + canNode s) [nmtByte s.can.nmt]])) ∧
    (live → Completes (.heartbeatReceive node) s fun t => t.can = { s.can with hbRun := t.can.hbRun } ∧ Only [.can] s t ∧
      ∀ j, Tbl.get t.can.hbRun j = (Tbl.get s.can.hbRun j || (hbEntry s j / 65536 % 128 = node.toNat && hbEntry s j % 65536 ≠ 0))) ∧
    (live → Tbl.get s.can.hbRun k = true → hbEntry s k % 65536 ≠ 0 → Completes (.heartbeatTimeout k) s fun t =>
      raised 0x8130 { s.can with hbRun := Tbl.put s.can.hbRun k false, hbLoss := sat8 s.can.hbLoss } t ∧ Counts 12 s t) ∧
    (canEn s = true →
      (s.can.bus ≠ 2 → exec .busOff s = .next { s.fresh with can := { s.can with bus := 2, busOff := sat8 s.can.busOff } }) ∧
      (s.can.bus = 0 → Completes (.errorPassive tec rec_) s fun t => raised 0x8120 { s.can with bus := 1, tec := tec, rec_ := rec_ } t) ∧
      (Completes .receiveOverrun s fun t => raised 0x8110 { s.can with rxOvr := sat8 s.can.rxOvr } t)) ∧
    (s.can.bus = 2 → Completes .busOffRecovery s fun t => raised 0x8140 { s.can with bus := 0, tec := 0, rec_ := 0 } t ∧ Counts 12 s t) ∧
    (s.can.bus ≠ 2 → Completes .canErrorActive s fun t => t.can.bus = 0 ∧ t.can.canErr = false ∧ t.can.tec.toNat < 128 ∧ t.can.rec_.toNat < 128 ∧
      (s.can.emcyOpen = true → emcyEvents s = false → t.can.emcy = s.can.emcy ++ [{ code := 0, info := [] }] ∧ t.can.emcyOpen = false) ∧
      (emcyEvents s = true → t.can.emcy = s.can.emcy) ∧ Only [.can, .free] s t) ∧
    (sdoLive s = true → emcyMay s = true → s.can.emcy = e :: rest → exec .emcySend s = .next
      (({ s.fresh with can := { s.can with emcy := rest, emcyAt := some s.time.tb } } : State).emit
        [.can (0x80 + canNode s) (padTo 8 (le16 e.code.toNat ++ [toByte (errorRegister s)] ++ e.info))])) ∧
    (sdoLive s = true → (ofLe (odGet s 0x1012 0)).testBit 31 = true → 5844 ≤ days.toNat → odNum s 0x5401 1 = 0 → takesFabricTime s = false →
      let sec := toWord ((days.toNat - 5844) * 86400 + ms.toNat / 1000)
      let part := ms.toNat % 1000 * 32768 / 1000
      2 < (calPeriods sec part - calPeriods s.ao.calSec s.ao.calSub).natAbs → (s.ao.alarm = 0 ∨ sec.toNat < s.ao.alarm.toNat) →
      Completes (.canTime ms days) s fun t => t.ao.calSec = sec ∧ t.ao.calSub = part ∧ t.ao.calQual = 0 ∧ t.ao.ageSec = 0 ∧
        t.time.tbEst = false ∧ Only [.time, .xb, .qm, .ao, .jr, .start] s t)

/-- R283, R285, R288, R290 to R292, R298: save starts a store and load marks the defaults; the record that verifies becomes the newest, with
the seal where the store seals, and a failure leaves the others and counts EV13. A challenge is drawn for the lease owner and answered by
a signature that verifies; a wrong one counts EV7 and voids it. Seal, reopen and the slot bits wait for the next tick. The raw proxy
reads and writes registers. -/
def Obligations.DictionaryCommandsTakeEffect : Prop :=
  ∀ (w : Who) (sig c : List Byte) (val : Word) (st : StoreS) (r : CfgRec) (s : State),
    let target : Fin 2 := match newestCfg s with | some x => (if x.1 = 0 then 1 else 0) | none => 0
    let store := fun (b : Bool) => (StoreS.mk b w.m none)
    let posts := fun (k : Nat) (v : List Byte) (t : State) => t.od.pend = s.od.pend ++ [{ key := k, bytes := v, master := w.m, node := w.node }] ∧ Only [.od] s t
    let raw := ofLe (odAccepted s.fresh 0x5F00 1)
    let verified := s.time.tb.toNat ≤ s.od.commDue.toNat ∧ edOk (odGet s 0x2F12 0) (commMessage c w.m) sig = true
    -- stores
    (mayOd s w 0x1010 1 (le32 0x65766173) = true → Answers (.store w) w [] s fun t =>
      t.od = { s.od with store := some (store false), storeSt := if s.od.storeSt = 2 then 2 else 1 } ∧ Only [.od] s t) ∧
    (pathOpen s w.m = true → odStartCode w 0x1010 1 s = 0 → s.od.store.isSome = true → Refuses (.store w) w 3 [.mf] s) ∧
    (mayOd s w 0x1011 1 (le32 0x64616F6C) = true → Answers (.restoreDefaults w) w [] s fun t => t.od = { s.od with loadMark := true } ∧ Only [.od] s t) ∧
    (s.od.store = some st → st.copy = some r → s.od.sealNext = none →
      (Completes (.storeComplete false) s fun t => t.od = { s.od with store := none, storeSt := 2 } ∧ Counts 13 s t ∧ Only [.od] s t) ∧
      (st.seals = false → Completes (.storeComplete true) s fun t =>
        t.od = { s.od with store := none, recs := Tbl.put s.od.recs target (some r), storeSt := 0, loadMark := false } ∧ Only [.od, .qm] s t) ∧
      (st.seals = true → Completes (.storeComplete true) s fun t =>
        t.od = { s.od with
          store := none, recs := Tbl.put s.od.recs target (some { r with sealSec := s.ao.calSec }), storeSt := 0, loadMark := false
          sealed := true, sealCount := r.sealCount, sealCrc := r.sealCrc, sealSec := s.ao.calSec } ∧ Only [.od, .qm, .jr] s t)) ∧
    -- commissioning
    (mayOd s w 0x2F02 3 [1] = true → leaseHeldBy s w = true →
      ((∀ x, s.od.commLock = some x → x.toNat ≤ s.time.tb.toNat) → Answers (.commChallenge w) w [] s fun t =>
        t.lease = { s.lease with challenge := some (padTo 32 (Config.challenge s.free)) } ∧ t.free = s.free + 1 ∧
        t.od = { s.od with commSt := 1, commLock := none, commDue := s.time.tb + 60000000000 } ∧ Only [.lease, .od, .free] s t) ∧
      (∀ x, s.od.commLock = some x → s.time.tb.toNat < x.toNat → Refuses (.commChallenge w) w 3 [.mf] s)) ∧
    (mayOd s w 0x2F02 2 sig = true → leaseHeldBy s w = true → s.lease.challenge = some c → Answers (.commResponse w sig) w [] s fun t =>
      if verified then t.lease = { s.lease with challenge := none, comm := true } ∧ t.od = { s.od with commSt := 2 } ∧ Only [.lease, .od] s t
      else t.lease = { s.lease with challenge := none } ∧ t.od.commSt = 3 ∧ Counts 7 s t ∧ Only [.lease, .od] s t ∧
        (if (within60 s s.od.commFails).length < 2 then t.od.commLock = s.od.commLock ∧ t.od.commFails = within60 s s.od.commFails ++ [s.time.tb]
         else t.od.commLock = some (s.time.tb + 60000000000))) ∧
    (mayOd s w 0x2F10 2 [1] = true → Answers (.seal w) w [] s (posts (odKey 0x2F10 2) [1])) ∧
    (mayOd s w 0x2F10 2 [2] = true → Answers (.reopen w) w [] s (posts (odKey 0x2F10 2) [2])) ∧
    (odServes s = true → s.od.pend = [{ key := odKey 0x2F10 2, bytes := [1], master := w.m, node := w.node }] →
      (s.od.store = none → (odTick s).od.store = some (store true)) ∧ (s.od.store = some st → (odTick s).od.sealNext = some w.m) ∧ (odTick s).od.pend = []) ∧
    (odServes s = true → s.od.pend = [{ key := odKey 0x2F10 2, bytes := [2], master := w.m, node := w.node }] → (odTick s).od.sealed = false ∧
      (odTick s).od.pend = []) ∧
    -- the raw register proxy and the slot bits
    (pathOpen s w.m = true → odServes s = true → w.m ≠ 4 → raw % 4 = 0 → (∃ row, placeOf raw = .reg row) →
      Answers (.rawRead w) w (le32 (readReg s raw).toNat) s (Only [] s)) ∧
    (∀ row, mayOd s w 0x5F00 2 (le32 val.toNat) = true → mayWrite s w raw = true → s.dbg.stepping = 0 → raw % 4 = 0 → placeOf raw = .reg row →
      row.rs ≠ 0 → row.posted = false → val.toNat &&& row.rv = 0 → Answers (.rawWrite w val) w [] s fun t =>
        t.regs.active = s.regs.active ∧ shadowValue t raw = merge (shadowValue s raw) val (BitVec.ofNat 32 row.rs) ∧
        (∃ h ∈ t.regs.shadows, h.addr = raw ∧ h.writer = w.m ∧ h.refused = false) ∧ Only [.regs] s t) ∧
    (mayOd s w 0x2061 1 (le32 val.toNat) = true → Answers (.slotEnableAll w val) w [] s fun t => Only [.od] s t ∧
      t.od.pend = s.od.pend ++ (allFin 24).map fun p => { key := odKey (0x3000 + p.val) 1, bytes := [toByte (b2n (val.getLsbD p.val))], master := w.m, node := w.node })

/-- R309 to R312, R315, R321 to R325: a permitted write sets its shadow or its memory word; one without the lease, without the unlock,
misaligned, or at a hole is refused and changes nothing. A key unlocks its master's next write, eight wrong keys lock SYS_KEY with EV7.
A pass of the checksum compares or gives the reference. A changed test control sets TESTMOD with EV48. A posted write waits for AO,
which takes it; one while AO_BUSY is refused with status 7 and EV9. -/
def Obligations.RegisterWritesKeysAndChecksumWork : Prop :=
  ∀ (w : Who) (addr val : Word) (m : Fin 16) (m6 : Fin 6) (row : RegRow) (p : Posted) (d : Fin 31) (s : State),
    Sparse.wf regDefault s.regs.active = true →
    let a := addr.toNat
    let un := (issueHeld w.m s).regs.unlock.getLsbD w.m.val
    let mine := fun (t : State) => t.regs.unlock.getLsbD w.m.val
    let same := fun (t : State) => t.regs.active = s.regs.active ∧ t.regs.shadows = s.regs.shadows
    let pass := fun (t : State) => t.regs.crcCur = passResult s ∧ t.regs.stale = false ∧ t.regs.passes = sat16 s.regs.passes
    let path := s.dbg.stepping = 0 ∧ pathOpen s w.m = true
    let free := leaseLacks s w a = false
    -- writes
    (path → placeOf a = .reg row → a % 4 = 0 →
      (free → (row.key = true → un = true) → row.rs ≠ 0 → row.posted = false → val.toNat &&& row.rv = 0 →
        Answers (.registerWrite w addr val) w [] s fun t => t.regs.active = s.regs.active ∧
          shadowValue t a = merge (shadowValue s a) val (BitVec.ofNat 32 row.rs) ∧ (∃ h ∈ t.regs.shadows, h.addr = a ∧ h.writer = w.m ∧ h.refused = false) ∧
          (∀ b, b ≠ a → shadowValue t b = shadowValue s b) ∧ mine t = false ∧ Only [.regs] s t) ∧
      (leaseLacks s w a = true → Completes (.registerWrite w addr val) s fun t => t.reply = answerOf w 3 [] ∧ same t ∧ Only [.regs, .mf] s t) ∧
      (free → row.key = true → un = false → Completes (.registerWrite w addr val) s fun t => t.reply = answerOf w 4 [] ∧ same t ∧ mine t = false ∧
        ((issueHeld w.m s).ev = s.ev → Counts 7 s t) ∧ Only [.regs, .mf] s t)) ∧
    (path → a ≠ 0x10 → placeOf a = .hole → Completes (.registerWrite w addr val) s fun t => t.reply = answerOf w 5 [] ∧ same t ∧ mine t = false ∧
      ((issueHeld w.m s).ev = s.ev → Counts 6 s t) ∧ Only [.regs, .mf] s t) ∧
    (path → a ≠ 0x10 → placeOf a = .reg row → a % 4 ≠ 0 → Completes (.registerWrite w addr val) s fun t => t.reply = answerOf w 6 [] ∧ same t ∧
      ((issueHeld w.m s).ev = s.ev → Counts 6 s t) ∧ Only [.regs, .mf] s t) ∧
    (path → free → 0x200000 ≤ a → a < 0x240000 → a % 4 = 0 → domainOn s 24 = true → Memory.wf s.eng.mem = true →
      Answers (.registerWrite w addr val) w [] s fun t => memNum t a 4 = val.toNat ∧ (∀ b, (b < a ∨ a + 4 ≤ b) → memByte t b = memByte s b) ∧
        same t ∧ Only [.regs, .eng] s t) ∧
    -- keys
    (pathOpen s w.m = true →
      (w.m.val = m6.val → Answers (.keyWrite w val) w [] s fun t => Tbl.get t.regs.heldKey m6 = some (val == 0xA55A3CC3) ∧ mine t = false ∧ same t ∧ Only [.regs] s t) ∧
      (6 ≤ w.m.val → s.regs.locked = false →
        (val = 0xA55A3CC3 → Answers (.keyWrite w val) w [] s fun t => mine t = true ∧ t.regs.fails = 0 ∧ same t ∧ Only [.regs] s t) ∧
        (val ≠ 0xA55A3CC3 → Answers (.keyWrite w val) w [] s fun t => mine t = false ∧ t.regs.fails = s.regs.fails + 1 ∧ same t ∧
          (s.regs.fails = 7 → t.regs.locked = true ∧ Counts 7 s t) ∧ (s.regs.fails ≠ 7 → t.regs.locked = false) ∧ Only [.regs] s t)) ∧
      (6 ≤ w.m.val → s.regs.locked = true → Answers (.keyWrite w val) w [] s fun t => mine t = false ∧ t.regs.fails = s.regs.fails ∧ t.regs.locked = true ∧
        same t ∧ Only [.regs] s t)) ∧
    (Completes (.keyUnlockLapse m) s fun t => t.regs.unlock.getLsbD m.val = false ∧ (∀ k, k < 16 → k ≠ m.val → t.regs.unlock.getLsbD k = s.regs.unlock.getLsbD k) ∧
      same t ∧ Only [.regs] s t) ∧
    (exec (.heldKeyLapse m6) s = .next { s.fresh with regs := { s.regs with heldKey := Tbl.put s.regs.heldKey m6 none } }) ∧
    (s.regs.locked = true → exec .keyLockEnd s = .next { s.fresh with regs := { s.regs with locked := false, fails := 0 } }) ∧
    -- the configuration checksum
    ((s.regs.passAdopts = true ∧ s.regs.adopt.isSome = true → Completes .crcPassComplete s fun t => pass t ∧ regv t 0x100 = passResult s ∧
        t.regs.adopt = none ∧ t.regs.matched = true ∧ t.regs.miss = 0 ∧ (∀ b, b ≠ 0x100 → regv t b = regv s b) ∧ Only [.regs] s t) ∧
      (s.regs.passAdopts = false → passResult s = regv s 0x100 → Completes .crcPassComplete s fun t => pass t ∧ t.regs.matched = true ∧
        t.regs.miss = 0 ∧ same t ∧ Only [.regs] s t) ∧
      (s.regs.passAdopts = false → passResult s ≠ regv s 0x100 → Completes .crcPassComplete s fun t => pass t ∧ t.regs.matched = false ∧
        t.regs.miss = min 255 (s.regs.miss + 1) ∧ same t ∧ (s.regs.miss = 1 → Counts 1 s t ∧ Only [.regs, .qm] s t) ∧
        (s.regs.miss ≠ 1 → t.ev = s.ev ∧ Only [.regs] s t))) ∧
    (exec .crcStale s = .next { s.fresh with regs := { s.regs with stale := true } }) ∧
    (mayWrite s w 0x108 = true →
      (Answers (.adopt w) w [] s fun t => t.regs.adopt = some w.m ∧ t.regs.passAdopts = false ∧ mine t = false ∧ same t ∧ Only [.regs] s t) ∧
      (Answers (.adoptCancel w) w [] s fun t => t.regs.adopt = none ∧ t.regs.passAdopts = false ∧ mine t = false ∧ same t ∧ Only [.regs] s t)) ∧
    -- test controls and posted writes
    (path → mayWrite s w 0x40018 = true → val.toNat &&& 0xFFFFFF80 ≠ 0 → val.getLsbD 6 = false →
      Answers (.testControlWrite w 0x40018 val) w [] s fun t => t.regs.testmod = true ∧ regv t 0x40018 = BitVec.ofNat 32 (val.toNat % 64) ∧
        (∀ b, b ≠ 0x40018 → regv t b = regv s b) ∧ ((issueHeld w.m s).ev = s.ev → Counts 48 s t) ∧ Only [.regs, .qm] s t) ∧
    (path → free → placeOf a = .reg row → a % 4 = 0 → row.posted = true → row.key = false → val.toNat &&& row.rv = 0 →
      (a = 0x10000 → domMaster w = true) → (a = 0x10058 → 8 ≤ w.m.val) → a ≠ 0x10050 → (a = 0x10054 → heldByOther s w.m 0x10050 = false) →
      (a = 0x10010 → selRefuse s (bit val 0) = false) → (a = 0x10020 → s.ao.pmBusy = false ∧ voltRefuse s (fld val 9 0) = 0) →
      (s.regs.posted = none → Answers (.aoPostedWrite w addr val) w [] s fun t => t.regs.posted = some { addr := a, val := val, master := w.m } ∧ same t ∧
        Only [.regs] s t) ∧
      (s.regs.posted = some p → Completes (.aoPostedWrite w addr val) s fun t => t.reply = answerOf w 7 [] ∧ t.regs.posted = some p ∧ same t ∧
        ((issueHeld w.m s).ev = s.ev → Counts 9 s t) ∧ Only [.regs, .mf] s t)) ∧
    (s.regs.posted = some p →
      (p.addr = 0x1005C → exec .aoWriteTaken s = .next { s.fresh with regs := { s.regs with posted := none }, ao := { s.ao with alarm := p.val } }) ∧
      (0x10100 ≤ p.addr → Completes .aoWriteTaken s fun t => t.regs.posted = none ∧ regv t p.addr = merge (regv s p.addr) p.val 0x1FF ∧
        (∀ b, b ≠ p.addr → regv t b = regv s b) ∧ t.regs.shadows = s.regs.shadows ∧ Only [.regs] s t) ∧
      (p.addr = 0x10000 → fld p.val 4 0 = d.val → fld p.val 6 5 = 0 → d ≠ 25 → d ≠ 30 → (dom s d).st = .off →
        Completes .aoWriteTaken s fun t => t.regs.posted = none ∧ (dom t d).st = .exiting ∧ same t ∧ Only [.regs, .ao] s t))

/-- R335 to R341, R349, R350: an ON command makes a domain exit, or is latched in its entry window; an entry is accepted when no condition of
R336 refuses it, and its completion leaves RETENTION with the signature, or OFF; a latched wake exits at once with EV54. CORE goes OFF
with PE0 and ECM retained, and its wake raises VCORE_EN. An exit keeps contents whose signature matches, and zeroes, poisons or reloads
the others, with EV53 when they were retained. -/
def Obligations.PowerDomainsEnterAndLeave : Prop :=
  ∀ (w : Who) (d : Fin 31) (src : Fin 9) (n : Fin 8) (k : Nat) (s : State), Sparse.wf regDefault s.regs.active = true → Sparse.wf pwZero s.qm.mem = true →
    Memory.wf s.eng.mem = true →
    let may := pathOpen s w.m = true ∧ domMaster w = true ∧ (w.m.val < 8 → leaseHeldBy s w = true)
    let x := dom s d
    let others := fun (t : State) => ∀ e, e ≠ d → dom t e = dom s e
    let code := fun (n : Nat) (t : State) => t.ao.resCode = n ∧ t.ao.resDom = d.val
    let steady := x.st = .off ∨ x.st = .retention
    let exits := fun (t : State) => (dom t d).st = .exiting ∧ (dom t d).toOff = decide (x.st = .off) ∧ others t ∧ (d.val = 25 → s.xb.st ≠ .fault → t.xb.st = .rebuild)
    let enters := fun (off : Bool) (t : State) => (dom t d).st = .entering ∧ (dom t d).toOff = off ∧ (dom t d).latched = false ∧ code 0 t
    let gone := { x with st := (if x.toOff then .off else .retention), sig := (if x.toOff then none else domainSig s d), rlost := false, wlat := x.latched, entries := min 0xFFFF (x.entries + 1) }
    let good := x.toOff = false ∧ x.sig.isSome = true ∧ domainSig s d = x.sig
    let lost := x.toOff = false ∧ ¬ (x.sig.isSome = true ∧ domainSig s d = x.sig)
    let reloads := fun (m : Fin 8) (t : State) => (eng t m).st = .reset ∧ (eng t m).reload = true ∧ engHold t m = true ∧
      ∀ a, iramBase m ≤ a → a < iramBase m + 0x20000 → memByte t a = 0
    let zeroed := fun (t : State) => (∀ i, i < 32768 → pmGet t (k * 32768 + i) = pwZero (k * 32768 + i)) ∧
      ∀ i, (i < k * 32768 ∨ (k + 1) * 32768 ≤ i) → pmGet t i = pmGet s i
    let poisoned := fun (t : State) => (∀ i, i < 32768 → (pmGet t (k * 32768 + i)).bad = true) ∧ t.qm.rlost.getLsbD k = true ∧
      (qEn s 57 = false → (∀ i, i < 32768 → (pmGet t (k * 32768 + i)).data = (pmGet s (k * 32768 + i)).data) ∧
        ∀ i, (i < k * 32768 ∨ (k + 1) * 32768 ≤ i) → pmGet t i = pmGet s i)
    -- commands
    (may → d ≠ 30 →
      (x.st = .on → Answers (.domainOn w d) w [] s fun t => dom t d = x ∧ others t ∧ code 0 t ∧ Only [.ao] s t) ∧
      (steady → Answers (.domainOn w d) w [] s fun t => exits t ∧ code 0 t ∧ Only [.ao, .xb] s t) ∧
      (x.st = .entering → Answers (.domainOn w d) w [] s fun t => dom t d = { x with latched := true } ∧ others t ∧ code 0 t ∧ Only [.ao] s t) ∧
      (x.st = .exiting → Answers (.domainOn w d) w [] s fun t => dom t d = x ∧ others t ∧ code 1 t ∧ Only [.ao] s t)) ∧
    (may →
      (∀ off : Bool, domRefuse s d.val (if off then 2 else 1) ≠ 0 → Answers (if off then .domainOff w d else .domainRetention w d) w [] s fun t =>
        t.ao.dom = s.ao.dom ∧ code (domRefuse s d.val (if off then 2 else 1)) t ∧ Only [.ao] s t) ∧
      ((x.st = .entering ∨ x.st = .exiting) → domRefuse s d.val 1 = 1 ∧ domRefuse s d.val 2 = 1) ∧
      (x.st = .on → 25 ≤ d.val → domRefuse s d.val 1 = 2) ∧ (x.st = .on → (d = 0 ∨ d = 24) → domRefuse s d.val 1 = 3 ∧ domRefuse s d.val 2 = 3) ∧
      (domRefuse s d.val 1 = 0 → x.st = .on → Answers (.domainRetention w d) w [] s fun t => enters false t ∧ others t ∧ Only [.ao] s t) ∧
      (domRefuse s d.val 2 = 0 → x.st = .on → d ≠ 25 → d ≠ 30 → Answers (.domainOff w d) w [] s fun t => enters true t ∧ others t ∧ Only [.ao] s t) ∧
      (domRefuse s d.val 2 = 0 → x.st = .on → d = 25 → (s.xb.st = .run ∨ s.xb.st = .fault) → Answers (.domainOff w d) w [] s fun t => enters true t ∧ others t) ∧
      (domRefuse s d.val 2 = 0 → x.st = .on → d = 25 → (s.xb.st = .halt ∨ s.xb.st = .rebuild) → Answers (.domainOff w d) w [] s fun t =>
        t.xb = { s.xb with offWait := some w.m } ∧ Only [.xb] s t) ∧
      (domRefuse s d.val 2 = 0 → x.st = .on → d = 30 → Answers (.domainOff w d) w [] s fun t => enters true t ∧ (dom t 0).st = .entering ∧
        (dom t 24).st = .entering ∧ (dom t 0).toOff = false ∧ (dom t 24).toOff = false ∧ Only [.ao] s t)) ∧
    (pathOpen s w.m = true →
      (domMaster w = false → Completes (.domainOff w d) s fun t => t.reply = answerOf w 5 [] ∧ Counts 6 s t ∧ Only [.mf] s t) ∧
      (domMaster w = true → w.m.val < 8 → leaseHeldBy s w = false → Refuses (.domainOff w d) w 3 [.mf] s ∧ Refuses (.domainOn w d) w 3 [.mf] s)) ∧
    -- entries
    (x.st = .entering →
      (8 ≤ d.val → d.val < 24 → x.latched = false → Completes (.domainEntryComplete d) s fun t => dom t d = gone ∧ others t ∧ Only [.ao, .qm] s t) ∧
      (8 ≤ d.val → d.val < 24 → x.latched = true → Completes (.domainEntryComplete d) s fun t => (dom t d).st = .exiting ∧ (dom t d).toOff = x.toOff ∧
        (dom t d).wlat = true ∧ (dom t d).sig = gone.sig ∧ Counts 54 s t ∧ others t ∧ Only [.ao, .qm] s t) ∧
      (d.val = n.val → (dom s 30).st ≠ .entering →
        ((eng s n).st = .idle → x.latched = false → Completes (.domainEntryComplete d) s fun t => dom t d = gone ∧ others t ∧ (eng t n).st = .reset ∧
          (s.lease.owner = some (engMaster n) → t.lease.owner = none ∧ Counts 8 s t) ∧ t.eng.mem = s.eng.mem ∧ Only [.ao, .eng, .arb, .lease, .regs, .od] s t) ∧
        ((eng s n).st ≠ .idle → exec (.domainEntryComplete d) s = .next s.fresh)) ∧
      (d = 25 → x.latched = false → Completes (.domainEntryComplete d) s fun t => dom t d = gone ∧ others t ∧ (s.xb.st ≠ .fault → t.xb.st = .halt) ∧
        t.xb.tx = Tbl.fill 33 .idle ∧ Only [.ao, .xb] s t) ∧
      (d = 30 → x.latched = false → x.toOff = true → (dom s 0).toOff = false → (dom s 24).toOff = false → (eng s 0).st = .idle →
        Completes (.domainEntryComplete d) s fun t => t.start.stage = .off ∧ t.start.vcoreEn = false ∧
          t.out = [.vcoreEn false] ∧ t.ao.tbCopy = s.time.tb ∧ (dom t 30).st = .off ∧ (dom t 0).st = .retention ∧ (dom t 24).st = .retention ∧
          (dom t 0).sig = domainSig s 0 ∧ (dom t 24).sig = domainSig s 24)) ∧
    -- wakes
    (bit (regv s (0x10104 + 0x10 * d.val)) src.val = true →
      (d ≠ 30 → steady → Completes (.domainWake d src) s fun t => exits t ∧ t.ao.wakeLast = BitVec.ofNat 10 (2 ^ src.val) ∧ Only [.ao, .xb] s t) ∧
      (x.st = .entering → Completes (.domainWake d src) s fun t => dom t d = { x with latched := true } ∧ others t ∧
        t.ao.wakeLast = BitVec.ofNat 10 (2 ^ src.val) ∧ Only [.ao] s t) ∧
      (d = 30 → x.st = .off → Completes (.standbyWake src) s fun t => t.start.stage = .vcore ∧ t.start.vcoreEn = true ∧ t.start.kind = 7 ∧
        t.out = [.vcoreEn true] ∧ t.ao.wakeLast = BitVec.ofNat 10 (2 ^ src.val) ∧ Only [.ao, .start] s t)) ∧
    (bit (regv s (0x10104 + 0x10 * d.val)) src.val = false → exec (.domainWake d src) s = .next s.fresh) ∧
    -- exits
    (x.st = .exiting →
      (good → 8 ≤ d.val → d.val < 25 → Completes (.domainExitComplete d) s fun t => dom t d = { x with st := .on, rlost := false } ∧ others t ∧ Only [.ao] s t) ∧
      (d.val = 8 + k → k < 16 → x.toOff = true → Completes (.domainExitComplete d) s fun t => (dom t d).st = .on ∧ zeroed t ∧ others t ∧ Only [.ao, .qm] s t) ∧
      (d.val = 8 + k → k < 16 → lost → Completes (.domainExitComplete d) s fun t => dom t d = { x with st := .on, rlost := true } ∧ poisoned t ∧
        Counts 53 s t ∧ others t ∧ Only [.ao, .qm] s t) ∧
      (d.val = n.val → good → Completes (.domainExitComplete d) s fun t => (dom t d).st = .on ∧ (eng t n).st = .check ∧ (eng t n).domainWake = true ∧
        t.eng.mem = s.eng.mem ∧ (∀ m, m ≠ n → eng t m = eng s m) ∧ others t ∧ Only [.ao, .eng, .free] s t) ∧
      (d.val = n.val → x.toOff = true → Completes (.domainExitComplete d) s fun t => (dom t d).st = .on ∧ reloads n t ∧ (∀ m, m ≠ n → eng t m = eng s m) ∧
        others t ∧ Only [.ao, .eng, .regs] s t) ∧
      (d.val = n.val → lost → Completes (.domainExitComplete d) s fun t => (dom t d).st = .on ∧ (dom t d).rlost = true ∧ reloads n t ∧ Counts 53 s t ∧ others t) ∧
      (d = 24 → ¬ good → n ≠ 0 → Completes (.domainExitComplete d) s fun t => (dom t d).st = .on ∧ reloads n t ∧ (lost → Counts 53 s t) ∧ others t) ∧
      (d = 25 → s.xb.st ≠ .fault → Completes (.domainExitComplete d) s fun t => (dom t d).st = .on ∧ t.xb.st = .run ∧ others t) ∧
      (26 ≤ d.val → d.val < 30 → Completes (.domainExitComplete d) s fun t => (dom t d).st = .on ∧ others t))

/-- R342 to R348, R351 to R354, R406: a crossing of a patrol posts its item, or holds it, records and raises its wake; a voltage request runs until
its acknowledgement or its time-out with EV55; a selected clock waits for the boundary, and a lost lock moves the core to FIRC with EV47.
The loss of VCORE or of V1P8 starts the core again with KIND 6, and V3P3's leaves AO on VBAT or loses it. VBAT below its limit counts
EV46. RUN brings every domain up; a refused NIGHT or STANDBY names its domain, and STANDBY ends with CORE OFF. -/
def Obligations.SuppliesClocksPatrolsAndProfiles : Prop :=
  ∀ (w : Who) (p : Fin 24) (l : Fin 27) (f : Fin 4) (vout vin : BitVec 13) (term vbus ins sig : Bool) (v : VinSample) (mv : BitVec 10) (code sw : Half)
    (pg pll : Bool) (k : Fin 56) (s : State),
    let held := fun (kind inst c src : Nat) (pe : Fin 8) (t : State) => t.ao.wakeLast = BitVec.ofNat 10 (2 ^ src) ∧
      ((s.ao.items ≠ [] ∨ mailboxTakes s pe = false) → t.ao.items = s.ao.items ++ [{ pe := pe, bytes := itemBytes s kind inst c }]) ∧
      (s.ao.items = [] → mailboxTakes s pe = true → t.ao.items = [] ∧ ∀ b, Takes s (mboxOf s pe) b 16 → Took s t (mboxOf s pe) b 16) ∧
      (∀ d, d ≠ 30 → bit (regv s (0x10104 + 0x10 * d.val)) src = true → ((dom s d).st = .off ∨ (dom s d).st = .retention) → (dom t d).st = .exiting) ∧
      (∀ d, bit (regv s (0x10104 + 0x10 * d.val)) src = false → dom t d = dom s d)
    let old := sampleOf s
    let near := decide (vin.toNat ≤ vout.toNat + 100)
    let live := decide (200 ≤ vout.toNat)
    let si : Fin 56 := ⟨p.val, by omega⟩
    let li : Fin 56 := ⟨24 + l.val, by omega⟩
    let fi : Fin 56 := ⟨51 + f.val, by omega⟩
    let target := voutCode s.ao.vout
    let may := pathOpen s w.m = true ∧ (w.m.val < 8 → leaseHeldBy s w = true)
    let restarts := fun (t : State) => t.start.stage = .vcore ∧ t.start.vcoreEn = true ∧ t.start.kind = 6 ∧ t.start.src = 0x1F ∧ t.ao.pg = false ∧
      (∀ q, (slot t q).st.gateOn = false) ∧ (∀ n, (eng t n).st = .reset) ∧ (∀ q, qLevel t q = 0) ∧ t.lease.owner = none ∧ t.regs.shadows = [] ∧
      (∀ n, Tbl.get t.ev.cnt n = 0) ∧ t.ao.calSec = s.ao.calSec ∧ t.ao.onPll = false ∧ t.pending = s.pending ∧ (s.start.stage = .run → t.ao.tbCopy = s.time.tb)
    let asks := fun (c : Nat) => mayOd s w 0x5010 1 [BitVec.ofNat 8 c] = true
    -- patrols
    (s.ao.onVbat = false →
      ((slot s p).st.gateOn = false → (near = true ∧ (old si).getLsbD 0 = false) → (live && !(old si).getLsbD 1) = false →
        Completes (.patrol (.slot p vout vin)) s fun t => held 0 p.val 1 0 (patrolDest s 0) t ∧ sampleOf t si = bits3 near live false) ∧
      ((slot s p).st.gateOn = false → (near && !(old si).getLsbD 0) = false → (live && !(old si).getLsbD 1) = false →
        exec (.patrol (.slot p vout vin)) s = .next (putSample si (bits3 near live false) s.fresh)) ∧
      (linkWatched s l = true → term = true → (old li).getLsbD 0 = false → (vbus = (old li).getLsbD 1 ∨ l.val < 24) →
        Completes (.patrol (.link l term vbus)) s fun t => held 1 l.val 1 2 (linkDest s l) t ∧ sampleOf t li = bits3 term vbus false) ∧
      (linkWatched s l = true → 24 ≤ l.val → vbus = true → (old li).getLsbD 1 = false → term = (old li).getLsbD 0 →
        Completes (.patrol (.link l term vbus)) s fun t => held 1 l.val 3 3 (linkDest s l) t ∧ sampleOf t li = bits3 term vbus false) ∧
      ((fport s f).st = .off → ins = false → (old fi).getLsbD 0 = true → (sig && !(old fi).getLsbD 1) = false →
        Completes (.patrol (.fabric f ins sig)) s fun t => held 2 f.val 2 4 (patrolDest s 2) t ∧ sampleOf t fi = bits3 ins sig false) ∧
      ((∀ q, (slot s q).st.gateOn = false) → vinMin (vinPut v s) < vwarn s → vinMax (vinPut v s) ≤ vinMin (vinPut v s) + 100 → (old 55).getLsbD 0 = false →
        Completes (.patrol (.vin v)) s fun t => held 3 0 1 5 (patrolDest s 3) t ∧ sampleOf t 55 = bits3 true false true)) ∧
    (s.ao.onVbat = true → exec (.patrol (.slot p vout vin)) s = .next s.fresh) ∧
    -- core voltage and clocks
    (may → s.ao.pmBusy = false →
      (720 ≤ mv.toNat → mv.toNat ≤ 880 → Answers (.voltageRequest w mv) w [] s fun t => Only [.ao] s t ∧
        t.ao = { s.ao with vout := mv.toNat, pmBusy := true, pmAck := false, pmTimeout := false } ∧ t.out = [.pmbus (pmbAddress s) 0x21 (voutCode mv.toNat)]) ∧
      ((mv.toNat < 720 ∨ 880 < mv.toNat) → Refuses (.voltageRequest w mv) w 5 [.mf] s)) ∧
    (may → s.ao.pmBusy = true → Completes (.voltageRequest w mv) s fun t => t.reply = answerOf w 7 [] ∧ Counts 9 s t ∧ Only [.mf] s t) ∧
    (s.ao.pmBusy = true →
      (pg = true → target ≤ code.toNat + 41 → code.toNat ≤ target + 41 → exec (.voutPoll code pg) s = .next
        { s.fresh with ao := { s.ao with pg := true, pmBusy := false, pmAck := true, vnow := s.ao.vout } }) ∧
      ((pg = false ∨ code.toNat + 41 < target ∨ target + 41 < code.toNat) → exec (.voutPoll code pg) s = .next { s.fresh with ao := { s.ao with pg := pg } }) ∧
      (Completes (.voltageRequestTimeout sw) s fun t => t.ao = { s.ao with pmBusy := false, pmTimeout := true, statusw := sw } ∧ Counts 55 s t ∧
        t.out = [.pmbus (pmbAddress s) 0x03 0, .pmbus (pmbAddress s) 0x21 (voutCode s.ao.vnow)] ∧ Only [.ao, .qm] s t)) ∧
    (may → (selRefuse s pll = false → Answers (.clockSelect w pll) w [] s fun t => Only [.ao] s t ∧
        t.ao = { s.ao with selPend := if pll = s.ao.onPll then none else some pll }) ∧ (selRefuse s pll = true → Refuses (.clockSelect w pll) w 5 [.mf] s)) ∧
    ((s.ao.pllLock = false ∨ s.ao.vnow + 10 < vtarget) → selRefuse s true = true) ∧
    (s.ao.pllEn = true → exec .pllLock s = .next { s.fresh with ao := { s.ao with pllLock := true } }) ∧
    (s.ao.pllLock = true → s.ao.onPll = true → Completes .pllLockLoss s fun t => t.ao = { s.ao with pllLock := false, onPll := false, selPend := none } ∧
      Counts 47 s t ∧ Only [.ao, .time, .qm] s t) ∧
    (s.ao.pllLock = true → s.ao.onPll = false → exec .pllLockLoss s = .next { s.fresh with
      ao := { s.ao with pllLock := false, selPend := if s.ao.selPend = some true then none else s.ao.selPend } }) ∧
    -- supplies
    (s.ao.pmBusy = false → s.start.stage ≠ .off → Completes .vcoreLoss s restarts) ∧
    (s.ao.pmBusy = true → exec .vcoreLoss s = .next s.fresh) ∧
    (s.start.stage ≠ .off → Completes .v1p8Loss s fun t => restarts t ∧ ∀ d, (dom t d).sig = none) ∧
    (s.start.stage = .off → Completes .v1p8Loss s fun t => (∀ d, dom t d = { dom s d with sig := none }) ∧ Only [.ao] s t) ∧
    (Completes (.v3p3Loss true) s fun t => t.start.stage = .off ∧ t.start.vcoreEn = false ∧ t.ao.onVbat = true ∧ t.ao.calSec = s.ao.calSec ∧
      t.ao.alarm = s.ao.alarm ∧ t.ao.items = [] ∧ (∀ q, (slot t q).st.gateOn = false) ∧ t.pending = s.pending) ∧
    (Completes (.v3p3Loss false) s fun t => t.start.stage = .off ∧ t.start.vcoreEn = false ∧ t.ao = AoS.reset ∧ (∀ q, (slot t q).st.gateOn = false) ∧
      t.pending = s.pending) ∧
    (s.ao.onVbat = false →
      (code.toNat < 2200 → s.ao.vbatLow = false → Completes (.vbatCheck code) s fun t => t.ao = { s.ao with vbatLow := true } ∧ Counts 46 s t ∧ Only [.ao] s t) ∧
      (2200 ≤ code.toNat → exec (.vbatCheck code) s = .next { s.fresh with ao := { s.ao with vbatLow := false } })) ∧
    -- profiles
    (asks 0 → (∀ d, d.val < 30 → (dom s d).st ≠ .entering ∧ (dom s d).st ≠ .exiting) → Answers (.profileRun w) w [] s fun t =>
      (∀ d, d.val < 30 → domainOn t d = true) ∧ t.od.profRes = 0 ∧ t.od.nightForced = 0) ∧
    (asks 1 → odNum s 0x5011 1 = 0 → odNum s 0x5011 2 = 2 ^ 25 → (dom s 25).st = .on → hubConfigured s 0 = true → Answers (.profileNight w) w [] s fun t =>
      t.od = { s.od with profRes := BitVec.ofNat 16 (7 + 256 * 25) } ∧ t.ao.dom = s.ao.dom ∧ Only [.od, .ao] s t) ∧
    (asks 1 → odNum s 0x5011 1 = 2 ^ (8 + k.val % 16) → odNum s 0x5011 2 = 0 → (dom s ⟨8 + k.val % 16, by omega⟩).st = .on → bankUsed s (k.val % 16) = false →
      (∀ q, queueIn s (2 ^ (k.val % 16)) q = false) → s.regs.shadows = [] → Answers (.profileNight w) w [] s fun t =>
        (dom t ⟨8 + k.val % 16, by omega⟩).st = .retention ∧ t.od.profRes = 0) ∧
    (asks 2 → ∀ u, hubConfigured s u = true → Answers (.profileStandby w) w [] s fun t =>
      t.od = { s.od with profRes := BitVec.ofNat 16 (7 + 256 * 25) } ∧ Only [.od] s t) ∧
    (asks 2 → (∀ u, hubConfigured s u = false) → (∀ d, d.val ≠ 0 → d.val ≠ 24 → d.val < 30 → (dom s d).st = .off) → (dom s 0).st = .on → (dom s 24).st = .on →
      (dom s 30).st = .on → (∀ q, slotQuiet s q = true ∧ (slot s q).forceFw = true) → anyBound s = false → s.ao.pmBusy = false → s.od.store = none →
      (∀ q, qEn s q = false) → qLevel s 57 = 0 → (∀ g, (fport s g).st ≠ .up) → s.regs.shadows = [] → (eng s 0).st = .idle → Answers (.profileStandby w) w [] s fun t =>
        t.start.stage = .off ∧ t.start.vcoreEn = false ∧ (dom t 0).st = .retention ∧ (dom t 24).st = .retention ∧ (dom t 30).st = .off ∧ t.od.profRes = 0)

/-- R353 to R357, R362, R366 to R373: the calendar counts and latches TB, is corrected by an accepted host or fabric source, ages to HOLDOVER with
EV56 and raises its alarm once. PE7 writes the records of Q57 with their SEQ, repeats one whose verify fails in the next slot with EV14,
and reads advance the reader's cursor. A trigger latches the lower free buffer, or is lost with EV57; PE7 copies and releases it. -/
def Obligations.CalendarJournalAndSnapshotsWork : Prop :=
  ∀ (w : Who) (sec : Word) (caltb : DWord) (qual : Fin 3) (replica : Bool) (rec_ b : List Byte) (pre rest : List (List Byte)) (d : Deq) (k : Fin 2)
    (by_ : Nat) (todo : List (Fin 2 × Nat)) (s s1 : State),
    let apart := fun (x : Word) (y : Nat) => (calPeriods x y - calPeriods s.ao.calSec s.ao.calSub).natAbs
    let quiet := fun (x : Word) => s.ao.alarm = 0 ∨ x.toNat < s.ao.alarm.toNat
    let sub := ofLe (odGet s 0x5400 2)
    let taken := fun (x : Word) (y q : Nat) (t : State) => t.ao.calSec = x ∧ t.ao.calSub = y ∧ t.ao.calQual = q ∧ t.ao.ageSec = 0
    let wr := odNum s 0x5401 1
    let there : Int := calPeriods sec 0 + ((s.time.tb.toNat : Int) - caltb.toNat) * 32768 / 1000000000
    let stored := fun (item : List Byte) => let body := le32 s.jr.seq.toNat ++ ((item.drop 4).take 52) ++ le32 (boots s)
      body ++ le32 (crc32c body).toNat
    let writes := peRuns s 7 = true ∧ qDequeue 57 64 s.fresh = (d, s1) ∧ d.status = qOK ∧ d.type ≠ 1 ∧ s.jr.lost = 0 ∧ odNum s 0x5401 3 = 0 ∧ s.jr.next < 262143
    let records := if replica then s.jr.replica else journalRecs s
    let cur := Tbl.get (if replica then s.jr.repCursor else s.jr.cursor) w.m
    let curs := fun (t : State) => if replica then t.jr.repCursor else t.jr.cursor
    let reader := pathOpen s w.m = true ∧ odServes s = true ∧ w.m ≠ 4
    let moved := fun (v : Word) (t : State) => curs t = Tbl.put (curs s) w.m v ∧ t.jr.recs = s.jr.recs ∧ t.jr.replica = s.jr.replica ∧ Only [.jr] s t
    let ctl := regv s 0xD0000
    let plainCtl := mayWrite s w 0xD0000 = true ∧ ctl &&& 0xFFFFD801 = 0 ∧ (issueHeld w.m s).ev = s.ev
    let image := fun (trig src : Nat) (t : State) => t.snap.last = k ∧ t.snap.localId = s.snap.localId + 1 ∧ t.snap.todo = s.snap.todo ++ [(k, src)] ∧ Counts 63 s t ∧
      ∃ m, Tbl.get t.snap.buf k = some m ∧ snapWord m 0 = (s.snap.localId + 1).toNat ∧ snapWord m 1 % 8 = trig ∧ m.length = 2816 ∧
        snapWord m 2 + 2 ^ 32 * snapWord m 3 = s.time.tb.toNat ∧ snapWord m 4 = s.time.tick.toNat ∧ snapWord m 5 = s.ao.calSec.toNat
    -- the calendar
    (s.start.stage = .run → Completes .calendarSecond s fun t => t.ao = { s.ao with calSec := s.ao.calSec + 1, calSub := 0, ageSec := s.ao.ageSec + 1 } ∧
      t.time.calTb = s.time.tb ∧ t.time.tb = s.time.tb ∧ (s.jr.onSecs = 59 → Tbl.get t.jr.life 2 = lifeAdd (Tbl.get s.jr.life 2) ∧ t.jr.onSecs = 0) ∧
      (s.jr.onSecs < 59 → t.jr.life = s.jr.life ∧ t.jr.onSecs = s.jr.onSecs + 1) ∧ Only [.time, .ao, .jr] s t) ∧
    (s.start.stage ≠ .run → exec .calendarSecond s = .next { s.fresh with
      ao := { s.ao with calSec := s.ao.calSec + 1, calSub := 0, ageSec := s.ao.ageSec + 1, sleep := (s.ao.sleep + 32768) % 2 ^ 48 } }) ∧
    (s.ao.calQual = 0 →
      (calHold s ≤ s.ao.ageSec / 3600 → Completes .calHoldExpired s fun t => t.ao = { s.ao with calQual := 1 } ∧ Counts 56 s t ∧ Only [.ao, .qm] s t) ∧
      (s.ao.ageSec / 3600 < calHold s → exec .calHoldExpired s = .next s.fresh)) ∧
    (mayOd s w 0x5400 1 (le32 sec.toNat) = true →
      (wr ≠ 2 → (wr = 1 → leaseHeldBy s w = true) → takesFabricTime s = false → sub < 32768 →
        (2 < apart sec sub → quiet sec → Answers (.hostTimeWrite w sec) w [] s fun t => taken sec sub 0 t ∧ t.time.tbEst = false ∧
          (odGet t 0x5400 2 = odDefault (odKey 0x5400 2) ∨ Sparse.wf odDefault s.od.vals = false) ∧
          (apart sec sub < 32768 → Tbl.get t.jr.life 11 = lifeAdd (Tbl.get s.jr.life 11)) ∧ (32768 ≤ apart sec sub → t.jr = s.jr) ∧
          Only [.time, .ao, .jr, .qm, .od, .xb, .start] s t) ∧
        (apart sec sub ≤ 2 → Answers (.hostTimeWrite w sec) w [] s fun t => taken s.ao.calSec s.ao.calSub 0 t ∧ t.jr = s.jr ∧ Only [.time, .ao, .qm, .od] s t)) ∧
      ((wr = 2 ∨ (wr = 1 ∧ leaseHeldBy s w = false) ∨ takesFabricTime s = true) → Refuses (.hostTimeWrite w sec) w 2 [.mf] s)) ∧
    (s.fab.tst = .locked → qual.val < 2 → (qual.val = 1 → s.ao.calQual ≠ 0) → 0 ≤ there →
      (2 < apart (toWord (there.toNat / 32768)) (there.toNat % 32768) → quiet (toWord (there.toNat / 32768)) →
        Completes (.fabricTimeRead caltb sec qual) s fun t => taken (toWord (there.toNat / 32768)) (there.toNat % 32768) qual.val t ∧
          t.ao.fabTime = some s.time.tb ∧ Only [.ao, .jr, .qm, .xb, .start] s t) ∧
      (apart (toWord (there.toNat / 32768)) (there.toNat % 32768) ≤ 2 → Completes (.fabricTimeRead caltb sec qual) s fun t =>
        taken s.ao.calSec s.ao.calSub qual.val t ∧ t.ao.fabTime = some s.time.tb ∧ Only [.ao] s t)) ∧
    ((s.fab.tst ≠ .locked ∨ qual = 2) → exec (.fabricTimeRead caltb sec qual) s = .next s.fresh) ∧
    (s.ao.alarm ≠ 0 → s.ao.alarm = s.ao.calSec → Completes .calendarAlarm s fun t => t.ao.alarm = 0 ∧ t.ao.wakeLast = 0x80 ∧
      (∀ e, e ≠ 30 → bit (regv s (0x10104 + 0x10 * e.val)) 7 = true → ((dom s e).st = .off ∨ (dom s e).st = .retention) → (dom t e).st = .exiting) ∧
      (∀ e, bit (regv s (0x10104 + 0x10 * e.val)) 7 = false → dom t e = dom s e) ∧ Only [.ao, .xb, .start] s t) ∧
    -- the journal
    (writes → Completes (.journalWrite true) s fun t => t.jr.recs.getLast? = some { slot := s.jr.next, bytes := stored d.data, good := true } ∧
      t.jr.seq = seqNext s.jr.seq ∧ t.jr.next = s.jr.next + 1 ∧ Tbl.get t.jr.life 3 = lifeAdd (Tbl.get s.jr.life 3) ∧ t.qm = s1.qm ∧ Only [.jr, .qm, .arb] s t) ∧
    (writes → s.jr.next + 2 < 262143 → Completes (.journalWrite false) s fun t => { slot := s.jr.next, bytes := d.data, good := false } ∈ t.jr.recs ∧
      { slot := s.jr.next + 1, bytes := stored d.data, good := true } ∈ t.jr.recs ∧ t.jr.next = s.jr.next + 3 ∧ Counts 14 s t ∧ Only [.jr, .qm, .arb] s t) ∧
    (peRuns s 7 = true → qDequeue 57 64 s.fresh = (d, s1) → (d.status = qPOISON ∨ d.status = qABORTED) → (headAt (swapIfDue 57 s1) 57).isNone = false →
      Completes (.journalWrite true) s fun t => t.jr.lost = s.jr.lost + 1 ∧ t.jr.recs = s.jr.recs ∧ Only [.jr, .qm, .arb] s t) ∧
    (peRuns s 7 = false → exec (.journalWrite true) s = .next s.fresh) ∧
    (reader → records = pre ++ rec_ :: rest → (∀ x ∈ pre, seqFrom cur (recSeq x) = false) → seqFrom cur (recSeq rec_) = true →
      (Answers (.journalRead w replica) w rec_ s (moved (seqNext (recSeq rec_)))) ∧
      (rest.length < 63 → ∀ last, (rec_ :: rest).getLast? = some last → Answers (.journalReadBlock w replica) w (rec_ :: rest).flatten s (moved (seqNext (recSeq last))))) ∧
    (reader → (∀ x ∈ records, seqFrom cur (recSeq x) = false) → Answers (.journalRead w replica) w [] s (moved cur) ∧
      Answers (.journalReadBlock w replica) w [] s (moved cur)) ∧
    (peRuns s 7 = true → Completes (.journalReplicaReceive b) s fun t => t.jr.recs = s.jr.recs ∧ Only [.jr] s t ∧
      (s.jr.replica.length < 256 → t.jr.replica = s.jr.replica ++ [b]) ∧ (s.jr.replica.length = 256 → t.jr.replica = s.jr.replica.drop 1 ++ [b])) ∧
    (peRuns s 7 = true → exec .counterBlockWrite s = .next { s.fresh with jr := { s.jr with
      block := some { life := s.jr.life, on := s.jr.lifeOn, trip := s.jr.lifeTrip, cut := s.jr.lifeCut, seq := newestSeq s } } }) ∧
    -- snapshots
    (snapBuffer s = some k →
      (plainCtl → Answers (.softwareSnapshot w false) w [] s fun t => image 0 w.m.val t ∧ Only [.regs] s t) ∧
      (mayOd s w 0x5850 1 [1] = true → Answers (.softwareSnapshot w true) w [] s fun t => image 0 w.m.val t ∧ Only [] s t) ∧
      (bit ctl 1 = true → Completes .snapNEdge s fun t => image 1 0x10 t ∧ Only [] s t)) ∧
    (snapBuffer s = none → bit ctl 1 = true → Completes .snapNEdge s fun t => t.snap.lost = min 255 (s.snap.lost + 1) ∧ t.snap.buf = s.snap.buf ∧
      Counts 57 s t ∧ Only [] s t) ∧
    (bit ctl 1 = false → exec .snapNEdge s = .next s.fresh) ∧
    (peRuns s 7 = true → s.snap.todo = (k, by_) :: todo → Tbl.get s.snap.buf k = some b → bit ctl 2 = false → Completes .snapshotCopy s fun t => t.snap.copies = (b :: s.snap.copies).take 4 ∧
      (bit ctl 13 = false → Tbl.get t.snap.buf k = none ∧ t.snap.todo = todo.filter (·.1 ≠ k)) ∧ (bit ctl 13 = true → t.snap.buf = s.snap.buf ∧ t.snap.todo = todo) ∧
      Only [.qm] s t) ∧
    (plainCtl → Answers (.snapshotReleaseB0 w) w [] s fun t => t.snap.buf = Tbl.put s.snap.buf 0 none ∧ Only [.regs] s t) ∧
    (plainCtl → Answers (.snapshotReleaseB1 w) w [] s fun t => t.snap.buf = Tbl.put s.snap.buf 1 none ∧ Only [.regs] s t)

/-- R390 to R400: the TAP's instructions select their registers; EXTEST, CLAMP and HIGHZ hold the hub die in module reset; a TAP reset or command
3 ends the session: the lease of master 5, halts and breakpoints go. A session is granted by a response that verifies, or at once without a
key; a refused one counts EV7, and three within 60 s lock. DBG_ACC and DBG_MBOX carry accesses of a granted session alone. HALT, RESUME
and STEP act on their engine. -/
def Obligations.DebugPortAndHaltsWork : Prop :=
  ∀ (code : Byte) (sig : List Byte) (addr val : Word) (word : DWord) (w : Who) (n : Fin 8) (a : At) (rd ra : Fin 16) (imm : BitVec 18) (rows : RegRow)
    (data : List Byte) (s : State), Sparse.wf regDefault s.regs.active = true →
    let ir := fun (c : Byte) (t : State) => t.dbg.ir = c
    let free := fun (t : State) => t.start = { s.start with scanHold := false }
    let selects := fun (i : Instr) (c : Byte) (p : State → Prop) => Completes i s fun t => t.dbg = { s.dbg with ir := c } ∧ free t ∧ p t ∧ Only [.dbg, .start] s t
    let holds := fun (i : Instr) (c : Byte) => (s.start.scanHold = false → Completes i s fun t => ir c t ∧ t.start.scanHold = true ∧ t.start.kind = 2 ∧
        t.lease.owner = none ∧ t.regs.shadows = [] ∧ (∀ p, (slot t p).st.gateOn = false) ∧ (∀ n, (eng t n).st = .reset) ∧ (t.dbg.authst = 0 ∨ t.dbg.authst = 4) ∧
        t.ao.calSec = s.ao.calSec ∧ t.pending = s.pending) ∧
      (s.start.scanHold = true → exec i s = .next { s.fresh with dbg := { s.dbg with ir := c } })
    let ends := fun (t : State) => t.dbg.authst = (if s.dbg.authst = 4 then 4 else 0) ∧ t.dbg.challenge = [] ∧ t.dbg.accStatus = 3 ∧ t.dbg.msgOut = [] ∧ free t ∧
      (s.lease.owner = some 5 → t.lease.owner = none ∧ Counts 8 s t) ∧ (s.lease.owner ≠ some 5 → t.lease = s.lease) ∧
      (s.dbg.authst = 2 → (∀ m, (eng s m).haltSt ≠ .halted → (eng t m).st ≠ .halted) ∧ t.dbg.halt = 0 ∧
        ∀ m k, m < 8 → k < 8 → regv t (0xE0110 + 0x40 * m + 4 * k) = 0)
    let takes := authTakes s = true
    let key := odGet s 0x2F13 0
    let good := s.dbg.challenge.length = 32 ∧ edOk key (dbgMessage s.dbg.challenge) sig = true
    let fails := (within60 s s.dbg.fails).length
    let granted := dbgGranted s = true
    let x := eng s n
    let ctl := 0xE0100 + 0x40 * n.val
    let bitn : BitVec 8 := BitVec.ofNat 8 (2 ^ n.val)
    let commands := mayWrite s w ctl = true ∧ s.dbg.stepping = 0
    let others := fun (t : State) => ∀ m, m ≠ n → (eng t m).st = (eng s m).st ∧ (eng t m).pc = (eng s m).pc ∧ (eng t m).regs = (eng s m).regs
    let stepped := a.pe = n ∧ commands ∧ x.st = .halted ∧ a.fetch = .none ∧ a.data = .none
    let parked := fun (st : EngSt) (t : State) => (eng t n).st = .halted ∧ (eng t n).haltSt = st ∧ t.dbg.stepping = 0 ∧ others t ∧ Only [.eng, .dbg, .regs, .usb] s t
    let asked : State := { s.fresh with dbg := { s.dbg with ir := 0x22, msgOut := s.dbg.msgOut.drop 1, msgIn := [] }, start := { s.start with scanHold := false } }
    -- the TAP
    holds .extest 0x00 ∧ holds .clamp 0x04 ∧ holds .highz 0x05 ∧
    selects .idcode 0x01 (fun t => t.reply = .done (le32 idcodeWord)) ∧ selects .samplePreload 0x02 (fun _ => True) ∧
    (bypassCode code = true → selects (.bypass code) code (fun _ => True)) ∧
    (Completes .tapReset s fun t => ir 0x01 t ∧ ends t) ∧ (authNow s ≠ 5 → Completes .dbgEndSession s fun t => ir 0x20 t ∧ ends t) ∧
    -- sessions
    (takes → key = [] → Completes .dbgChallenge s fun t => t.dbg.authst = 2 ∧ ir 0x20 t ∧ (s.dbg.authst ≠ 2 → t.dbg.accStatus = 0) ∧
      t.reply = .done (authCapture t) ∧ free t ∧ Only [.dbg, .start] s t) ∧
    (takes → key ≠ [] → Completes .dbgChallenge s fun t => t.dbg.challenge = padTo 32 (Config.challenge s.free) ∧ t.free = s.free + 1 ∧ t.dbg.resp = none ∧
      (t.dbg.authst = if s.dbg.authst = 2 then 2 else 1) ∧ t.reply = .done (authCapture t) ∧ free t ∧ Only [.dbg, .start, .free] s t) ∧
    (takes → s.dbg.authst ≠ 2 → Completes (.dbgResponse sig) s fun t => t.dbg = { s.dbg with ir := 0x20, resp := some sig, authst := 1 } ∧ free t ∧ Only [.dbg, .start] s t) ∧
    (takes → s.dbg.resp = some sig → Completes .dbgVerifyComplete s fun t => t.dbg.resp = none ∧ t.dbg.challenge = [] ∧ Only [.dbg] s t ∧
      (if good then t.dbg = { s.dbg with authst := 2, resp := none, challenge := [], accStatus := 0 }
       else t.dbg.authst = (if fails < 2 then 3 else 4) ∧ Counts 7 s t)) ∧
    (s.dbg.authst = 4 → exec .dbgAuthLockEnd s = .next { s.fresh with dbg := { s.dbg with authst := 0 } }) ∧
    -- the access register and the mailbox
    (Completes .dbgPoll s fun t => t.reply = .done (accCapture s) ∧ t.dbg = { s.dbg with ir := 0x21 } ∧ Only [.dbg, .start] s t) ∧
    (granted → addr.toNat % 4 = 0 → placeOf addr.toNat = .reg rows → Completes (.dbgRead addr) s fun t => t.reply = .done (accCapture s) ∧
      t.dbg = { s.dbg with ir := 0x21, accData := readReg s addr.toNat, accAddr := addr, accStatus := 0, accCode := 0 } ∧ Only [.dbg, .start] s t) ∧
    (granted → placeOf addr.toNat = .hole → Completes (.dbgRead addr) s fun t => t.dbg.accStatus = 2 ∧ t.dbg.accCode = 5 ∧ Counts 6 s t ∧ Only [.dbg, .start] s t) ∧
    (dbgGranted s = false → s.dbg.stepping = 0 → (Completes (.dbgRead addr) s fun t => t.dbg = { s.dbg with ir := 0x21 } ∧ Only [.dbg, .start] s t) ∧
      (Completes (.dbgWrite addr val) s fun t => t.dbg = { s.dbg with ir := 0x21 } ∧ Only [.dbg, .start] s t) ∧ (accCapture s).getLast? = some 3 ∧
      (Completes (.dbgMboxTransfer word true) s fun t => t.reply = .status 3 ∧ t.dbg = { s.dbg with ir := 0x22 } ∧ Only [.dbg, .start] s t)) ∧
    (granted → s.dbg.stepping = 0 → mayWrite s dbgWho addr.toNat = true → addr.toNat % 4 = 0 → placeOf addr.toNat = .reg rows → rows.rs ≠ 0 → rows.posted = false →
      val.toNat &&& rows.rv = 0 → Completes (.dbgWrite addr val) s fun t => t.dbg.accStatus = 0 ∧ t.dbg.accAddr = addr ∧
        shadowValue t addr.toNat = merge (shadowValue s addr.toNat) val (BitVec.ofNat 32 rows.rs) ∧ t.regs.active = s.regs.active ∧ Only [.dbg, .start, .regs] s t) ∧
    (granted → s.dbg.stepping = 0 → Completes (.dbgMboxTransfer word false) s fun t => t.dbg = { s.dbg with ir := 0x22, msgOut := s.dbg.msgOut.drop 1 } ∧
      t.reply = .done (leBytes (s.dbg.msgOut.headD 0).toNat 8 ++ [BitVec.ofNat 8 (b2n (decide (0 < s.dbg.msgOut.length)) + 2 * b2n (decide (1 < s.dbg.msgOut.length)))]) ∧
      Only [.dbg, .start] s t) ∧
    (granted → s.dbg.stepping = 0 → s.dbg.msgIn = [] → hdrNum (leBytes word.toNat 8) 0 1 = 0x01 → hdrNum (leBytes word.toNat 8) 6 2 ≤ 4096 → peRuns s 0 = true →
      let b := leBytes word.toNat 8
      odRead dbgWho (hdrNum b 2 2) (hdrNum b 4 1) asked = (0, data, asked) → data.length ≤ hdrNum b 6 2 →
      Completes (.dbgMboxTransfer word true) s fun t => t.dbg = { s.dbg with
          ir := 0x22, msgOut := s.dbg.msgOut.drop 1 ++ dwordsOf ((8 + data.length + 7) / 8) ([0x81] ++ (b.drop 1).take 4 ++ [0] ++ le16 data.length ++ data) } ∧ Only [.dbg, .start] s t) ∧
    -- halt, resume, step
    (commands → (x.st = .idle ∨ x.st = .tick ∨ x.st = .handler ∨ x.st = .init) → Completes (.haltRequest w n) s fun t => t.reply = .done [] ∧
      (eng t n).st = .halted ∧ (eng t n).haltSt = x.st ∧ (eng t n).sleep = .awake ∧ (eng t n).portHold = true ∧ (eng t n).pc = x.pc ∧
      t.dbg.halt = s.dbg.halt ||| bitn ∧ others t ∧ Only [.eng, .dbg, .arb, .usb, .regs] s t) ∧
    (commands → (x.st = .reset ∨ x.st = .check) → Completes (.haltRequest w n) s fun t => t.reply = .done [] ∧ t.eng.mem = s.eng.mem ∧ (eng t n).st = x.st ∧
      t.dbg.halt = s.dbg.halt ||| bitn ∧ Only [.dbg, .regs] s t) ∧
    (commands → x.st = .halted → x.reqHeld = none → (∀ e, servedBy s n e = false) → Completes (.resume w n) s fun t => t.reply = .done [] ∧ (eng t n).st = x.haltSt ∧
      (eng t n).pc = x.pc ∧ (eng t n).regs = x.regs ∧ t.dbg.halt = s.dbg.halt &&& ~~~bitn ∧ others t ∧ Only [.eng, .dbg, .regs] s t) ∧
    (stepped → x.haltSt = .tick → x.sleep = .awake → x.pc.toNat % 4 = 0 → x.pc.toNat < 0x10000 →
      (engineWord a (wordAt s n x.pc) = some (.addi a rd ra imm) → Completes (.step w a) s fun t => RegIs t n rd (greg s n ra + imm.signExtend 32) ∧
        (eng t n).pc = x.pc + 4 ∧ parked .tick t) ∧
      (engineWord a (wordAt s n x.pc) = some (.sw a rd ra imm) → (greg s n ra + imm.signExtend 32).toNat % 4 = 0 → Memory.wf s.eng.mem = true →
        0x10000 ≤ (greg s n ra + imm.signExtend 32).toNat → (greg s n ra + imm.signExtend 32).toNat < 0x20000 →
        dwpHit s n true (greg s n ra + imm.signExtend 32).toNat = false → Completes (.step w a) s fun t =>
          memNum t (iramBase n + (greg s n ra + imm.signExtend 32).toNat) 4 = (greg s n rd).toNat ∧ (eng t n).pc = x.pc + 4 ∧ parked .tick t)) ∧
    (stepped → x.haltSt = .idle → domainOn s (engDomain n) = true → x.entry = false → (issueHeld w.m s).ev = s.ev →
      handlerSource s n = none → Completes (.step w a) s fun t => (eng t n).pc = x.pc ∧ (eng t n).regs = x.regs ∧ parked .idle t)

/-- R29, R346, R350, R358, R376 to R386: a power-on reset starts TB, the straps and VCORE_EN, and keeps AO when it ran on VBAT; VCORE_PG makes the core
ready, its retry pulses VCORE_EN. A reset that was commanded, or RESET_N, records its KIND and SRC, keeps flash, AO and the trips, and
clears the rest. The released core has every domain ON and runs its image, or waits for one with PHASE 7. -/
def Obligations.ResetsAndTheStartFollowTheirTables : Prop :=
  ∀ (m : Fin 16) (who : Who) (strap : BitVec 4) (go : StartIn) (lost : Bool) (s : State),
    let cleared := fun (t : State) => t.regs.shadows = [] ∧ t.regs.unlock = 0 ∧ t.lease = State.reset.lease ∧ (∀ n, Tbl.get t.ev.cnt n = 0) ∧
      (∀ p, (slot t p).st.gateOn = false) ∧ (∀ g, (group t g).closed = false) ∧ (∀ n, (eng t n).st = .reset) ∧ t.qm.q = QmS.reset.q ∧ t.xb = XbS.reset ∧
      t.fab.addr = 0 ∧ t.fab.db = [] ∧ t.fab.rt0 = [] ∧ t.fab.rt1 = [] ∧ t.xpt = XptS.reset ∧ t.can = CanS.reset ∧ (∀ a, a < 0x10000 ∨ 0x20000 ≤ a → a ≠ 0x34 → regv t a = regDefault a)
    let flash := fun (t : State) => t.jr.recs = s.jr.recs ∧ t.od.recs = s.od.recs ∧ t.fab.pref = s.fab.pref ∧ (∀ p, (slot t p).flashFet = (slot s p).flashFet) ∧
      (s.img.load = none → t.img.slot = s.img.slot)
    let powered : Stage := match s.start.stage with | .run | .ready => .ready | .off | .vcore => .vcore
    let resets := fun (kind src : Nat) (t : State) => cleared t ∧ flash t ∧ t.start = { StartS.init with stage := powered, kind := kind, src := src, scanHold := s.start.scanHold } ∧
      t.ao.calSec = s.ao.calSec ∧ t.ao.alarm = s.ao.alarm ∧ t.ao.dom = s.ao.dom ∧ t.ao.onPll = false ∧ t.ao.pllEn = false ∧
      (∀ p, (slot s p).flashFet = none → (slot t p).locked = (slot s p).locked ∧ (slot t p).retries = (slot s p).retries ∧
        ((slot s p).st = .tripped ∨ (slot s p).st = .retryWait → (slot t p).st = .tripped) ∧ ((slot s p).st = .lockout → (slot t p).st = .lockout)) ∧
      Tbl.get t.jr.life 1 = lifeAdd (Tbl.get s.jr.life 1) ∧ t.pending = s.pending ∧
      (s.start.stage = .run → t.ao.tbCopy = s.time.tb ∧ t.ao.sleep = 0) ∧ (s.start.vcoreEn = false → t.out = [.vcoreEn true])
    let source := match s.start.rstCmd with | .module m => m.val | .image (some m) => m.val | .core _ | .image none | .none => 0x1F
    let kind := match s.start.rstCmd with | .module _ => 3 | .image _ => 4 | .core _ | .none => 2
    -- power
    (Completes (.powerOnReset lost strap) s fun t => cleared t ∧ flash t ∧ t.time.tb = 0 ∧ t.time.tick = 0 ∧ t.time.nextBoundary = 125000 ∧ t.time.tbEst = false ∧
      t.pin.strap = strap ∧ t.start = { StartS.init with kind := if lost then 1 else 0, scanHold := s.start.scanHold } ∧ t.out = [.vcoreEn true] ∧
      Tbl.get t.jr.life 0 = lifeAdd (Tbl.get s.jr.life 0) ∧ (lost = true → t.ao = AoS.reset) ∧
      (lost = false → t.ao.calSec = s.ao.calSec ∧ t.ao.calSub = s.ao.calSub ∧ t.ao.alarm = s.ao.alarm ∧ ∀ d, (dom t d).st = .on ∧ (dom t d).sig = none) ∧
      (∀ p, (slot s p).flashFet = none → (slot t p).st ≠ .tripped ∧ (slot t p).st ≠ .lockout ∧ (slot t p).retries = 0) ∧ t.pending = s.pending) ∧
    (s.start.stage = .vcore →
      exec .vcorePgRise s = .next { s.fresh with start := { s.start with stage := .ready }, ao := { s.ao with pg := true, vnow := Config.bootVoltage.toNat } } ∧
      exec .vcoreEnRetry s = .next (s.fresh.emit [.vcoreEn false, .vcoreEn true])) ∧
    (s.start.stage ≠ .vcore → exec .vcorePgRise s = .next s.fresh ∧ exec .vcoreEnRetry s = .next s.fresh) ∧
    -- resets
    (Completes (.moduleReset strap) s fun t => resets kind source t ∧ t.pin.strap = strap) ∧
    (∀ k, s.start.rstCmd = .core k → Completes .coreReset s fun t => resets 5 k.val t ∧ t.pin.strap = s.pin.strap) ∧
    (s.start.rstCmd = .none → Completes .coreReset s fun t => resets 5 0x1F t ∧ t.pin.strap = s.pin.strap) ∧
    (mayOd s who 0x2002 1 [1] = true → (s.start.rstCmd = .none ∨ s.start.rstCmd = .core m) → Answers (.moduleResetCommand who) who [] s fun t =>
      t.start = { s.start with rstCmd := .module who.m } ∧ Only [.start] s t) ∧
    (mayOd s who 0x2002 1 [2] = true →
      (s.start.rstCmd = .none → Answers (.coreResetCommand who) who [] s fun t => t.start = { s.start with rstCmd := .core who.m } ∧ Only [.start] s t) ∧
      (s.start.rstCmd = .module m → Answers (.coreResetCommand who) who [] s fun t => t.start = s.start ∧ Only [] s t)) ∧
    -- the release of the core
    ((s.start.stage ≠ .ready ∨ s.start.scanHold = true) → exec (.coreRelease go) s = .next s.fresh) ∧
    (s.start.stage = .ready → s.start.scanHold = false →
      (s.start.kind = 7 → Completes (.coreRelease go) s fun t => t.start.stage = .run ∧ (t.start.phase = if go.runPoint then 4 else 8) ∧ (∀ d, domainOn t d = true) ∧
        t.time.tbEst = true ∧ t.time.tb.toNat = (s.ao.tbCopy.toNat + s.ao.sleep * 30517578125 / 1000000) % 2 ^ 64 ∧ t.time.tick = 0 ∧
        t.img.running = s.img.running ∧ (t.start.image = decide (s.img.running = 1)) ∧ (∀ n, (eng t n).st = .idle) ∧ (t.ao.onPll = go.runPoint) ∧ t.pending = s.pending) ∧
      (s.start.kind ≠ 7 → s.start.kind ≠ 1 → 8 ≤ s.pin.strap.toNat → Completes (.coreRelease go) s fun t => t.start.stage = .run ∧ t.start.phase = 7 ∧
        (∀ d, domainOn t d = true) ∧ (∀ u, (tree t u).presents = (tree s u).presents) ∧ (2 ≤ s.start.kind → Counts 62 s t ∧ t.time.tbEst = true) ∧
        (s.start.kind = 0 → t.time.tb = 0 ∧ t.time.tbEst = false) ∧ t.pending = s.pending) ∧
      (s.start.kind = 1 → s.pin.strap.toNat % 4 = 0 → s.pin.strap.toNat < 8 → (imgSlot s 0).st = .good → (imgSlot s 1).st = .empty → (imgSlot s 0).started = false →
        (imgSlot s 1).started = false → (imgSlot s 0).bytes.length < 576 → Completes (.coreRelease go) s fun t => t.start.phase = 7 ∧ (imgSlot t 0).st = .invalid ∧
          Counts 10 s t ∧ t.ao.ftrim = go.ftrim ∧ t.time.tb = 0 ∧ (∀ d, domainOn t d = true) ∧ t.pending = s.pending)) ∧
    (s.start.stage = .run → (s.start.phase = 8 ∨ s.start.phase = 7) → s.ao.onPll = false → s.ao.pmBusy = false → Completes .runPointRetry s fun t =>
      t.ao = { s.ao with vout := vtarget, pmBusy := true, pmAck := false, pmTimeout := false, pllEn := true } ∧
      t.out = [.pmbus (pmbAddress s) 0x21 (voutCode vtarget)] ∧ Only [.ao] s t)

/-- R391: the IDCODE register holds the silicon stepping in bits 31 to 28, equal to SYS_ID.STEP, the part number 0x2404 in bits 27 to 12,
the JEDEC identity code in bits 11 to 1, and 1 in bit 0. -/
def Obligations.IdcodeHoldsSteppingPartAndJedecCode : Prop :=
  ∀ s : State, Completes .idcode s fun t => ∃ v : Word, t.reply = .done (le32 v.toNat) ∧ v.extractLsb' 28 4 = Config.stepping ∧
    v.extractLsb' 28 4 = (readReg s 0).extractLsb' 16 4 ∧ v.extractLsb' 12 16 = 0x2404 ∧ v.extractLsb' 1 11 = Config.jedec ∧ v.getLsbD 0 = true
end

