-- ==== Sys2Proof/Laws/Tbl.lean ====
section
/-!
SUPPORT. Read-after-write laws of the fixed-size tables, and induction over their indices.
-/

namespace Sys2Proof

@[simp] theorem Tbl.get_put_self {n : Nat} {α : Type} (t : Tbl n α) (i : Fin n) (a : α) :
    Tbl.get (Tbl.put t i a) i = a := by
  simp [Tbl.get, Tbl.put]

theorem Tbl.get_put_ne {n : Nat} {α : Type} (t : Tbl n α) {i j : Fin n} (a : α) (h : i ≠ j) :
    Tbl.get (Tbl.put t i a) j = Tbl.get t j := by
  have hv : i.val ≠ j.val := fun e => h (Fin.ext e)
  simp [Tbl.get, Tbl.put, hv]

theorem Tbl.get_put {n : Nat} {α : Type} (t : Tbl n α) (i j : Fin n) (a : α) :
    Tbl.get (Tbl.put t i a) j = if i = j then a else Tbl.get t j := by
  by_cases h : i = j
  · subst h; simp
  · simp [Tbl.get_put_ne t a h, h]

@[simp] theorem Tbl.get_upd_self {n : Nat} {α : Type} (t : Tbl n α) (i : Fin n) (f : α → α) :
    Tbl.get (Tbl.upd t i f) i = f (Tbl.get t i) := by
  simp [Tbl.upd]

theorem Tbl.get_upd_ne {n : Nat} {α : Type} (t : Tbl n α) {i j : Fin n} (f : α → α) (h : i ≠ j) :
    Tbl.get (Tbl.upd t i f) j = Tbl.get t j := by
  simp [Tbl.upd, Tbl.get_put_ne t _ h]

@[simp] theorem Tbl.get_fill {n : Nat} {α : Type} (a : α) (i : Fin n) :
    Tbl.get (Tbl.fill n a) i = a := by
  simp [Tbl.get, Tbl.fill]

/-- Induction over `eachFin`: what holds at the start and is kept by every turn holds at the end. -/
theorem eachFin_keeps {σ : Type} {n : Nat} {f : Fin n → σ → σ} {s : σ} (P : σ → Prop) (h0 : P s)
    (h : ∀ i t, P t → P (f i t)) : P (eachFin n f s) := by
  unfold eachFin
  generalize allFin n = l
  induction l generalizing s with
  | nil => exact h0
  | cons i l ih => exact ih (h i s h0)

end Sys2Proof
end

