-- ==== Sys2Proof/Laws/Frame.lean ====
section
/-!
SUPPORT. Laws of frames: `Only` is reflexive and transitive, and the operations that every command shares (its fresh start,
answers, outputs, events, the snapshot that ends a command) stay within it.
-/

namespace Sys2Proof.Machine

open Sys2Proof

/-! ## Frames compose -/

theorem sameIn_refl (p : Comp) (s : State) : sameIn p s s := by
  cases p <;> simp [sameIn]

theorem sameIn_trans {p : Comp} {s t u : State} (h : sameIn p s t) (k : sameIn p t u) : sameIn p s u := by
  cases p <;> simp only [sameIn] at * <;> try exact k.trans h
  · rw [k, h]
  · intro i; rw [k i, h i]
  · exact ⟨by rw [k.1, h.1], fun n => by rw [k.2 n, h.2 n]⟩
  · rw [k, h]

theorem Only.refl (l : List Comp) (s : State) : Only l s s := fun p _ => sameIn_refl p s

theorem Only.trans {l : List Comp} {s t u : State} (h : Only l s t) (k : Only l t u) : Only l s u :=
  fun p hp => sameIn_trans (h p hp) (k p hp)

theorem Only.mono {l m : List Comp} {s t : State} (h : Only l s t) (k : ∀ p ∈ l, p ∈ m) : Only m s t :=
  fun p hp => h p fun hl => hp (k p hl)

/-- A frame that names nothing holds within every frame. -/
theorem Only.any {l : List Comp} {s t : State} (h : Only [] s t) : Only l s t := h.mono (by simp)

/-! ## What every command shares -/

theorem fresh_only (s : State) : Only [] s s.fresh := by
  intro p _; cases p <;> simp [sameIn, State.fresh, eng]

theorem answer_only (r : Reply) (s : State) : Only [] s (s.answer r) := by
  intro p _; cases p <;> simp [sameIn, State.answer, eng]

theorem emit_only (o : List Out) (s : State) : Only [] s (s.emit o) := by
  intro p _; cases p <;> simp [sameIn, State.emit, eng]

/-! ## Events and snapshots -/

theorem evRoute_only (n : Fin 64) (s : State) : Only [] s (evRoute n s) := by
  intro p _
  have hm : ∀ u, Tbl.get (evRoute n s).usb.mf u
      = { Tbl.get s.usb.mf u with changed := (Tbl.get (evRoute n s).usb.mf u).changed } := by
    intro u
    refine eachFin_keeps (P := fun (t : Tbl 3 MfS) => Tbl.get t u = { Tbl.get s.usb.mf u with changed := (Tbl.get t u).changed }) rfl ?_
    intro i t ht
    dsimp only
    split
    · by_cases hi : i = u
      · subst hi; rw [Tbl.get_upd_self]; split
        · exact ht
        · rw [ht]
      · rw [Tbl.get_upd_ne _ _ hi]; exact ht
    · exact ht
  have he : ∀ k, Tbl.get (evRoute n s).eng.pe k
      = { Tbl.get s.eng.pe k with evPend := (Tbl.get (evRoute n s).eng.pe k).evPend } := by
    intro k
    refine eachFin_keeps (P := fun (t : Tbl 8 EngS) => Tbl.get t k = { Tbl.get s.eng.pe k with evPend := (Tbl.get t k).evPend }) rfl ?_
    intro i t ht
    dsimp only
    split
    · by_cases hi : i = k
      · subst hi; rw [Tbl.get_upd_self, ht]
      · rw [Tbl.get_upd_ne _ _ hi]; exact ht
    · exact ht
  cases p <;> first
    | exact hm
    | exact ⟨rfl, he⟩
    | rfl
    | (simp only [sameIn, evRoute]; split <;> rfl)

theorem countEv_only (n : Fin 64) (s : State) : Only [] s (countEv n s) := by
  unfold countEv
  simp only []
  split
  · intro p _; cases p <;> simp [sameIn, eng]
  · refine Only.trans (t := { s with ev := { s.ev with cnt := Tbl.put s.ev.cnt n (Tbl.get s.ev.cnt n + 1) } }) ?_ (evRoute_only _ _)
    intro p _; cases p <;> simp [sameIn, eng]

theorem snapLatch_only (trig ev by_ : Nat) (ids : List Word) (u st : Bool) (s : State) :
    Only [] s (snapLatch trig ev by_ ids u st s) := by
  unfold snapLatch
  split
  · refine Only.trans ?_ (countEv_only _ _)
    intro p _; cases p <;> simp only [sameIn, eng] <;> split <;> simp
  · refine Only.trans ?_ (countEv_only _ _)
    intro p _; cases p <;> simp [sameIn, eng]

theorem snapDue_only (d : Option Nat) (s : State) : Only [] s { s with snap := { s.snap with due := d } } := by
  intro p _; cases p <;> simp [sameIn, eng]

theorem settle_only (s : State) : Only [] s (settle s) := by
  unfold settle
  split
  · exact Only.refl _ _
  · exact (snapDue_only none s).trans ((snapLatch_only _ _ _ _ _ _ _).trans (snapDue_only none _))

/-- A command that ends by `done` is framed by its body. -/
theorem done_frame {l : List Comp} {s t : State} (h : Only l s.fresh t) : Only l s (settle t) :=
  ((fresh_only s).any.trans h).trans (settle_only t).any

end Sys2Proof.Machine
end

