-- ==== Sys2Proof/Laws/Engine.lean ====
section
/-!
SUPPORT. Laws of the engines: what `issue` does for an engine that is ready, and what an advanced PC leaves alone.
-/

namespace Sys2Proof.Machine

open Sys2Proof

/-- The instruction of a ready engine is its operation in the advanced state, or the exception that operation raises. -/
theorem issue_ready {a : At} {s : State} (h : Ready a s) (op : Word → State → Res Unit) :
    issue a op s.fresh = match op (eng s a.pe).pc (advanced a s) with
      | .ok _ u => u
      | .exc c m w u => exception a.pe c m w (eng s a.pe).pc u := by
  obtain ⟨h1, h2, h3, h4, h5, -⟩ := h
  have he : eng s.fresh a.pe = eng s a.pe := rfl
  have hb : breaks s.fresh a.pe (eng s a.pe).pc = false := h5
  have hr : reach a.pe (eng s a.pe).pc.toNat = .mem (iramBase a.pe + (eng s a.pe).pc.toNat) 0 (eng s a.pe).pc.toNat := by
    simp [reach, h3]
  simp only [issue, he, h1, fetchAt, h2, h3, h4, hb, eccLocal, hr, Bool.not_true, Bool.false_eq_true, ne_eq, not_true_eq_false,
    if_false, if_true]
  rfl

@[simp] theorem eng_updEng_self (n : Fin 8) (f : EngS → EngS) (s : State) : eng (updEng n f s) n = f (eng s n) := by
  simp [eng, updEng]

theorem eng_updEng_ne {n k : Fin 8} (f : EngS → EngS) (s : State) (h : n ≠ k) : eng (updEng n f s) k = eng s k := by
  simp [eng, updEng, Tbl.get_upd_ne _ _ h]

theorem eng_updEng (n k : Fin 8) (f : EngS → EngS) (s : State) :
    eng (updEng n f s) k = if n = k then f (eng s k) else eng s k := by
  by_cases h : n = k
  · subst h; simp
  · simp [eng_updEng_ne f s h, h]

@[simp] theorem eng_fresh (s : State) (n : Fin 8) : eng s.fresh n = eng s n := rfl

theorem eng_advanced (a : At) (s : State) (n : Fin 8) :
    eng (advanced a s) n = if a.pe = n then { eng s n with pc := (eng s n).pc + 4 } else eng s n := by
  rw [advanced, eng_updEng]; rfl

@[simp] theorem greg_advanced (a : At) (s : State) (n : Fin 8) (r : Fin 16) : greg (advanced a s) n r = greg s n r := by
  simp only [greg, eng_advanced]
  split
  · rfl
  · split <;> rfl

/-- A write of a register raises no snapshot. -/
@[simp] theorem snap_putReg (n : Fin 8) (r : Fin 16) (v : Word) (s : State) : (putReg n r v s).snap = s.snap := by
  unfold putReg; split <;> rfl

@[simp] theorem snapDue_advanced (a : At) (s : State) : (advanced a s).snap.due = none := rfl

/-- A command that raised no trigger ends as its body left it. -/
theorem settle_quiet {s : State} (h : s.snap.due = none) : settle s = s := by
  unfold settle; rw [h]

@[simp] theorem settle_putReg_advanced (n : Fin 8) (r : Fin 16) (v : Word) (a : At) (s : State) :
    settle (putReg n r v (advanced a s)) = putReg n r v (advanced a s) := settle_quiet (by simp)

end Sys2Proof.Machine
end

