-- ==== Sys2Proof/Laws/Sparse.lean ====
section
/-!
SUPPORT. Laws of the sparse tables: every write keeps the canonical form, a read after a write to the same key gives the value
written, and a write leaves every other key alone.
-/

namespace Sys2Proof.Machine

open Sys2Proof

variable {α : Type} [DecidableEq α] {dflt : Nat → α}

/-- Every key of a table lies above a bound. -/
def Sparse.above (k : Nat) (l : List (Nat × α)) : Prop := ∀ x ∈ l, k < x.1

theorem Sparse.wf_cons {k : Nat} {v : α} {l : List (Nat × α)} :
    Sparse.wf dflt ((k, v) :: l) = true ↔ v ≠ dflt k ∧ Sparse.above k l ∧ Sparse.wf dflt l = true := by
  induction l generalizing k v with
  | nil => simp [Sparse.wf, Sparse.above]
  | cons x l ih =>
    obtain ⟨j, a⟩ := x
    rw [show Sparse.wf dflt ((k, v) :: (j, a) :: l)
        = (decide (v ≠ dflt k) && decide (k < j) && Sparse.wf dflt ((j, a) :: l)) from rfl]
    simp only [Bool.and_eq_true, decide_eq_true_eq, ih]
    constructor
    · rintro ⟨⟨h1, h2⟩, h3, h4, h5⟩
      refine ⟨h1, ?_, h3, h4, h5⟩
      intro x hx
      rcases List.mem_cons.mp hx with rfl | hx
      · exact h2
      · exact Nat.lt_trans h2 (h4 x hx)
    · rintro ⟨h1, h2, h3, h4, h5⟩
      exact ⟨⟨h1, h2 (j, a) List.mem_cons_self⟩, h3, h4, h5⟩

omit [DecidableEq α] in
theorem Sparse.get_above {k : Nat} {l : List (Nat × α)} (h : Sparse.above k l) : Sparse.get dflt l k = dflt k := by
  induction l with
  | nil => rfl
  | cons x l ih =>
    obtain ⟨j, a⟩ := x
    have hj : k < j := h (j, a) List.mem_cons_self
    have : ¬ j = k := by omega
    simp only [Sparse.get, this, if_false]
    exact ih fun x hx => h x (List.mem_cons_of_mem _ hx)

omit [DecidableEq α] in
theorem Sparse.above_drop {k m : Nat} {l : List (Nat × α)} (h : Sparse.above m l) : Sparse.above m (Sparse.drop l k) := by
  induction l with
  | nil => exact h
  | cons x l ih =>
    obtain ⟨j, a⟩ := x
    unfold Sparse.drop
    split
    · exact fun x hx => h x (List.mem_cons_of_mem _ hx)
    · intro x hx
      rcases List.mem_cons.mp hx with rfl | hx
      · exact h _ List.mem_cons_self
      · exact ih (fun x hx => h x (List.mem_cons_of_mem _ hx)) x hx

omit [DecidableEq α] in
theorem Sparse.above_insert {k m : Nat} {v : α} {l : List (Nat × α)} (hk : m < k) (h : Sparse.above m l) :
    Sparse.above m (Sparse.insert k v l) := by
  induction l with
  | nil => intro x hx; rcases List.mem_cons.mp hx with rfl | hx; · exact hk
           · cases hx
  | cons x l ih =>
    obtain ⟨j, a⟩ := x
    have hl : Sparse.above m l := fun x hx => h x (List.mem_cons_of_mem _ hx)
    unfold Sparse.insert
    split
    · intro x hx
      rcases List.mem_cons.mp hx with rfl | hx
      · exact hk
      · exact h x hx
    · split
      · intro x hx
        rcases List.mem_cons.mp hx with rfl | hx
        · exact hk
        · exact hl x hx
      · intro x hx
        rcases List.mem_cons.mp hx with rfl | hx
        · exact h _ List.mem_cons_self
        · exact ih hl x hx

theorem Sparse.wf_drop {k : Nat} {l : List (Nat × α)} (h : Sparse.wf dflt l = true) : Sparse.wf dflt (Sparse.drop l k) = true := by
  induction l with
  | nil => exact h
  | cons x l ih =>
    obtain ⟨j, a⟩ := x
    obtain ⟨h1, h2, h3⟩ := Sparse.wf_cons.mp h
    unfold Sparse.drop
    split
    · exact h3
    · exact Sparse.wf_cons.mpr ⟨h1, Sparse.above_drop h2, ih h3⟩

theorem Sparse.wf_insert {k : Nat} {v : α} {l : List (Nat × α)} (hv : v ≠ dflt k) (h : Sparse.wf dflt l = true) :
    Sparse.wf dflt (Sparse.insert k v l) = true := by
  induction l with
  | nil => simpa [Sparse.insert, Sparse.wf] using hv
  | cons x l ih =>
    obtain ⟨j, a⟩ := x
    obtain ⟨h1, h2, h3⟩ := Sparse.wf_cons.mp h
    unfold Sparse.insert
    split
    · next hk =>
      refine Sparse.wf_cons.mpr ⟨hv, ?_, h⟩
      intro x hx
      rcases List.mem_cons.mp hx with rfl | hx
      · exact hk
      · exact Nat.lt_trans hk (h2 x hx)
    · split
      · next hk => subst hk; exact Sparse.wf_cons.mpr ⟨hv, h2, h3⟩
      · next h4 h5 => exact Sparse.wf_cons.mpr ⟨h1, Sparse.above_insert (by omega) h2, ih h3⟩

/-- A write keeps the canonical form. -/
theorem Sparse.wf_put {k : Nat} {v : α} {l : List (Nat × α)} (h : Sparse.wf dflt l = true) :
    Sparse.wf dflt (Sparse.put dflt l k v) = true := by
  unfold Sparse.put
  split
  · exact Sparse.wf_drop h
  · next hv => exact Sparse.wf_insert hv h

/-- Dropping keys keeps the canonical form. -/
theorem Sparse.wf_filter {p : Nat × α → Bool} {l : List (Nat × α)} (h : Sparse.wf dflt l = true) :
    Sparse.wf dflt (l.filter p) = true := by
  induction l with
  | nil => exact h
  | cons x l ih =>
    obtain ⟨j, a⟩ := x
    obtain ⟨h1, h2, h3⟩ := Sparse.wf_cons.mp h
    by_cases hp : p (j, a) = true
    · rw [List.filter_cons_of_pos hp]
      exact Sparse.wf_cons.mpr ⟨h1, fun x hx => h2 x ((List.mem_filter.mp hx).1), ih h3⟩
    · rw [List.filter_cons_of_neg hp]
      exact ih h3

omit [DecidableEq α] in
theorem Sparse.get_drop_ne {j k : Nat} (l : List (Nat × α)) (h : j ≠ k) : Sparse.get dflt (Sparse.drop l k) j = Sparse.get dflt l j := by
  induction l with
  | nil => rfl
  | cons x l ih =>
    obtain ⟨i, a⟩ := x
    unfold Sparse.drop
    split
    · next hi => subst hi; simp [Sparse.get, Ne.symm h]
    · simp only [Sparse.get, ih]

omit [DecidableEq α] in
theorem Sparse.get_insert_ne {j k : Nat} {v : α} (l : List (Nat × α)) (h : j ≠ k) :
    Sparse.get dflt (Sparse.insert k v l) j = Sparse.get dflt l j := by
  induction l with
  | nil => simp [Sparse.insert, Sparse.get, Ne.symm h]
  | cons x l ih =>
    obtain ⟨i, a⟩ := x
    unfold Sparse.insert
    split
    · simp [Sparse.get, Ne.symm h]
    · split
      · next hi => subst hi; simp [Sparse.get, Ne.symm h]
      · simp only [Sparse.get, ih]

/-- A write leaves every other key alone. -/
theorem Sparse.get_put_ne {j k : Nat} {v : α} (l : List (Nat × α)) (h : j ≠ k) :
    Sparse.get dflt (Sparse.put dflt l k v) j = Sparse.get dflt l j := by
  unfold Sparse.put
  split
  · exact Sparse.get_drop_ne l h
  · exact Sparse.get_insert_ne l h

omit [DecidableEq α] in
theorem Sparse.get_insert_self {k : Nat} {v : α} (l : List (Nat × α)) : Sparse.get dflt (Sparse.insert k v l) k = v := by
  induction l with
  | nil => simp [Sparse.insert, Sparse.get]
  | cons x l ih =>
    obtain ⟨i, a⟩ := x
    unfold Sparse.insert
    split
    · simp [Sparse.get]
    · split
      · simp [Sparse.get]
      · next h1 h2 => have : ¬ i = k := fun e => h2 e.symm
                      simp only [Sparse.get, this, if_false, ih]

theorem Sparse.get_drop_self {k : Nat} {l : List (Nat × α)} (h : Sparse.wf dflt l = true) :
    Sparse.get dflt (Sparse.drop l k) k = dflt k := by
  induction l with
  | nil => rfl
  | cons x l ih =>
    obtain ⟨i, a⟩ := x
    obtain ⟨-, h2, h3⟩ := Sparse.wf_cons.mp h
    unfold Sparse.drop
    split
    · next hi => subst hi; exact Sparse.get_above h2
    · next hi => simp only [Sparse.get, hi, if_false, ih h3]

/-- A read after a write to the same key gives the value written. -/
theorem Sparse.get_put_self {k : Nat} {v : α} {l : List (Nat × α)} (h : Sparse.wf dflt l = true) :
    Sparse.get dflt (Sparse.put dflt l k v) k = v := by
  unfold Sparse.put
  split
  · next hv => rw [Sparse.get_drop_self h, hv]
  · exact Sparse.get_insert_self l

/-! ## Engine memories -/

theorem memPut_wf {a : Nat} {b : Byte} {s : State} (h : Memory.wf s.eng.mem = true) : Memory.wf (memPut a b s).eng.mem = true :=
  Sparse.wf_put h

theorem memWrite_wf {a : Nat} {l : List Byte} {s : State} (h : Memory.wf s.eng.mem = true) :
    Memory.wf (memWrite a l s).eng.mem = true := by
  induction l generalizing a s with
  | nil => exact h
  | cons b l ih => exact ih (memPut_wf h)

theorem memClear_wf {a n : Nat} {s : State} (h : Memory.wf s.eng.mem = true) : Memory.wf (memClear a n s).eng.mem = true :=
  Sparse.wf_filter h

theorem memByte_memPut {a x : Nat} {b : Byte} {s : State} (h : Memory.wf s.eng.mem = true) :
    memByte (memPut a b s) x = if x = a then b else memByte s x := by
  by_cases e : x = a
  · subst e; simpa [memByte, memPut] using Sparse.get_put_self h
  · simpa [memByte, memPut, e] using Sparse.get_put_ne s.eng.mem e

/-- The bytes read after a write of bytes. -/
theorem memByte_memWrite {a x : Nat} {l : List Byte} {s : State} (h : Memory.wf s.eng.mem = true) :
    memByte (memWrite a l s) x = if x < a then memByte s x else (l[x - a]?).getD (memByte s x) := by
  induction l generalizing a s with
  | nil => simp [memWrite]
  | cons b l ih =>
    rw [memWrite, ih (memPut_wf h), memByte_memPut h]
    by_cases h1 : x < a
    · have h3 : x < a + 1 := by omega
      have h4 : ¬ x = a := by omega
      simp only [h1, h3, h4, if_true, if_false]
    · by_cases h2 : x = a
      · subst h2; simp
      · have h3 : ¬ x < a + 1 := by omega
        have h4 : x - a = (x - (a + 1)) + 1 := by omega
        simp only [h1, h2, h3, if_false, h4, List.getElem?_cons_succ]

theorem memWrite_only_mem (a : Nat) (l : List Byte) (s : State) :
    memWrite a l s = { s with eng := { s.eng with mem := (memWrite a l s).eng.mem } } := by
  induction l generalizing a s with
  | nil => rfl
  | cons b l ih => rw [memWrite, ih]; rfl

/-! ## Registers and packet memory -/

theorem setReg_wf {a : Nat} {v : Word} {s : State} (h : Sparse.wf regDefault s.regs.active = true) :
    Sparse.wf regDefault (setReg a v s).regs.active = true := by
  unfold setReg
  simp only []
  split
  · exact Sparse.wf_put h
  · exact Sparse.wf_put h

/-- A register read after a write of the same register. -/
theorem regv_setReg_self {a : Nat} {v : Word} {s : State} (h : Sparse.wf regDefault s.regs.active = true) :
    regv (setReg a v s) a = v := by
  unfold setReg regv
  simp only []
  split
  · exact Sparse.get_put_self h
  · exact Sparse.get_put_self h

/-- A write of a register leaves every other one alone. -/
theorem regv_setReg_ne {a b : Nat} {v : Word} (s : State) (h : b ≠ a) : regv (setReg a v s) b = regv s b := by
  unfold setReg regv
  simp only []
  split
  · exact Sparse.get_put_ne _ h
  · exact Sparse.get_put_ne _ h

theorem pmPut_wf {w : Nat} {v : PWord} {s : State} (h : Sparse.wf pwZero s.qm.mem = true) :
    Sparse.wf pwZero (pmPut w v s).qm.mem = true := Sparse.wf_put h

theorem pmGet_pmPut {w x : Nat} {v : PWord} {s : State} (h : Sparse.wf pwZero s.qm.mem = true) :
    pmGet (pmPut w v s) x = if x = w then v else pmGet s x := by
  by_cases e : x = w
  · subst e; simpa [pmGet, pmPut] using Sparse.get_put_self h
  · simpa [pmGet, pmPut, e] using Sparse.get_put_ne s.qm.mem e

end Sys2Proof.Machine
end

namespace Sys2Proof.Machine
open Sys2Proof Sys2Proof.Claims

/-! ## The state after reset -/

/-- A register that nothing has written reads its default (R309). -/
theorem regv_reset (a : Nat) : regv State.reset a = regDefault a := rfl

/-- No sparse table holds an entry and no command waits (log entry 5). -/
theorem reset_safe : State.reset.Safe := ⟨rfl, rfl⟩

theorem evCnt_reset (n : Fin 64) : Tbl.get State.reset.ev.cnt n = 0 := Tbl.get_fill 0 n

theorem eng_reset (n : Fin 8) : eng State.reset n = EngS.reset := Tbl.get_fill _ n

theorem slot_reset (p : Fin 24) : slot State.reset p = SlotS.reset := Tbl.get_fill _ p

theorem queue_reset (q : Fin 64) : queue State.reset q = QueueS.reset := Tbl.get_fill _ q

theorem group_reset_closed (g : Fin 4) : (group State.reset g).closed = false :=
  congrArg GroupS.closed (Tbl.get_fill _ g)

theorem dom_reset_st (d : Fin 31) : (dom State.reset d).st = .on := congrArg DomS.st (Tbl.get_fill _ d)

end Sys2Proof.Machine

namespace Sys2Proof.Claims
open Sys2Proof Sys2Proof.Machine

/-- Settles O2: every table of the reset state is filled with one entry, its reset value, and the other fields are read off. -/
theorem resetLeavesASafeState : Obligations.ResetLeavesASafeState := by
  unfold Obligations.ResetLeavesASafeState
  refine ⟨reset_safe, rfl, regv_reset, rfl, rfl, rfl, rfl, rfl, evCnt_reset, fun n => ?_, fun p => ?_, group_reset_closed,
    dom_reset_st, fun q => ?_, rfl, rfl⟩
  · rw [eng_reset]; exact ⟨rfl, rfl⟩
  · rw [slot_reset]; rfl
  · rw [queue_reset]; exact ⟨rfl, rfl, rfl⟩

end Sys2Proof.Claims

namespace Sys2Proof.Machine
open Sys2Proof

/-! ## Frames that name the events counted

What a shared operation leaves alone, said once: the components outside a list, the counters and overflow bits of the events
outside a list, and the scheduled targets of the snapshot block. -/

/-- Between two states only the listed components differ, only the listed events are counted, and the snapshot block holds the
same targets. -/
structure Within (l : List Comp) (es : List (Fin 64)) (s t : State) : Prop where
  only : Only l s t
  cnt : ∀ n ∉ es, Tbl.get t.ev.cnt n = Tbl.get s.ev.cnt n
  ovf : ∀ n ∉ es, t.ev.ovf.getLsbD n.val = s.ev.ovf.getLsbD n.val
  seen : t.ev.seen = s.ev.seen
  tgt : t.snap.tgt = s.snap.tgt

theorem Within.refl (l : List Comp) (es : List (Fin 64)) (s : State) : Within l es s s :=
  ⟨Only.refl l s, fun _ _ => rfl, fun _ _ => rfl, rfl, rfl⟩

theorem Within.trans {l : List Comp} {es : List (Fin 64)} {s t u : State} (h : Within l es s t) (k : Within l es t u) :
    Within l es s u :=
  ⟨h.only.trans k.only, fun n hn => (k.cnt n hn).trans (h.cnt n hn), fun n hn => (k.ovf n hn).trans (h.ovf n hn),
    k.seen.trans h.seen, k.tgt.trans h.tgt⟩

theorem Within.mono {l m : List Comp} {es fs : List (Fin 64)} {s t : State} (h : Within l es s t) (hl : l ⊆ m) (he : es ⊆ fs) :
    Within m fs s t :=
  ⟨h.only.mono hl, fun n hn => h.cnt n (mt (@he n) hn), fun n hn => h.ovf n (mt (@he n) hn), h.seen, h.tgt⟩

theorem Within.time {l : List Comp} {es : List (Fin 64)} {s t : State} (h : Within l es s t) (hl : .time ∉ l) :
    t.time = s.time := h.only .time hl

theorem Within.fab {l : List Comp} {es : List (Fin 64)} {s t : State} (h : Within l es s t) (hl : .fab ∉ l) :
    t.fab = s.fab := h.only .fab hl

/-! ## Counting an event (R326) -/

theorem getLsbD_or_twoPow {w : Nat} (x : BitVec w) (m : Nat) {n : Nat} (h : n < w) :
    (x ||| BitVec.ofNat w (2 ^ m)).getLsbD n = (x.getLsbD n || decide (m = n)) := by
  rw [BitVec.getLsbD_or, BitVec.getLsbD_ofNat, Nat.testBit_two_pow]
  simp [h]

/-- The counter stands at its limit: the overflow bit sets. -/
theorem countEv_full {n : Fin 64} {s : State} (h : Tbl.get s.ev.cnt n - Tbl.get s.ev.seen n = 65535) :
    countEv n s = { s with ev := { s.ev with ovf := s.ev.ovf ||| BitVec.ofNat 64 (2 ^ n.val) } } := if_pos h

/-- The counter advances and the change reaches its destinations. -/
theorem countEv_room {n : Fin 64} {s : State} (h : ¬ Tbl.get s.ev.cnt n - Tbl.get s.ev.seen n = 65535) :
    countEv n s = evRoute n { s with ev := { s.ev with cnt := Tbl.put s.ev.cnt n (Tbl.get s.ev.cnt n + 1) } } := if_neg h

@[simp] theorem evRoute_tgt (n : Fin 64) (s : State) : (evRoute n s).snap.tgt = s.snap.tgt := by
  simp only [evRoute]; split <;> rfl

theorem countEv_within (n : Fin 64) (s : State) : Within [] [n] s (countEv n s) := by
  have hne : ∀ k ∉ [n], ¬ n = k := fun k hk e => hk (by simp [e])
  by_cases h : Tbl.get s.ev.cnt n - Tbl.get s.ev.seen n = 65535
  · refine ⟨countEv_only n s, ?_, fun k hk => ?_, ?_, ?_⟩ <;> rw [countEv_full h]
    · exact fun _ _ => rfl
    · rw [getLsbD_or_twoPow _ _ k.isLt]
      simp [Fin.val_inj, hne k hk]
  · refine ⟨countEv_only n s, fun k hk => ?_, ?_, ?_, ?_⟩ <;> rw [countEv_room h]
    · exact Tbl.get_put_ne _ _ (hne k hk)
    · exact fun _ _ => rfl
    · rfl
    · exact evRoute_tgt n _

theorem countEv_counts (n : Fin 64) (s : State) : Counts n s (countEv n s) := by
  unfold Counts
  split
  · next h => rw [countEv_full h, getLsbD_or_twoPow _ _ n.isLt]; simp
  · next h => rw [countEv_room h]; exact Tbl.get_put_self _ _ _

/-- An event counted stays counted while others are. -/
theorem Counts.within {n : Fin 64} {l : List Comp} {es : List (Fin 64)} {s t u : State} (h : Counts n s t)
    (k : Within l es t u) (hn : n ∉ es) : Counts n s u := by
  unfold Counts at *
  rw [k.cnt n hn, k.ovf n hn]
  exact h

theorem Counts.of_ev {n : Fin 64} {s u t : State} (h : Counts n u t) (he : u.ev = s.ev) : Counts n s t := by
  unfold Counts at *
  rwa [← he]

/-! ## The end of a command (R369) -/

/-- The snapshot block is no component of a frame. -/
theorem snap_only {l : List Comp} {s t : State} (h : t = { s with snap := t.snap }) : Only l s t := fun p _ => by
  rw [h]; cases p <;> simp [sameIn, eng]

/-- A change of the snapshot block that keeps the targets stays within every frame. -/
theorem snap_within {l : List Comp} {es : List (Fin 64)} {s t : State} (h : t = { s with snap := t.snap })
    (ht : t.snap.tgt = s.snap.tgt) : Within l es s t :=
  ⟨snap_only h, fun _ _ => by rw [h], fun _ _ => by rw [h], by rw [h], ht⟩

theorem snapLatch_within (trig ev by_ : Nat) (ids : List Word) (u st : Bool) (s : State) :
    Within [] [57, 63] s (snapLatch trig ev by_ ids u st s) := by
  unfold snapLatch
  split
  · refine Within.trans ?_ ((countEv_within 63 _).mono (by simp) (by simp))
    cases ids.isEmpty <;> exact snap_within rfl rfl
  · refine Within.trans ?_ ((countEv_within 57 _).mono (by simp) (by simp))
    exact snap_within rfl rfl

theorem settle_within (s : State) : Within [] [57, 63] s (settle s) := by
  unfold settle
  split
  · exact Within.refl _ _ _
  · extract_lets d s1
    have h : Within [] [57, 63] s s1 := by
      refine Within.trans ?_ (snapLatch_within ..)
      exact snap_within rfl rfl
    clear_value s1
    exact h.trans (snap_within rfl rfl)

@[simp] theorem settle_fab (s : State) : (settle s).fab = s.fab := (settle_within s).fab (by simp)
@[simp] theorem settle_time (s : State) : (settle s).time = s.time := (settle_within s).time (by simp)
@[simp] theorem settle_tgt (s : State) : (settle s).snap.tgt = s.snap.tgt := (settle_within s).tgt

/-- An event that the body of a command counts is counted by the command, unless the latch that ends it counts the same. -/
theorem Counts.settle {n : Fin 64} {s t : State} (h : Counts n s t) (hn : n ∉ ([57, 63] : List (Fin 64))) :
    Counts n s (settle t) := h.within (settle_within t) hn

end Sys2Proof.Machine

namespace Sys2Proof.Machine
open Sys2Proof

/-! ## Frames of the packet store (R108 to R137)

Whatever a queue does on its producing side changes the packet store alone, and counts no event but a watermark crossed, a mark
overtaken and a gap begun. -/

/-- EV40, EV41 and EV42. -/
def queueEvents : List (Fin 64) := [40, 41, 42]

/-- Between two states only the packet store differs, and only its events are counted. -/
abbrev InStore (s t : State) : Prop := Within [.qm] queueEvents s t

theorem InStore.foldl {α : Type} {f : State → α → State} (h : ∀ t x, InStore t (f t x)) (l : List α) (s : State) :
    InStore s (l.foldl f s) := by
  induction l generalizing s with
  | nil => exact Within.refl _ _ s
  | cons x l ih => exact (h s x).trans (ih (f s x))

theorem qm_inStore {s t : State} (h : t = { s with qm := t.qm }) : InStore s t :=
  ⟨fun p hp => by rw [h]; cases p <;> simp_all [sameIn, eng], fun _ _ => by rw [h], fun _ _ => by rw [h], by rw [h], by rw [h]⟩

theorem countEv_inStore {n : Fin 64} (h : n ∈ queueEvents) (s : State) : InStore s (countEv n s) :=
  (countEv_within n s).mono (by simp) (by simpa using h)

theorem putQueue_inStore (q : Fin 64) (x : QueueS) (s : State) : InStore s (putQueue q x s) := qm_inStore rfl

theorem updQueue_inStore (q : Fin 64) (f : QueueS → QueueS) (s : State) : InStore s (updQueue q f s) := qm_inStore rfl

theorem bankPut_inStore (q : Fin 64) (b : Fin 2) (off : Nat) (d : DWord) (s : State) : InStore s (bankPut q b off d s) :=
  qm_inStore rfl

theorem pmWriteBytes_inStore (a : Nat) (bs : List Byte) (poison : Bool) (s : State) : InStore s (pmWriteBytes a bs poison s) :=
  InStore.foldl (fun _ _ => qm_inStore rfl) _ s

theorem qWatermark_inStore (q : Fin 64) (s : State) : InStore s (qWatermark q s) := by
  unfold qWatermark
  extract_lets
  split
  · split
    · exact qm_inStore rfl
    · exact Within.refl _ _ s
  · split
    · split
      · exact (putQueue_inStore ..).trans (countEv_inStore (by decide) _)
      · exact qm_inStore rfl
    · split
      · exact qm_inStore rfl
      · exact Within.refl _ _ s

theorem writeLink_inStore (q : Fin 64) (b : Fin 2) (s : State) : InStore s (writeLink q b s) := by
  unfold writeLink
  extract_lets
  split
  · exact Within.refl _ _ s
  · exact (bankPut_inStore ..).trans (updQueue_inStore ..)

theorem swapIfDue_inStore (q : Fin 64) (s : State) : InStore s (swapIfDue q s) := by
  unfold swapIfDue
  extract_lets
  split
  · exact Within.refl _ _ s
  · split
    · exact qm_inStore rfl
    · split
      · exact Within.refl _ _ s
      · split
        · refine Within.trans ?_ (putQueue_inStore ..)
          split
          · exact Within.refl _ _ s
          · exact writeLink_inStore ..
        · exact Within.refl _ _ s

theorem qSettle_inStore (q : Fin 64) (s : State) : InStore s (qSettle q s) :=
  ((qWatermark_inStore ..).trans (swapIfDue_inStore ..)).trans (qWatermark_inStore ..)

theorem dropItem_inStore (q : Fin 64) (s : State) : InStore s (dropItem q s) := by
  unfold dropItem
  extract_lets
  split
  · exact updQueue_inStore ..
  · extract_lets
    split
    · exact ((updQueue_inStore ..).trans (bankPut_inStore ..)).trans (updQueue_inStore ..)
    · refine Within.trans ?_ (countEv_inStore (by decide) _)
      exact (((updQueue_inStore ..).trans (bankPut_inStore ..)).trans (bankPut_inStore ..)).trans (updQueue_inStore ..)

theorem overtake_inStore (q : Fin 64) (b : Fin 2) (e : Nat) (s : State) : InStore s (overtake q b e s) := by
  unfold overtake
  extract_lets
  split
  · exact (putQueue_inStore ..).trans (countEv_inStore (by decide) _)
  · exact Within.refl _ _ s

theorem itemStart_inStore (q : Fin 64) (p : Fin 2) (prod : Nat) (sop : Bool) (chseq : BitVec 16) (s : State) :
    InStore s (itemStart q p prod sop chseq s) :=
  ((bankPut_inStore ..).trans (updQueue_inStore ..)).trans (overtake_inStore ..)

/-- The LINK word that a bank may take at the end of an item. -/
theorem linked_inStore (c : Prop) [Decidable c] (q : Fin 64) (b : Fin 2) (s : State) :
    InStore s (if c then writeLink q b s else s) := by
  split
  · exact writeLink_inStore ..
  · exact Within.refl _ _ s

theorem itemCommit_inStore (q : Fin 64) (eop : Bool) (s : State) : InStore s (itemCommit q eop s) := by
  unfold itemCommit
  split
  · exact Within.refl _ _ s
  · exact ((bankPut_inStore ..).trans (updQueue_inStore ..)).trans (linked_inStore ..)

theorem itemAbort_inStore (q : Fin 64) (s : State) : InStore s (itemAbort q s) := by
  unfold itemAbort
  split
  · exact Within.refl _ _ s
  · refine Within.trans ?_ (qWatermark_inStore ..)
    refine Within.trans ?_ (linked_inStore ..)
    refine Within.trans ?_ (overtake_inStore ..)
    exact ((bankPut_inStore ..).trans (bankPut_inStore ..)).trans (updQueue_inStore ..)

theorem itemData_inStore (q : Fin 64) (bs : List Byte) (poison : Bool) (s : State) : InStore s (itemData q bs poison s) := by
  unfold itemData
  split
  · exact Within.refl _ _ s
  · extract_lets lim room put s1 n s2 s3
    have h3 : InStore s s3 := ((pmWriteBytes_inStore ..).trans (updQueue_inStore ..)).trans (overtake_inStore ..)
    split
    · exact h3.trans (itemAbort_inStore ..)
    · exact h3

theorem qAdmit_inStore (q : Fin 64) (len : Nat) (s : State) : InStore s (qAdmit q len s).2 := by
  have hs := swapIfDue_inStore q s
  have hd : InStore s (qWatermark q (dropItem q (swapIfDue q s))) := (hs.trans (dropItem_inStore ..)).trans (qWatermark_inStore ..)
  unfold qAdmit
  split
  · exact Within.refl _ _ s
  · extract_lets
    split
    · exact hs
    · split
      · exact hs
      · split
        · split
          · split
            · exact hd
            · exact hs
          · exact hd
        · split <;> exact hs

/-- The data of an item, and its commit where the unit ends, with what follows in the queue. -/
theorem itemEnds_inStore (c : Prop) [Decidable c] (q : Fin 64) (s : State) :
    InStore s (qSettle q (if c then itemCommit q true s else s)) := by
  refine Within.trans ?_ (qSettle_inStore ..)
  split
  · exact itemCommit_inStore ..
  · exact Within.refl _ _ s

theorem qEnqueue_inStore (q : Fin 64) (prod : Nat) (sop eop : Bool) (chseq : BitVec 16) (bs : List Byte) (poison : Bool)
    (s : State) : InStore s (qEnqueue q prod sop eop chseq bs poison s).2 := by
  have ha := qAdmit_inStore q bs.length s
  unfold qEnqueue
  split
  · split
    · next s1 h1 =>
      rw [h1] at ha
      split
      · exact ((ha.trans (itemStart_inStore ..)).trans (itemData_inStore ..)).trans (itemEnds_inStore ..)
      · exact ha
    · exact ha
  · split
    · exact Within.refl _ _ s
    · split
      · split
        · exact (itemData_inStore ..).trans (itemEnds_inStore ..)
        · exact Within.refl _ _ s
      · exact Within.refl _ _ s

/-! ## Frames of the journal (R362 to R364) -/

theorem journal_inStore (type sub src obj reason : Nat) (data : List Byte) (s : State) :
    InStore s (journal type sub src obj reason data s) := qEnqueue_inStore ..

theorem journalFabric_inStore (sub obj reason : Nat) (addr : BitVec 12) (uid : DWord) (id : Word) (s : State) :
    InStore s (journalFabric sub obj reason addr uid id s) := journal_inStore ..

theorem journalTime_inStore (sub src : Nat) (old new : Word) (ns : Int) (s : State) :
    InStore s (journalTime sub src old new ns s) := journal_inStore ..

end Sys2Proof.Machine

namespace Sys2Proof.Machine
open Sys2Proof

/-! ## Frames sent on TC0 (R217, R218) -/

/-- Between two states only the fabric ports and the lines driven differ: what the sending of broadcasts changes. -/
def PortsOnly (s t : State) : Prop := ∃ p o, t = { s with fab := { s.fab with port := p }, out := o }

theorem PortsOnly.refl (s : State) : PortsOnly s s := ⟨s.fab.port, s.out, rfl⟩

theorem PortsOnly.trans {s t u : State} (h : PortsOnly s t) (k : PortsOnly t u) : PortsOnly s u := by
  obtain ⟨p, o, rfl⟩ := h
  obtain ⟨p', o', rfl⟩ := k
  exact ⟨p', o', rfl⟩

theorem PortsOnly.time {s t : State} (h : PortsOnly s t) : t.time = s.time := by
  obtain ⟨p, o, rfl⟩ := h
  rfl

theorem updFport_ports (f : Fin 4) (g : FPortS → FPortS) (s : State) : PortsOnly s (updFport f g s) := ⟨_, s.out, rfl⟩

theorem emit_ports (l : List Out) (s : State) : PortsOnly s (s.emit l) := ⟨s.fab.port, _, rfl⟩

theorem tc0Run_ports (f : Fin 4) (n : Nat) (s : State) : PortsOnly s (tc0Run f n s) := by
  induction n generalizing s with
  | zero => exact PortsOnly.refl s
  | succ n ih =>
    unfold tc0Run
    split
    · exact PortsOnly.refl s
    · split
      · exact ((updFport_ports ..).trans (emit_ports ..)).trans (ih _)
      · exact PortsOnly.refl s

theorem tc0Drain_ports (f : Fin 4) (s : State) : PortsOnly s (tc0Drain f s) := tc0Run_ports ..

theorem framePeriod_ports (s : State) : PortsOnly s (framePeriod s) :=
  eachFin_keeps (PortsOnly s) (PortsOnly.refl s) fun _ _ h => h.trans ((updFport_ports ..).trans (tc0Drain_ports ..))

theorem sendOn_ports (f : Fin 4) (h : FHdr) (body : List Byte) (s : State) : PortsOnly s (sendOn f h body s) := by
  unfold sendOn tc0Put
  split
  · exact PortsOnly.refl s
  · exact (updFport_ports ..).trans (tc0Run_ports ..)

/-- A frame on each of the ports that a condition picks. -/
theorem eachPort_ports (c : Fin 4 → State → Bool) (g : Fin 4 → State → State) (hg : ∀ f t, PortsOnly t (g f t)) (s : State) :
    PortsOnly s (eachFin 4 (fun f t => if c f t then g f t else t) s) := by
  refine eachFin_keeps (PortsOnly s) (PortsOnly.refl s) fun f t ht => ?_
  split
  · exact ht.trans (hg f t)
  · exact ht

theorem flood_ports (but : Option (Fin 4)) (h : FHdr) (body : List Byte) (s : State) : PortsOnly s (flood but h body s) :=
  eachPort_ports (fun f t => fabUp t f && but ≠ some f) _ (fun _ _ => sendOn_ports ..) s

theorem floodOn_ports (f : Fin 4) (src : BitVec 12) (ttl fclass : Nat) (body : List Byte) (s : State) :
    PortsOnly s (floodOn f src ttl fclass body s) := by
  unfold floodOn
  split
  · exact flood_ports ..
  · exact PortsOnly.refl s

/-! ## Changes of the fabric alone -/

theorem fab_within {l : List Comp} {es : List (Fin 64)} {s t : State} (hl : .fab ∈ l) (h : t = { s with fab := t.fab }) :
    Within l es s t :=
  ⟨fun p hp => by
      rw [h]
      cases p
      case fab => exact absurd hl hp
      all_goals simp [sameIn, eng],
    fun _ _ => by rw [h], fun _ _ => by rw [h], by rw [h], by rw [h]⟩

theorem PortsOnly.only {s t : State} (h : PortsOnly s t) : Only [.fab] s t := by
  obtain ⟨p, o, rfl⟩ := h
  exact (fab_within (es := []) (t := { s with fab := { s.fab with port := p } }) (by simp) rfl).only.trans
    (fun c _ => by cases c <;> simp [sameIn, eng])

@[simp] theorem journalFabric_fab (sub obj reason : Nat) (addr : BitVec 12) (uid : DWord) (id : Word) (s : State) :
    (journalFabric sub obj reason addr uid id s).fab = s.fab := (journalFabric_inStore ..).fab (by simp)

@[simp] theorem countEv_fab (n : Fin 64) (s : State) : (countEv n s).fab = s.fab := (countEv_within n s).fab (by simp)

/-- An event with its FABRIC record. -/
theorem recorded_within (n : Fin 64) (sub obj reason : Nat) (addr : BitVec 12) (uid : DWord) (id : Word) (s : State) :
    Within [.fab, .qm] (n :: queueEvents) s (journalFabric sub obj reason addr uid id (countEv n s)) :=
  ((countEv_within n s).mono (by simp) (by simp)).trans ((journalFabric_inStore ..).mono (by simp) (by simp))

/-- The event of a record is counted once: the record itself counts none but the events of its queue. -/
theorem recorded_counts {n : Fin 64} (hn : n ∉ queueEvents) (sub obj reason : Nat) (addr : BitVec 12) (uid : DWord) (id : Word)
    (s : State) : Counts n s (journalFabric sub obj reason addr uid id (countEv n s)) :=
  (countEv_counts n s).within (journalFabric_inStore ..) hn

/-! ## The election (R232, R235) -/

theorem masterChange_within (uid : DWord) (s : State) : Within [.fab, .qm] (34 :: queueEvents) s (masterChange uid s) := by
  unfold masterChange
  split
  · exact fab_within (by simp) rfl
  · split
    · exact Within.refl _ _ s
    · exact Within.trans (fab_within (by simp) rfl) (recorded_within ..)

/-- A change of master leaves everything of the fabric but the master as it is. -/
theorem masterChange_fab (uid : DWord) (s : State) :
    ∃ m a, (masterChange uid s).fab = { s.fab with master := m, masterAddr := a } := by
  unfold masterChange
  split
  · exact ⟨_, _, rfl⟩
  · split
    · exact ⟨s.fab.master, s.fab.masterAddr, rfl⟩
    · exact ⟨_, _, by rw [journalFabric_fab, countEv_fab]⟩

theorem elect_within (s : State) : Within [.fab, .qm] (34 :: queueEvents) s (elect s) := by
  unfold elect
  split
  · exact Within.refl _ _ s
  · split
    · exact Within.refl _ _ s
    · exact Within.trans (fab_within (by simp) rfl) (masterChange_within ..)
    · exact Within.trans (fab_within (by simp) rfl) (masterChange_within ..)

/-- The election leaves TIMEREF_IN as it is, and only a node that was master already keeps its first step. -/
theorem elect_tref (s : State) : (elect s).fab.trefValid = s.fab.trefValid ∧ (elect s).fab.trefRun = s.fab.trefRun ∧
    (elect s).fab.trefLast = s.fab.trefLast ∧ (s.fab.trefStepped = false → (elect s).fab.trefStepped = false) := by
  unfold elect
  split
  · exact ⟨rfl, rfl, rfl, id⟩
  · split
    · exact ⟨rfl, rfl, rfl, id⟩
    · obtain ⟨m, a, h⟩ := masterChange_fab _ _
      rw [h]
      exact ⟨rfl, rfl, rfl, fun h => by simp [h]⟩
    · obtain ⟨m, a, h⟩ := masterChange_fab _ _
      rw [h]
      exact ⟨rfl, rfl, rfl, id⟩

/-- PE5 elects; while it does not run, nothing is. -/
theorem elect_idle {s : State} (h : peRuns s 5 = false) : elect s = s := by
  unfold elect
  simp [h]

end Sys2Proof.Machine

namespace Sys2Proof.Machine
open Sys2Proof

/-! ## The time states after a SYNC (R235) -/

/-- The state in which an accepted SYNC is judged: it has been repeated on the other ports, its offset and master are noted. -/
def syncNoted (p : Tbl 4 FPortS) (out : List Out) (o : Int) (m : BitVec 12) (s : State) : State :=
  { s.fresh with fab := { s.fab with port := p, ofs := o, masterAddr := m }, out := out }

/-- A SYNC on TUP is accepted: the command ends as the time states take its offset. -/
theorem syncReceive_accepted {f : Fin 4} {s : State} (htup : s.fab.tup = some f) (hm : s.fab.tst ≠ .master)
    (hx : s.xb.st ≠ .fault) (hup : fabUp s f = true) (m : BitVec 12) (sseq : Word) (origin corr trx : DWord) (ttx : Tbl 4 DWord) :
    ∃ p out, exec (.syncReceive f m sseq origin corr trx ttx) s = .next (settle
      (timeSync (trx.toInt - (origin.toInt + corr.toInt + delayMean (fport s f)))
        (syncNoted p out (trx.toInt - (origin.toInt + corr.toInt + delayMean (fport s f))) m s))) := by
  have hc : ¬ (s.fresh.fab.tup ≠ some f ∨ s.fresh.fab.tst = .master ∨ s.fresh.xb.st = .fault ∨ fabUp s.fresh f = false) := by
    simp only [State.fresh, htup, hm, hx, ne_eq, not_true_eq_false, false_or]
    simpa [fabUp, fport] using hup
  obtain ⟨p, out, h⟩ := eachPort_ports (fun g t => g ≠ f && fabUp t g) (fun g t => timeFrame g (syncBody m sseq origin
    (BitVec.ofInt 64 (corr.toInt + delayMean (fport s f) + ((Tbl.get ttx g).toInt - trx.toInt)))) t) (fun _ _ => sendOn_ports ..) s.fresh
  refine ⟨p, out, ?_⟩
  show done (syncReceive f m sseq origin corr trx ttx s.fresh) = _
  unfold syncReceive
  rw [if_neg hc]
  exact congrArg (fun t : State => done (timeSync _ { t with fab := { t.fab with ofs := _, masterAddr := m } })) h

/-- What holds however an accepted SYNC is repeated holds of the command. -/
theorem syncReceive_completes {f : Fin 4} {s : State} (htup : s.fab.tup = some f) (hm : s.fab.tst ≠ .master)
    (hx : s.xb.st ≠ .fault) (hup : fabUp s f = true) {m : BitVec 12} {sseq : Word} {origin corr trx : DWord} {ttx : Tbl 4 DWord}
    {P : State → Prop}
    (h : ∀ u, u.fab.tst = s.fab.tst → u.fab.goodSync = s.fab.goodSync → u.time = s.time → u.ao = s.ao → u.ev = s.ev →
      P (settle (timeSync (trx.toInt - (origin.toInt + corr.toInt + delayMean (fport s f))) u))) :
    Completes (.syncReceive f m sseq origin corr trx ttx) s P := by
  obtain ⟨p, out, he⟩ := syncReceive_accepted htup hm hx hup m sseq origin corr trx ttx
  exact ⟨_, he, h _ rfl rfl rfl rfl rfl⟩

theorem timeSync_starts {s : State} (h : s.fab.tst = .free ∨ s.fab.tst = .holdover) (o : Int) :
    timeSync o s = { s with fab := { s.fab with tst := .acquire, goodSync := 0 } } := by
  unfold timeSync
  rcases h with h | h <;> rw [h]

theorem timeSync_behind {s : State} {o : Int} (h : s.fab.tst = .acquire) (ho : o < -16000) :
    timeSync o s = { s with fab := { s.fab with step := (-o).toNat / 16, tst := .acquire, goodSync := 0 } } := by
  unfold timeSync
  rw [h]; simp only [ho, if_true]

theorem timeSync_ahead {s : State} {o : Int} (h : s.fab.tst = .acquire) (ho : 16000 < o) :
    timeSync o s = { steerBack s with fab := { s.fab with tst := .acquire, goodSync := 0 } } := by
  have : ¬ o < -16000 := by omega
  unfold timeSync
  rw [h]; simp only [this, ho, if_true, if_false]; rfl

theorem timeSync_good {s : State} {o : Int} (h : s.fab.tst = .acquire) (ho : o.natAbs ≤ 1600) :
    timeSync o s = if 15 ≤ s.fab.goodSync then timeLocked s
      else { s with fab := { s.fab with tst := .acquire, goodSync := s.fab.goodSync + 1 } } := by
  have h1 : ¬ o < -16000 := by omega
  have h2 : ¬ 16000 < o := by omega
  unfold timeSync
  rw [h]; simp only [h1, h2, ho, if_true, if_false, Nat.reduceLeDiff]

theorem timeSync_fair {s : State} {o : Int} (h : s.fab.tst = .acquire) (ho : o.natAbs ≤ 16000) (hb : 1600 < o.natAbs) :
    timeSync o s = { s with fab := { s.fab with tst := .acquire, goodSync := 0 } } := by
  have h1 : ¬ o < -16000 := by omega
  have h2 : ¬ 16000 < o := by omega
  have h3 : ¬ o.natAbs ≤ 1600 := by omega
  unfold timeSync
  rw [h]; simp only [h1, h2, h3, if_false]

theorem timeSync_locked {s : State} (h : s.fab.tst = .locked) (o : Int) :
    timeSync o s = if 16000 < o.natAbs then timeLeft .acquire s else steerFree s := by
  unfold timeSync
  rw [h]

/-! ## Entries and exits of LOCKED -/

theorem timeLocked_fab (s : State) : (timeLocked s).fab = { s.fab with tst := .locked, goodSync := 0 } :=
  journalFabric_fab ..

theorem timeLocked_time (s : State) : (timeLocked s).time = { s.time with tbEst := false, tbUnc := 0 } :=
  (journalFabric_inStore ..).time (by simp)

theorem timeLeft_fab (t : TimeSt) (s : State) : (timeLeft t s).fab = { s.fab with tst := t, goodSync := 0 } := by
  rw [timeLeft, journalFabric_fab, countEv_fab]

theorem timeLeft_within (t : TimeSt) (s : State) : Within [.fab, .qm] (31 :: queueEvents) s (timeLeft t s) :=
  Within.trans (fab_within (by simp) rfl) (recorded_within ..)

theorem timeLeft_counts (t : TimeSt) (s : State) : Counts 31 s (timeLeft t s) :=
  recorded_counts (s := { s with fab := { s.fab with tst := t, goodSync := 0 } }) (by decide) ..

/-- Steering changes the rate alone. -/
theorem steerFree_time (s : State) : (steerFree s).time = { s.time with inc := (steerFree s).time.inc } := rfl

/-- The rate stays within 200 ppm of the nominal one. -/
theorem steerFree_inc {s : State} (h : incNominal s + incNominal s / 5000 < 2 ^ 32) :
    incNominal s - incNominal s / 5000 ≤ (steerFree s).time.inc.toNat ∧
      (steerFree s).time.inc.toNat ≤ incNominal s + incNominal s / 5000 := by
  have hd : (Config.steer s.free).toNat % (2 * (incNominal s / 5000) + 1) < 2 * (incNominal s / 5000) + 1 :=
    Nat.mod_lt _ (Nat.succ_pos _)
  have hn : incNominal s / 5000 ≤ incNominal s := Nat.div_le_self _ _
  simp only [steerFree, BitVec.toNat_ofNat]
  rw [Nat.mod_eq_of_lt (by omega)]
  omega

/-! ## TIMEREF_IN (R232, R235) -/

/-- The edge follows the one before it at a second, within 100 us. -/
def goodEdge (s : State) : Bool :=
  match s.fab.trefLast with
  | some t => decide (999900000 ≤ s.time.tb.toNat - t.toNat) && decide (s.time.tb.toNat - t.toNat ≤ 1000100000)
  | none => false

/-- The state in which an edge has been counted, before the election. -/
def edgeNoted (s : State) : State :=
  { s with fab := { s.fab with
    trefRun := if goodEdge s then min 4 (s.fab.trefRun + 1) else 1
    trefLast := some s.time.tb
    trefValid := (goodEdge s && decide (3 ≤ s.fab.trefRun)) || (s.fab.trefValid && goodEdge s) } }

/-- What a master does at a valid edge: its first steps TB, the others steer. -/
def masterEdge (s : State) : State :=
  if s.fab.trefStepped then steerFree s
  else
    { s with
      fab := { s.fab with trefStepped := true, step := (1000000000 - s.time.tb.toNat % 1000000000) % 1000000000 }
      time := { s.time with tbEst := false, tbUnc := 0 } }

/-- The fourth good edge in a row is the one before which the count was three. -/
theorem edgeRun_four (g : Bool) (n : Nat) : (if g then min 4 (n + 1) else 1) = 4 ↔ g = true ∧ 3 ≤ n := by
  cases g
  · simp
  · simp only [if_true, true_and]; omega

theorem trefEdge_eq (s : State) : trefEdge s =
    if (edgeNoted s).fab.trefValid && (elect (edgeNoted s)).fab.tst == .master then masterEdge (elect (edgeNoted s))
    else elect (edgeNoted s) := by
  unfold trefEdge
  extract_lets good run valid _ s1
  have hvalid : valid = (edgeNoted s).fab.trefValid := by
    simp only [valid, run, edgeRun_four, edgeNoted, Bool.decide_and, Bool.decide_eq_true]
    rfl
  have hs1 : s1 = elect (edgeNoted s) := by
    simp only [s1, hvalid]
    rfl
  show (if valid && s1.fab.tst == .master then masterEdge s1 else s1) = _
  rw [hvalid, hs1]

theorem steerFree_within (s : State) : Within [.time, .free] [] s (steerFree s) :=
  ⟨fun p hp => by cases p <;> simp_all [sameIn, eng, steerFree], fun _ _ => rfl, fun _ _ => rfl, rfl, rfl⟩

theorem masterEdge_only (s : State) : Only [.fab, .time, .free, .qm] s (masterEdge s) := by
  unfold masterEdge
  split
  · exact (steerFree_within s).only.mono (by simp)
  · intro p hp; cases p <;> simp_all [sameIn, eng]

/-- A master's step and steering leave TIMEREF_IN as it is. -/
theorem masterEdge_tref (s : State) : (masterEdge s).fab.trefValid = s.fab.trefValid ∧
    (masterEdge s).fab.trefRun = s.fab.trefRun ∧ (masterEdge s).fab.trefLast = s.fab.trefLast := by
  unfold masterEdge
  split <;> exact ⟨rfl, rfl, rfl⟩

theorem trefEdge_only (s : State) : Only [.fab, .time, .free, .qm] s (trefEdge s) := by
  have he : Only [.fab, .time, .free, .qm] s (elect (edgeNoted s)) :=
    ((fab_within (es := 34 :: queueEvents) (by simp) rfl).trans (elect_within (edgeNoted s))).only.mono (by simp)
  rw [trefEdge_eq]
  split
  · exact he.trans (masterEdge_only _)
  · exact he

theorem trefEdge_tref (s : State) : (trefEdge s).fab.trefValid = (edgeNoted s).fab.trefValid ∧
    (trefEdge s).fab.trefRun = (edgeNoted s).fab.trefRun ∧ (trefEdge s).fab.trefLast = some s.time.tb := by
  obtain ⟨hv, hr, hl, -⟩ := elect_tref (edgeNoted s)
  rw [trefEdge_eq]
  split
  · obtain ⟨mv, mr, ml⟩ := masterEdge_tref (elect (edgeNoted s))
    exact ⟨mv.trans hv, mr.trans hr, ml.trans hl⟩
  · exact ⟨hv, hr, hl⟩

/-- While no election takes place, the first valid edge of a master steps TB to the next whole second. -/
theorem trefEdge_steps {s : State} (hp : peRuns s 5 = false) (hm : s.fab.tst = .master) (hs : s.fab.trefStepped = false)
    (hv : (trefEdge s).fab.trefValid = true) : (trefEdge s).fab.trefStepped = true ∧
      (trefEdge s).fab.step = (1000000000 - s.time.tb.toNat % 1000000000) % 1000000000 := by
  rw [(trefEdge_tref s).1] at hv
  have he : elect (edgeNoted s) = edgeNoted s := elect_idle hp
  have hm' : (edgeNoted s).fab.tst = .master := hm
  have hs' : (edgeNoted s).fab.trefStepped = false := hs
  rw [trefEdge_eq, he, hv, hm']
  simp only [masterEdge, hs']
  exact ⟨rfl, rfl⟩

theorem trefLoss_only (s : State) : Only [.fab, .qm] s (trefLoss s) := by
  refine (Within.trans ?_ (elect_within _)).only
  exact fab_within (by simp) rfl

theorem trefLoss_tref (s : State) : (trefLoss s).fab.trefValid = false ∧ (trefLoss s).fab.trefRun = 0 ∧
    (trefLoss s).fab.trefLast = none ∧ (trefLoss s).fab.trefStepped = false := by
  obtain ⟨hv, hr, hl, hs⟩ := elect_tref { s with fab := { s.fab with
    trefValid := false, trefRun := 0, trefLast := none, trefStepped := false } }
  exact ⟨hv, hr, hl, hs rfl⟩

/-! ## Scheduled snapshots (R237) -/

/-- The first index that meets a condition. -/
theorem find?_allFin {n : Nat} {p : Fin n → Bool} {i : Fin n} (hb : ∀ k, k.val < i.val → p k = false) (hi : p i = true) :
    (allFin n).find? p = some i := by
  have hfirst : (List.range n).find? (fun k => (if h : k < n then some (⟨k, h⟩ : Fin n) else none).any p) = some i.val := by
    refine List.find?_range_eq_some.2 ⟨?_, List.mem_range.2 i.isLt, fun j hj => ?_⟩
    · rw [dif_pos i.isLt]
      exact hi
    · rw [dif_pos (Nat.lt_trans hj i.isLt), Option.any_some, hb ⟨j, _⟩ hj]
      rfl
  rw [allFin, List.find?_filterMap, hfirst, Option.bind_some, dif_pos i.isLt]

/-- The lowest free target is the first that is not armed. -/
theorem snapFree_eq {s : State} {n : Fin 4} (hb : ∀ k, k.val < n.val → (Tbl.get s.snap.tgt k).armed = true)
    (hn : (Tbl.get s.snap.tgt n).armed = false) : snapFree s = some n :=
  find?_allFin (fun k hk => by simp [hb k hk]) (by simp [hn])

theorem snapArm_armed {s : State} {n : Fin 4} (hf : snapFree s = some n) (id : Word) (origin : BitVec 12) {t : DWord}
    (ht : s.time.tb.toNat < t.toNat) : snapArm id origin t s
      = { s with snap := { s.snap with tgt := Tbl.put s.snap.tgt n { armed := true, target := t, id := id } } } := by
  unfold snapArm
  rw [hf]
  exact if_neg (by omega)

theorem snapArm_missed {s : State} {n : Fin 4} (hf : snapFree s = some n) (id : Word) (origin : BitVec 12) {t : DWord}
    (ht : t.toNat ≤ s.time.tb.toNat) : snapArm id origin t s = journalFabric 7 0 0 origin 0 id (countEv 33 s) := by
  unfold snapArm
  rw [hf]
  exact if_pos ht

/-- The state in which a SNAPT is armed: it has been flooded and is remembered. -/
def snaptNoted (p : Tbl 4 FPortS) (out : List Out) (origin : BitVec 12) (id : Word) (s : State) : State :=
  { s.fresh with fab := { (markSeen 5 (BitVec.ofNat 64 origin.toNat) id s).fab with port := p }, out := out }

theorem snaptReceive_new {s : State} {origin : BitVec 12} {id : Word} (hp : peRuns s 5 = true)
    (hn : isNew s 5 (BitVec.ofNat 64 origin.toNat) id = true) (f : Fin 4) (src : BitVec 12) (ttl : BitVec 6) (t : DWord) :
    ∃ p out, exec (.snaptReceive f src ttl id origin t) s = .next (settle (snapArm id origin t (snaptNoted p out origin id s))) := by
  obtain ⟨p, out, h⟩ := floodOn_ports f src ttl.toNat 5 (snaptBody id origin t) (markSeen 5 (BitVec.ofNat 64 origin.toNat) id s.fresh)
  refine ⟨p, out, ?_⟩
  have hc : ¬ ((!peRuns s.fresh 5 || !isNew s.fresh 5 (BitVec.ofNat 64 origin.toNat) id) = true) := by
    rw [show peRuns s.fresh 5 = true from hp, show isNew s.fresh 5 _ _ = true from hn]
    simp
  show done (snaptReceive f src ttl id origin t s.fresh) = _
  unfold snaptReceive
  rw [if_neg hc, h]
  rfl

theorem snaptNoted_within (p : Tbl 4 FPortS) (out : List Out) (origin : BitVec 12) (id : Word) (s : State) :
    Within [.fab] [] s (snaptNoted p out origin id s) :=
  ⟨fun c hc => by cases c <;> simp_all [sameIn, eng, snaptNoted, State.fresh], fun _ _ => rfl, fun _ _ => rfl, rfl, rfl⟩

/-! ## Dictionary writes of a master (R58, R278) -/

/-- A request that the path carries and that succeeds is answered with its data. -/
theorem carried_answers {w : Who} {f : State → Nat × List Byte × State} {s t : State} {d : List Byte}
    (hp : pathOpen s w.m = true) (hf : f s = (0, d, t)) : carried w f s = t.answer (.done d) := by
  unfold carried masterGate
  by_cases hm : w.m.val < 3
  · simp only [pathOpen, hm, dif_pos, Bool.and_eq_true, bne_iff_ne, ne_eq, Bool.not_eq_true'] at hp
    obtain ⟨⟨⟨hr, hh⟩, hb⟩, hw⟩ := hp
    simp [hm, mfGate, hr, hh, hb, hw, hf, respond]
  · simp [hm, hf, respond]

/-- An accepted write of OD 0x4030 sub 3 waits for the next device tick (R276). -/
theorem odWrite_snapshot {w : Who} {d : List Byte} {s : State} (h : odWriteCode w 0x4030 3 d s = 0) :
    odWrite w 0x4030 3 d s = (0, odTickPut w 0x403003 d s) := by
  unfold odWrite
  rw [h]
  rfl

theorem snapshotSchedule_answers {w : Who} {s : State} (h : mayOd s w 0x4030 3 [1] = true) :
    exec (.snapshotSchedule w) s = .next ((odTickPut w 0x403003 [1] s.fresh).answer (.done [])) := by
  simp only [mayOd, Bool.and_eq_true, beq_iff_eq] at h
  obtain ⟨hp, hc⟩ := h
  show done (odBy w 0x4030 3 [1] s.fresh) = _
  have ho := odWrite_snapshot (s := s.fresh) hc
  unfold odBy
  rw [carried_answers (s := s.fresh) (d := []) hp (by rw [ho])]
  exact congrArg _ (settle_quiet rfl)

theorem odTickPut_only (w : Who) (k : Nat) (d : List Byte) (s : State) : Only [.od] s (odTickPut w k d s) := by
  intro p hp; cases p <;> simp_all [sameIn, eng, odTickPut, odPut]

end Sys2Proof.Machine

namespace Sys2Proof.Machine
open Sys2Proof

/-! ## The commands of the time sources (R235 to R237) -/

theorem execSyncLoss_synced {s : State} (h : s.fab.tst = .acquire ∨ s.fab.tst = .locked) : Completes .syncLoss s fun t =>
    t.fab = { s.fab with tst := .holdover, goodSync := 0 } ∧ Counts 31 s t ∧ Only [.fab, .qm] s t := by
  have he : syncLoss s.fresh = timeLeft .holdover s.fresh := by
    unfold syncLoss
    rcases h with h | h <;> rw [show s.fresh.fab.tst = _ from h]
  have hcount : Counts 31 s.fresh (settle (timeLeft .holdover s.fresh)) := (timeLeft_counts _ _).settle (by decide)
  exact ⟨_, congrArg done he, (settle_fab _).trans (timeLeft_fab _ _), hcount.of_ev rfl,
    done_frame ((timeLeft_within _ _).only.mono (by simp))⟩

theorem execHoldoverExpired_holdover {s : State} (h : s.fab.tst = .holdover) :
    exec .holdoverExpired s = .next (steerNominal { s.fresh with fab := { s.fab with tst := .free } }) := by
  have he : holdoverExpired s.fresh = _ := if_pos (by simp [show s.fresh.fab.tst = _ from h])
  exact (congrArg done he).trans (congrArg Host.Outcome.next (settle_quiet rfl))

/-- A SNAPT for a time to come takes the lowest free target. -/
theorem execSnaptReceive_arms {s : State} {origin : BitVec 12} {id : Word} {n : Fin 4} {t : DWord} (hp : peRuns s 5 = true)
    (hnew : isNew s 5 (BitVec.ofNat 64 origin.toNat) id = true) (hfree : snapFree s = some n) (ht : s.time.tb.toNat < t.toNat)
    (f : Fin 4) (src : BitVec 12) (ttl : BitVec 6) : Completes (.snaptReceive f src ttl id origin t) s fun u =>
      Tbl.get u.snap.tgt n = { armed := true, target := t, id := id } ∧ Only [.fab] s u := by
  obtain ⟨p, out, he⟩ := snaptReceive_new hp hnew f src ttl t
  rw [snapArm_armed (s := snaptNoted p out origin id s) hfree id origin ht, settle_quiet rfl] at he
  exact ⟨_, he, Tbl.get_put_self .., (snaptNoted_within p out origin id s).only.trans (snap_only rfl)⟩

/-- A SNAPT for a time gone by is missed. -/
theorem execSnaptReceive_misses {s : State} {origin : BitVec 12} {id : Word} {n : Fin 4} {t : DWord} (hp : peRuns s 5 = true)
    (hnew : isNew s 5 (BitVec.ofNat 64 origin.toNat) id = true) (hfree : snapFree s = some n) (ht : t.toNat ≤ s.time.tb.toNat)
    (f : Fin 4) (src : BitVec 12) (ttl : BitVec 6) : Completes (.snaptReceive f src ttl id origin t) s fun u =>
      u.snap.tgt = s.snap.tgt ∧ Counts 33 s u ∧ Only [.fab, .qm] s u := by
  obtain ⟨p, out, he⟩ := snaptReceive_new hp hnew f src ttl t
  rw [snapArm_missed (s := snaptNoted p out origin id s) hfree id origin ht] at he
  have hnoted := (snaptNoted_within p out origin id s).only
  have hrec := recorded_within 33 7 0 0 origin 0 id (snaptNoted p out origin id s)
  have hcount : Counts 33 (snaptNoted p out origin id s) _ := (recorded_counts (by decide) 7 0 0 origin 0 id _).settle (by decide)
  exact ⟨_, he, (settle_tgt _).trans hrec.tgt, hcount.of_ev rfl,
    (hnoted.mono (by simp)).trans (hrec.only.trans (settle_only _).any)⟩

end Sys2Proof.Machine

namespace Sys2Proof.Claims
open Sys2Proof Sys2Proof.Machine

/-- Settles O45, source by source: what an accepted SYNC does in each time state, its loss, the edges of TIMEREF_IN, and the
targets of scheduled snapshots. -/
theorem timeStatesFollowTheirSources : Obligations.TimeStatesFollowTheirSources := by
  unfold Obligations.TimeStatesFollowTheirSources
  intro w f m src origin12 ttl id sseq n origin corr trx target ttx s
  refine ⟨fun htup hx hup => ?_, execSyncLoss_synced, execHoldoverExpired_holdover, ?_, ?_, fun h => ?_, fun hp hn hb hf => ?_⟩
  · refine ⟨fun h => ?_, fun h ho => ?_, fun h ho => ?_, fun h ho hg => ?_, fun h ho hg => ?_, fun h ho hb => ?_,
      fun h ho => ?_, fun h ho hn => ?_⟩
    · refine syncReceive_completes htup (by rcases h with h | h <;> simp [h]) hx hup fun u hs hg ht ha he => ?_
      rw [timeSync_starts (by rwa [hs]), settle_fab, settle_time]
      exact ⟨rfl, rfl, ht⟩
    · refine syncReceive_completes htup (by simp [h]) hx hup fun u hs hg ht ha he => ?_
      rw [timeSync_behind (hs.trans h) ho, settle_fab, settle_time]
      exact ⟨rfl, rfl, rfl, ht⟩
    · refine syncReceive_completes htup (by simp [h]) hx hup fun u hs hg ht ha he => ?_
      rw [timeSync_ahead (hs.trans h) ho, settle_fab, settle_time]
      exact ⟨rfl, rfl, by rw [← ha, ← ht]; rfl⟩
    · refine syncReceive_completes htup (by simp [h]) hx hup fun u hs hc ht ha he => ?_
      rw [timeSync_good (hs.trans h) ho, if_neg (by omega), settle_fab, settle_time]
      exact ⟨rfl, congrArg (· + 1) hc, ht⟩
    · refine syncReceive_completes htup (by simp [h]) hx hup fun u hs hc ht ha he => ?_
      rw [timeSync_good (hs.trans h) ho, if_pos (by omega), settle_fab, settle_time, timeLocked_fab, timeLocked_time]
      exact ⟨rfl, rfl, rfl⟩
    · refine syncReceive_completes htup (by simp [h]) hx hup fun u hs hg ht ha he => ?_
      rw [timeSync_fair (hs.trans h) ho hb, settle_fab, settle_time]
      exact ⟨rfl, rfl, ht⟩
    · refine syncReceive_completes htup (by simp [h]) hx hup fun u hs hg ht ha he => ?_
      rw [timeSync_locked (hs.trans h), if_pos ho, settle_fab, timeLeft_fab]
      exact ⟨rfl, ((timeLeft_counts _ u).settle (by decide)).of_ev he⟩
    · refine syncReceive_completes htup (by simp [h]) hx hup fun u hs hg ht ha he => ?_
      have hi : incNominal u = if s.ao.onPll then 5 * 2 ^ 24 else Config.fircInc.toNat := by rw [← ha]; rfl
      rw [timeSync_locked (hs.trans h), if_neg (by omega), settle_fab, settle_time, ← hi]
      exact ⟨hs.trans h, ht ▸ steerFree_time u, steerFree_inc (hi ▸ hn)⟩
  · obtain ⟨hv, hr, hl⟩ := trefEdge_tref s.fresh
    refine ⟨_, rfl, ?_⟩
    dsimp only
    rw [settle_fab]
    exact ⟨hl, hr, hv, trefEdge_steps (s := s.fresh), done_frame (trefEdge_only _)⟩
  · obtain ⟨hv, hr, hl, hs⟩ := trefLoss_tref s.fresh
    refine ⟨_, rfl, ?_⟩
    dsimp only
    rw [settle_fab]
    exact ⟨hv, hr, hl, hs, done_frame (trefLoss_only _)⟩
  · exact ⟨_, snapshotSchedule_answers h, rfl, rfl, rfl,
      ((fresh_only s).any.trans (odTickPut_only _ _ _ _)).trans (answer_only _ _).any⟩
  · have hfree := snapFree_eq hb hf
    refine ⟨fun ht => execSnaptReceive_arms hp hn hfree ht f src ttl, fun ht => ?_⟩
    obtain ⟨t, he, htgt, hcount, honly⟩ := execSnaptReceive_misses hp hn hfree ht f src ttl
    exact ⟨t, he, by rw [htgt], hcount, honly⟩

end Sys2Proof.Claims

namespace Sys2Proof.Machine
open Sys2Proof

/-! ## What leaves the time alone

A boundary runs most of the machine. Each function that it reaches, but those that steer the rate, has its lemma here: the time is
after it what it was before. -/

@[simp] theorem ite_time (c : Prop) [Decidable c] (s t : State) : (if c then s else t).time = if c then s.time else t.time :=
  apply_ite State.time c s t

theorem eachFin_time {n : Nat} {f : Fin n → State → State} (h : ∀ i t, (f i t).time = t.time) (s : State) :
    (eachFin n f s).time = s.time :=
  eachFin_keeps (fun t => t.time = s.time) rfl fun i t ht => (h i t).trans ht

theorem foldl_time {α : Type} {f : State → α → State} (h : ∀ t x, (f t x).time = t.time) (l : List α) (s : State) :
    (l.foldl f s).time = s.time := by
  induction l generalizing s with
  | nil => rfl
  | cons x l ih => exact (ih _).trans (h s x)

/-! ### Registers, events and single entries of the tables -/

@[simp] theorem emit_time (s : State) (l : List Out) : (s.emit l).time = s.time := rfl
@[simp] theorem passStart_time (s : State) : (passStart s).time = s.time := rfl
@[simp] theorem setReg_time (a : Nat) (v : Word) (s : State) : (setReg a v s).time = s.time := by simp [setReg]
@[simp] theorem countEv_time (n : Fin 64) (s : State) : (countEv n s).time = s.time := (countEv_within n s).time (by simp)
@[simp] theorem updEng_time (n : Fin 8) (f : EngS → EngS) (s : State) : (updEng n f s).time = s.time := rfl
@[simp] theorem updSlot_time (p : Fin 24) (f : SlotS → SlotS) (s : State) : (updSlot p f s).time = s.time := rfl
@[simp] theorem updGroup_time (g : Fin 4) (f : GroupS → GroupS) (s : State) : (updGroup g f s).time = s.time := rfl

/-! ### Queues -/

@[simp] theorem putQueue_time (q : Fin 64) (x : QueueS) (s : State) : (putQueue q x s).time = s.time := rfl
@[simp] theorem updQueue_time (q : Fin 64) (f : QueueS → QueueS) (s : State) : (updQueue q f s).time = s.time := rfl
@[simp] theorem qWatermark_time (q : Fin 64) (s : State) : (qWatermark q s).time = s.time :=
  (qWatermark_inStore q s).time (by simp)
@[simp] theorem swapIfDue_time (q : Fin 64) (s : State) : (swapIfDue q s).time = s.time :=
  (swapIfDue_inStore q s).time (by simp)
@[simp] theorem itemAbort_time (q : Fin 64) (s : State) : (itemAbort q s).time = s.time :=
  (itemAbort_inStore q s).time (by simp)
@[simp] theorem qEnqueue_time (q : Fin 64) (prod : Nat) (sop eop : Bool) (chseq : BitVec 16) (bs : List Byte) (poison : Bool)
    (s : State) : (qEnqueue q prod sop eop chseq bs poison s).2.time = s.time :=
  (qEnqueue_inStore ..).time (by simp)
@[simp] theorem passLink_time (q : Fin 64) (s : State) : (passLink q s).time = s.time := by simp [passLink]
@[simp] theorem queueFlush_time (q : Fin 64) (s : State) : (queueFlush q s).time = s.time := by simp [queueFlush]
@[simp] theorem qMark_time (q : Fin 64) (s : State) : (qMark q s).2.time = s.time := by simp [qMark, apply_ite Prod.snd]
@[simp] theorem qRewind_time (q : Fin 64) (s : State) : (qRewind q s).2.time = s.time := by
  unfold qRewind
  split
  · rfl
  · simp only []
    split
    · rfl
    · split <;> simp
@[simp] theorem qSkip_time (q : Fin 64) (s : State) : (qSkip q s).time = s.time := by
  unfold qSkip
  simp only []
  split <;> simp
@[simp] theorem qMarkForward_time (q : Fin 64) (k n : Nat) (s : State) : (qMarkForward q k n s).time = s.time :=
  (foldl_time (by simp) _ _).trans ((qMark_time ..).trans ((foldl_time (by simp) _ _).trans (qRewind_time ..)))

/-! ### Journal and life counters -/

@[simp] theorem journal_time (type sub src obj reason : Nat) (data : List Byte) (s : State) :
    (journal type sub src obj reason data s).time = s.time :=
  (journal_inStore ..).time (by simp)
@[simp] theorem lifeInc_time (k : Fin 12) (s : State) : (lifeInc k s).time = s.time := rfl
@[simp] theorem journalForward_time (sub obj reason : Nat) (halted queue : Nat) (injected : Bool) (s : State) :
    (journalForward sub obj reason halted queue injected s).time = s.time :=
  journal_time ..
@[simp] theorem journalConfig_time (sub src obj reason base : Nat) (s : State) :
    (journalConfig sub src obj reason base s).time = s.time :=
  journal_time ..

/-! ### Egress queues and requests to the arbiters -/

@[simp] theorem updXp_time (x : Fin 33) (f : XpCnt → XpCnt) (s : State) : (updXp x f s).time = s.time := rfl
@[simp] theorem raiseReq_time (pt : Fin 49) (r : Fin 48) (s : State) : (raiseReq pt r s).time = s.time := by simp [raiseReq]
@[simp] theorem raiseEgress_time (x : Fin 33) (s : State) : (raiseEgress x s).time = s.time := by simp [raiseEgress]
@[simp] theorem stompCount_time (x : Fin 33) (reason : Nat) (s : State) :
    (stompCount x reason s).time = s.time := by simp [stompCount]
@[simp] theorem stompTx_time (x : Fin 33) (reason : Nat) (s : State) : (stompTx x reason s).time = s.time := by
  unfold stompTx
  split <;> simp
@[simp] theorem stompItem_time (q : Fin 64) (s : State) : (stompItem q s).time = s.time := by
  unfold stompItem
  split
  · split <;> simp
  · rfl
@[simp] theorem flushQueue_time (q : Fin 64) (s : State) : (flushQueue q s).time = s.time := by simp [flushQueue]

/-! ### Fabric ports -/

@[simp] theorem updFport_time (f : Fin 4) (g : FPortS → FPortS) (s : State) : (updFport f g s).time = s.time := rfl
@[simp] theorem journalFabric_time (sub obj reason : Nat) (addr : BitVec 12) (uid : DWord) (snapId : Word) (s : State) :
    (journalFabric sub obj reason addr uid snapId s).time = s.time :=
  (journalFabric_inStore ..).time (by simp)
@[simp] theorem fabEnqueue_time (f : Fin 4) (tc prod : Nat) (b : List Byte) (poison : Bool) (s : State) :
    (fabEnqueue f tc prod b poison s).2.time = s.time := by simp [fabEnqueue, apply_ite Prod.snd]
@[simp] theorem altCount_time (dst : Nat) (s : State) : (altCount dst s).time = s.time := by
  unfold altCount
  split <;> simp
@[simp] theorem leaveUp_time (f : Fin 4) (reason : Nat) (off : Bool) (s : State) :
    (leaveUp f reason off s).time = s.time := by simp [leaveUp]
@[simp] theorem fabPortEval_time (f : Fin 4) (s : State) : (fabPortEval f s).time = s.time := by simp [fabPortEval]
@[simp] theorem fabFault_time (f : Fin 4) (reason : Nat) (s : State) : (fabFault f reason s).time = s.time := rfl

/-! ### Channels and control messages -/

@[simp] theorem frameSend_time (fclass tc dst prod : Nat) (body : List Byte) (badCrc : Bool) (s : State) :
    (frameSend fclass tc dst prod body badCrc s).2.time = s.time := by
  unfold frameSend
  split <;> simp [apply_ite Prod.snd]
@[simp] theorem ctrlFrames_time (peer : BitVec 12) (op : Byte) (slot : Nat) (tag : Half) (status : Nat) (fs : List (List Byte))
    (s : State) : (ctrlFrames peer op slot tag status fs s).time = s.time :=
  foldl_time (by simp) fs s
@[simp] theorem ctrlSend_time (peer : BitVec 12) (op : Byte) (slot : Nat) (fs : List (List Byte)) (s : State) :
    (ctrlSend peer op slot fs s).2.time = s.time := by simp [ctrlSend]
@[simp] theorem ctrlAnswered_time (peer : BitVec 12) (op : Byte) (slot : Nat) (tag : Half) (s : State) :
    (ctrlAnswered peer op slot tag s).time = s.time := rfl
@[simp] theorem updExp_time (p : Fin 24) (f : ExpS → ExpS) (s : State) : (updExp p f s).time = s.time := rfl
@[simp] theorem updImp_time (v : Fin 16) (f : ImpS → ImpS) (s : State) : (updImp v f s).time = s.time := rfl
@[simp] theorem impSend_time (v : Fin 16) (op : Byte) (fs : List (List Byte)) (s : State) :
    (impSend v op fs s).2.time = s.time := by simp [impSend]
@[simp] theorem xptPortReset_time (e : Fin 40) (kind : Nat) (s : State) : (xptPortReset e kind s).time = s.time := by
  unfold xptPortReset
  split
  · split
    · simp only [updImp_time, impSend_time]
      split <;> simp
    · rfl
  · rfl
@[simp] theorem xptPortPowerOff_time (e : Fin 40) (s : State) : (xptPortPowerOff e s).time = s.time := by
  unfold xptPortPowerOff
  split <;> simp
@[simp] theorem xptPortSuspend_time (e : Fin 40) (s : State) : (xptPortSuspend e s).time = s.time := by
  unfold xptPortSuspend
  split <;> simp
@[simp] theorem xptPortResume_time (e : Fin 40) (s : State) : (xptPortResume e s).time = s.time := by
  unfold xptPortResume
  split <;> simp
@[simp] theorem updChan_time (n : Fin 48) (f : ChanS → ChanS) (s : State) : (updChan n f s).time = s.time := rfl
@[simp] theorem claimMailboxes_time (s : State) : (claimMailboxes s).time = s.time :=
  eachFin_time (by simp) s
@[simp] theorem chanClose_time (n : Fin 48) (s : State) : (chanClose n s).time = s.time := by simp [chanClose]
@[simp] theorem chanFail_time (n : Fin 48) (s : State) : (chanFail n s).time = s.time := by simp [chanFail]
@[simp] theorem relayFrame_time (n : Fin 48) (seq : Byte) (r : List Byte) (s : State) :
    (relayFrame n seq r s).time = s.time := by simp [relayFrame]
@[simp] theorem chanReplay_time (n : Fin 48) (s : State) : (chanReplay n s).time = s.time := by simp [chanReplay, foldl_time]
@[simp] theorem markTo_time (n : Fin 48) (next : Byte) (s : State) : (markTo n next s).time = s.time := by simp [markTo]
@[simp] theorem ackReceive_time (n : Fin 48) (src : BitVec 12) (next : Byte) (nak : Bool) (win : BitVec 6) (s : State) :
    (ackReceive n src next nak win s).time = s.time := by simp [ackReceive]
@[simp] theorem ackFrame_time (n : Fin 48) (nak : Bool) (s : State) : (ackFrame n nak s).time = s.time := by simp [ackFrame]
@[simp] theorem dataReceive_time (n : Fin 48) (seq : Byte) (payload : List Byte) (good poison : Bool) (s : State) :
    (dataReceive n seq payload good poison s).time = s.time := by simp [dataReceive]
@[simp] theorem odxSend_time (dst : BitVec 12) (op tag : Byte) (index : Half) (sub : Byte) (status : Nat) (data : List Byte)
    (s : State) : (odxSend dst op tag index sub status data s).time = s.time :=
  foldl_time (by simp) _ s

/-! ### USB ports -/

@[simp] theorem putPort_time (s : State) (e : Fin 40) (p : PortS) : (putPort s e p).time = s.time := rfl
@[simp] theorem updPort_time (s : State) (e : Fin 40) (f : PortS → PortS) : (updPort s e f).time = s.time := rfl
@[simp] theorem portEval_time (e : Fin 40) (s : State) : (portEval e s).time = s.time := by simp [portEval]
@[simp] theorem portEvalAll_time (s : State) : (portEvalAll s).time = s.time :=
  eachFin_time (by simp) s
@[simp] theorem ssTermination_time (p : Fin 24) (s : State) : (ssTermination p s).time = s.time := rfl
@[simp] theorem pollingU0_time (p : Fin 24) (gen2 : Bool) (s : State) : (pollingU0 p gen2 s).time = s.time := rfl
@[simp] theorem pollingFail_time (p : Fin 24) (s : State) : (pollingFail p s).time = s.time := rfl
@[simp] theorem usb2Connect_time (p : Fin 24) (low : Bool) (s : State) : (usb2Connect p low s).time = s.time := rfl
@[simp] theorem usb2Disconnect_time (p : Fin 24) (s : State) : (usb2Disconnect p s).time = s.time := rfl
@[simp] theorem ssTermLost_time (p : Fin 24) (s : State) : (ssTermLost p s).time = s.time := rfl
@[simp] theorem ssInactive_time (p : Fin 24) (s : State) : (ssInactive p s).time = s.time := rfl

/-! ### Slots and groups -/

@[simp] theorem gateOff_time (p : Fin 24) (s : State) : (gateOff p s).time = s.time := by simp [gateOff]
@[simp] theorem slotMove_time (p : Fin 24) (f : SlotS → SlotS) (s : State) : (slotMove p f s).time = s.time := by
  simp [slotMove]
@[simp] theorem slotForceEval_time (p : Fin 24) (s : State) : (slotForceEval p s).time = s.time := by simp [slotForceEval]
@[simp] theorem slotForceHost_time (p : Fin 24) (on : Bool) (s : State) :
    (slotForceHost p on s).time = s.time := by simp [slotForceHost]
@[simp] theorem groupClose_time (g : Fin 4) (s : State) : (groupClose g s).time = s.time := by simp [groupClose]
@[simp] theorem spwApplied_time (old s : State) : (spwApplied old s).time = s.time :=
  eachFin_time (by simp) s

/-! ### Lease, keys and images of a master -/

@[simp] theorem dropShadowsOf_time (m : Fin 16) (s : State) : (dropShadowsOf m s).time = s.time := rfl
@[simp] theorem clearKeysOf_time (m : Fin 16) (s : State) : (clearKeysOf m s).time = s.time := rfl
@[simp] theorem clearHeldKey_time (m : Fin 16) (s : State) : (clearHeldKey m s).time = s.time := by
  unfold clearHeldKey
  split <;> rfl
@[simp] theorem adoptDrop_time (m : Fin 16) (s : State) : (adoptDrop m s).time = s.time := by simp [adoptDrop]
@[simp] theorem imageAbortBy_time (m : Fin 16) (s : State) : (imageAbortBy m s).time = s.time := by
  unfold imageAbortBy
  split
  · split <;> rfl
  · rfl
@[simp] theorem leaseEnd_time (s : State) : (leaseEnd s).time = s.time := by
  unfold leaseEnd
  split <;> simp
@[simp] theorem leaseRevoke_time (s : State) : (leaseRevoke s).time = s.time := by
  unfold leaseRevoke
  split <;> simp
@[simp] theorem ownerLoss_time (m : Fin 16) (s : State) : (ownerLoss m s).time = s.time := by simp [ownerLoss]

/-! ### Trees and their wakes -/

@[simp] theorem updTree_time (s : State) (u : Fin 3) (f : TreeS → TreeS) : (updTree s u f).time = s.time := rfl
@[simp] theorem updHub_time (s : State) (lh : Fin 6) (f : HubS → HubS) : (updHub s lh f).time = s.time := rfl
@[simp] theorem startWake_time (u : Fin 3) (hs : Bool) (s : State) : (startWake u hs s).time = s.time := by simp [startWake]
@[simp] theorem deviceWake_time (e : Fin 40) (hs : Bool) (s : State) : (deviceWake e hs s).time = s.time := by
  unfold deviceWake
  simp only []
  split <;> simp
@[simp] theorem treeDefault_time (u : Fin 3) (hs : Bool) (s : State) : (treeDefault u hs s).time = s.time := by
  simp [treeDefault, eachFin_time]
@[simp] theorem mfDefault_time (u : Fin 3) (mid : Bool) (s : State) : (mfDefault u mid s).time = s.time := by
  simp [mfDefault]

/-! ### Failover -/

@[simp] theorem updFo_time (s : State) (x : Fin 2) (f : FoS → FoS) : (updFo s x f).time = s.time := rfl
@[simp] theorem bridgeSof_time (s : State) : (bridgeSof s).time = s.time :=
  eachFin_time (by simp) s
@[simp] theorem foWatch_time (x : Fin 2) (s : State) : (foWatch x s).time = s.time := by simp [foWatch]
@[simp] theorem foRefresh_time (s : State) : (foRefresh s).time = s.time :=
  eachFin_time (by simp) s

/-! ### A changed layout -/

@[simp] theorem layoutChangeUp_time (old : State) (u : Fin 3) (s : State) : (layoutChangeUp old u s).time = s.time := by
  simp [layoutChangeUp]
@[simp] theorem layoutChange_time (old s : State) : (layoutChange old s).time = s.time := by
  simp [layoutChange, eachFin_time]

/-! ### Port requests of the hubs -/

@[simp] theorem setPowerEntry_time (hs : Bool) (e : Fin 40) (s : State) : (setPowerEntry hs e s).time = s.time := by
  unfold setPowerEntry
  simp only [portEval_time]
  split <;> simp
@[simp] theorem clearPowerEntry_time (hs : Bool) (e : Fin 40) (s : State) : (clearPowerEntry hs e s).time = s.time := by
  unfold clearPowerEntry
  simp only [portEval_time]
  split <;> simp
@[simp] theorem portResetEntry_time (hs : Bool) (e : Fin 40) (s : State) : (portResetEntry hs e s).time = s.time := by
  simp [portResetEntry]
@[simp] theorem portBhResetEntry_time (e : Fin 40) (s : State) : (portBhResetEntry e s).time = s.time := by
  simp [portBhResetEntry]
@[simp] theorem linkStateEntry_time (ls : Nat) (e : Fin 40) (s : State) : (linkStateEntry ls e s).time = s.time := by
  simp [linkStateEntry]
@[simp] theorem timeoutEntry_time (u2 : Bool) (t : Byte) (e : Fin 40) (s : State) : (timeoutEntry u2 t e s).time = s.time := rfl
@[simp] theorem suspendEntry_time (e : Fin 40) (s : State) : (suspendEntry e s).time = s.time := by simp [suspendEntry]
@[simp] theorem resumeEntry_time (e : Fin 40) (s : State) : (resumeEntry e s).time = s.time := by simp [resumeEntry]
@[simp] theorem disableEntry_time (e : Fin 40) (s : State) : (disableEntry e s).time = s.time := by simp [disableEntry]
@[simp] theorem runPortReq_time (r : PortReq) (e : Fin 40) (s : State) : (runPortReq r e s).time = s.time := by
  unfold runPortReq
  split <;> simp
@[simp] theorem erdyTick_time (s : State) : (erdyTick s).time = s.time :=
  eachFin_time (by simp) s
@[simp] theorem queueReports_time (s : State) : (queueReports s).time = s.time := rfl

/-! ### Exported and imported ports -/

@[simp] theorem unbindChan_time (n : Fin 48) (s : State) : (unbindChan n s).time = s.time := by simp [unbindChan]
@[simp] theorem closeEntry_time (e : Nat) (s : State) : (closeEntry e s).time = s.time :=
  foldl_time (by simp) _ s
@[simp] theorem exportGone_time (p : Fin 24) (s : State) : (exportGone p s).time = s.time := by simp [exportGone]
@[simp] theorem impPresent_time (v : Fin 16) (s : State) : (impPresent v s).time = s.time := by simp [impPresent]
@[simp] theorem importEnd_time (v : Fin 16) (st : ImpSt) (s : State) : (importEnd v st s).time = s.time := by
  simp [importEnd]
@[simp] theorem importLeft_time (v : Fin 16) (s : State) : (importLeft v s).time = s.time := by simp [importLeft]
@[simp] theorem xptFollow_time (s : State) : (xptFollow s).time = s.time := by simp [xptFollow, eachFin_time]

/-! ### Flooded frames, hellos and the election -/

@[simp] theorem sendOn_time (f : Fin 4) (h : FHdr) (body : List Byte) (s : State) : (sendOn f h body s).time = s.time :=
  (sendOn_ports ..).time
@[simp] theorem flood_time (but : Option (Fin 4)) (h : FHdr) (body : List Byte) (s : State) :
    (flood but h body s).time = s.time :=
  (flood_ports ..).time
@[simp] theorem broadcast_time (fclass : Nat) (body : List Byte) (s : State) : (broadcast fclass body s).time = s.time := by
  simp [broadcast]
@[simp] theorem elect_time (s : State) : (elect s).time = s.time :=
  (elect_within s).time (by simp)
@[simp] theorem helloReceive_time (f : Fin 4) (h : Hello) (s : State) : (helloReceive f h s).time = s.time := by
  simp [helloReceive]
@[simp] theorem takeAddress_time (s : State) : (takeAddress s).time = s.time := by
  unfold takeAddress
  split <;> simp

/-! ### Time frames, but an accepted SYNC -/

@[simp] theorem timeFrame_time (f : Fin 4) (body : List Byte) (s : State) : (timeFrame f body s).time = s.time :=
  sendOn_time ..
@[simp] theorem dreqReceive_time (f : Fin 4) (q : Byte) (t1 t2 t3 : DWord) (s : State) :
    (dreqReceive f q t1 t2 t3 s).time = s.time := by simp [dreqReceive]
@[simp] theorem drespReceive_time (f : Fin 4) (q : Byte) (t1 t2 t3 t4 : DWord) (s : State) :
    (drespReceive f q t1 t2 t3 t4 s).time = s.time := by simp [drespReceive]
@[simp] theorem syncSend_time (s : State) : (syncSend s).time = s.time := by simp [syncSend]
@[simp] theorem timeLeft_time (t : TimeSt) (s : State) : (timeLeft t s).time = s.time :=
  (timeLeft_within t s).time (by simp)

/-! ### Received frames -/

@[simp] theorem toQueue_time (f : Fin 4) (q : Fin 64) (b : List Byte) (s : State) : (toQueue f q b s).2.time = s.time := by
  simp [toQueue]
@[simp] theorem toQueueBad_time (q : Fin 64) (f : Fin 4) (b : List Byte) (s : State) : (toQueueBad q f b s).time = s.time := by
  simp [toQueueBad]
@[simp] theorem fabCrcErr_time (f : Fin 4) (s : State) : (fabCrcErr f s).time = s.time := rfl
@[simp] theorem forward_time (f : Fin 4) (h : FHdr) (b : List Byte) (s : State) : (forward f h b s).2.time = s.time := by
  unfold forward
  split
  · rfl
  · split <;> simp [apply_ite Prod.snd]

/-! ### Age counters -/

@[simp] theorem ageCountersReset_time (s : State) : (ageCountersReset s).time = s.time := by
  refine eachFin_time (fun pt t => ?_) s
  rfl

/-! ### Applied shadows -/

@[simp] theorem loadShadows_time (l : List Shadow) (s : State) : (loadShadows l s).time = s.time :=
  foldl_time (by simp) l s
@[simp] theorem refuseShadows_time (l : List Shadow) (s : State) : (refuseShadows l s).time = s.time := rfl
@[simp] theorem claimTimers_time (s : State) : (claimTimers s).time = s.time :=
  eachFin_time (by simp) s
@[simp] theorem ownersChanged_time (old s : State) : (ownersChanged old s).time = s.time :=
  eachFin_time (by simp) s
@[simp] theorem resolvePins_time (s : State) : (resolvePins s).time = s.time := by
  refine List.foldlRecOn (motive := fun x : Nat × State => x.2.time = s.time) _ _ rfl fun x hx k _ => ?_
  unfold pinStep
  simp [hx, apply_ite Prod.snd]
@[simp] theorem resolveServe_time (s : State) : (resolveServe s).time = s.time :=
  eachFin_time (by simp) s
@[simp] theorem applyPart_time (start : Bool) (p : Part) (l : List Shadow) (s : State) :
    (applyPart start p l s).time = s.time := by
  unfold applyPart
  split
  · rfl
  · cases p
    case topo | qm | spw => simp only []; split <;> simp [eachFin_time]
    case cfg =>
      simp only [claimMailboxes_time]
      refine (foldl_time (fun t h => ?_) l _).trans (loadShadows_time l s)
      split <;> rfl
    all_goals simp [eachFin_time]
@[simp] theorem applyGroups_time (mask : BitVec 16) (s : State) : (applyGroups mask s).time = s.time :=
  foldl_time (by simp) _ _
@[simp] theorem applyArmed_time (s : State) : (applyArmed s).time = s.time := by simp [applyArmed]

/-! ### Port engines at a tick -/

@[simp] theorem runLink_time (e : Fin 40) (ev : LinkEv) (s : State) : (runLink e ev s).time = s.time := by
  unfold runLink
  split
  · simp
  · split
    · simp only []
      split <;> simp
    · rfl
@[simp] theorem portResume_time (e : Fin 40) (s : State) : (portResume e s).time = s.time := by simp [portResume, foldl_time]
@[simp] theorem portsSettle_time (s : State) : (portsSettle s).time = s.time := by
  refine eachFin_time (fun e t => ?_) s
  split <;> simp
@[simp] theorem tickEntry_time (n : Fin 8) (s : State) : (tickEntry n s).time = s.time := by
  unfold tickEntry
  split
  · rfl
  · split
    case h_4 => split <;> rfl
    all_goals rfl
@[simp] theorem watchdogTick_time (n : Fin 8) (s : State) : (watchdogTick n s).time = s.time := by
  unfold watchdogTick
  split <;> rfl

/-! ### Domains and posted items -/

@[simp] theorem updDom_time (d : Fin 31) (f : DomS → DomS) (s : State) : (updDom d f s).time = s.time := rfl
@[simp] theorem domResult_time (code d : Nat) (s : State) : (domResult code d s).time = s.time := rfl
@[simp] theorem entryTimeouts_time (s : State) : (entryTimeouts s).time = s.time :=
  eachFin_time (by simp) s
@[simp] theorem postHeld_time (s : State) : (postHeld s).time = s.time :=
  foldl_time (by simp) _ _
@[simp] theorem selWrite_time (pll : Bool) (s : State) : (selWrite pll s).time = s.time := rfl

/-! ### The copy of a store -/

@[simp] theorem storeCopy_time (s : State) : (storeCopy s).time = s.time := by
  unfold storeCopy
  split
  · split <;> rfl
  · rfl

/-! ### Emergency messages -/

@[simp] theorem emcyClear_time (s : State) : (emcyClear s).time = s.time := by simp [emcyClear]
@[simp] theorem emcyTick_time (s : State) : (emcyTick s).time = s.time := by
  unfold emcyTick
  rw [emcyClear_time]
  exact foldl_time (by intros; rfl) _ s

/-! ### The start -/

@[simp] theorem upstreamsEnable_time (s : State) : (upstreamsEnable s).time = s.time := by
  unfold upstreamsEnable
  simp only [portEvalAll_time, countEv_time]
  exact (eachFin_time (by intros; rfl) _).trans (eachFin_time (by intros; rfl) s)
@[simp] theorem bootWaits_time (pll : Bool) (s : State) : (bootWaits pll s).time = s.time := by simp [bootWaits]
@[simp] theorem heldStart_time (s : State) : (heldStart s).time = s.time := by simp [heldStart]

/-! ### The parts of a boundary -/

@[simp] theorem groupsStart_time (s : State) : (groupsStart s).time = s.time := by
  refine eachFin_time (fun g t => ?_) s
  split <;> simp
@[simp] theorem staggerStart_time (s : State) : (staggerStart s).time = s.time := by simp [staggerStart]
@[simp] theorem tickT2_time (s : State) : (tickT2 s).time = s.time :=
  (eachFin_time (by simp) _).trans (eachFin_time (by simp) s)
@[simp] theorem tickUsb_time (s : State) : (tickUsb s).time = s.time := by simp [tickUsb, eachFin_time]
@[simp] theorem tickAo_time (s : State) : (tickAo s).time = s.time := by simp [tickAo]

end Sys2Proof.Machine

namespace Sys2Proof.Machine
open Sys2Proof

/-! ## The clock

TB, the next boundary and the tick number. Frames that arrive at a boundary can steer the rate and set the estimate flag (R235),
so of `State.time` these three alone are left alone by all of a boundary after the count. -/

/-- TB, the next boundary and the tick number. -/
def State.clock (s : State) : DWord × DWord × Word := (s.time.tb, s.time.nextBoundary, s.time.tick)

theorem clock_of_time {s t : State} (h : t.time = s.time) : t.clock = s.clock := by simp [State.clock, h]

theorem eachFin_clock {n : Nat} {f : Fin n → State → State} (h : ∀ i t, (f i t).clock = t.clock) (s : State) :
    (eachFin n f s).clock = s.clock := List.foldlRecOn (motive := fun t : State => t.clock = s.clock) _ _ rfl
  fun _ ht i _ => (h i _).trans ht

theorem timeLocked_clock (s : State) : (timeLocked s).clock = s.clock := by simp [State.clock, timeLocked_time]

theorem timeSync_clock (o : Int) (s : State) : (timeSync o s).clock = s.clock := by
  cases h : s.fab.tst with
  | free => rw [timeSync_starts (.inl h)]; rfl
  | holdover => rw [timeSync_starts (.inr h)]; rfl
  | master => unfold timeSync; rw [h]
  | locked =>
    rw [timeSync_locked h]
    split
    · exact clock_of_time (timeLeft_time ..)
    · rfl
  | acquire =>
    by_cases hb : o < -16000
    · rw [timeSync_behind h hb]; rfl
    by_cases ha : 16000 < o
    · rw [timeSync_ahead h ha]; rfl
    by_cases hg : o.natAbs ≤ 1600
    · rw [timeSync_good h hg]
      split
      · exact timeLocked_clock s
      · rfl
    · rw [timeSync_fair h (by omega) (by omega)]; rfl

theorem syncReceive_clock (f : Fin 4) (m : BitVec 12) (sseq : Word) (origin corr trx : DWord) (ttx : Tbl 4 DWord) (s : State) :
    (syncReceive f m sseq origin corr trx ttx s).clock = s.clock := by
  unfold syncReceive
  split
  · rfl
  · refine (timeSync_clock _ _).trans (clock_of_time (eachFin_time (fun g t => ?_) s))
    split
    · exact timeFrame_time ..
    · rfl

theorem timeReceive_clock (f : Fin 4) (body : List Byte) (t : Stamps) (s : State) : (timeReceive f body t s).clock = s.clock := by
  simp only [timeReceive]
  split
  · exact syncReceive_clock ..
  · exact clock_of_time (by simp)

theorem deliver_clock (f : Fin 4) (h : FHdr) (b : List Byte) (t : Stamps) (s : State) : (deliver f h b t s).2.clock = s.clock := by
  have hcrc : (if fcrcOk b = true then s else fabCrcErr f s).clock = s.clock := clock_of_time (by simp)
  simp only [deliver]
  generalize (if fcrcOk b = true then s else fabCrcErr f s) = s0 at hcrc ⊢
  rw [← hcrc]
  split
  case h_5 =>
    split
    · rfl
    · split
      · exact (clock_of_time (toQueue_time ..)).trans (timeReceive_clock ..)
      · exact timeReceive_clock ..
  all_goals exact clock_of_time (by (repeat' split) <;> simp)

theorem hand_clock (f : Fin 4) (h : FHdr) (b : List Byte) (t : Stamps) (s : State) : (hand f h b t s).2.clock = s.clock := by
  unfold hand
  extract_lets
  split
  · rfl
  · split
    · exact deliver_clock ..
    · exact clock_of_time (forward_time ..)

theorem fifoDrain_clock (f : Fin 4) (s : State) : (fifoDrain f s).clock = s.clock := by
  refine List.foldlRecOn (motive := fun a : List HeldFrame × State => a.2.clock = s.clock) _ _ rfl fun a ha x _ => ?_
  split
  · exact ha
  · have hh := hand_clock f (FHdr.ofBytes x.bytes) x.bytes { rx := s.time.tb * 16, tx := Tbl.fill 4 (s.time.tb * 16) } a.2
    split <;> simp_all

theorem tickFabric_clock (s : State) : (tickFabric s).clock = s.clock := by
  unfold tickFabric
  refine (eachFin_clock fifoDrain_clock _).trans (clock_of_time ?_)
  simp only [syncSend_time, elect_time, takeAddress_time]
  split <;> rfl

theorem clockSwitch_clock (s : State) : (clockSwitch s).clock = s.clock := by
  unfold clockSwitch; split <;> rfl

/-! ## The boundary (R14, R16) -/

theorem snapScheduled_only (s : State) : Only [.fab, .qm] s (snapScheduled s) := by
  have hrec : ∀ (l : List Word) (t : State), Only [.fab, .qm] t
      (l.foldl (fun t id => journalFabric 7 0 0 t.fab.addr Config.uniqueId id (countEv 33 t)) t) := fun l t =>
    List.foldlRecOn l _ (Only.refl _ t) fun u hu id _ => hu.trans (recorded_within ..).only
  have hclear : ∀ (l : List (Fin 4)) (t : State), Only [.fab, .qm] t (l.foldl (fun t n =>
      { t with snap := { t.snap with tgt := Tbl.upd t.snap.tgt n fun x => { x with armed := false } } }) t) := fun l t =>
    List.foldlRecOn l _ (Only.refl _ t) fun u hu n _ => hu.trans (snap_only rfl)
  unfold snapScheduled
  split
  · exact Only.refl _ s
  · extract_lets hit ids lost stepped unlocked s1 s2 _ s3
    have h2 : Only [.fab, .qm] s s2 := (hclear hit s).trans ((snapLatch_within ..).only.mono (by simp))
    have h3 : Only [.fab, .qm] s s3 := by
      refine h2.trans ?_
      clear_value s2
      simp only [s3]
      split
      · exact (fab_within (es := []) (by simp) rfl).only
      · exact Only.refl _ s2
    clear_value s3 hit
    split
    · exact Only.refl _ s
    · split
      · exact h3.trans (hrec ids s3)
      · exact h3

/-- With no dictionary value waiting for the tick, cycle T+1 leaves the time alone. -/
theorem odTick_time_of_pend_nil {s : State} (h : s.od.pend = []) : (odTick s).time = s.time := by
  unfold odTick
  rw [h]
  split <;> rfl

theorem tickT1_time_of_pend_nil {s : State} (h : s.od.pend = []) : (tickT1 s).time = s.time := by
  simp [tickT1, odTick_time_of_pend_nil h]

theorem pendingReset_of_none {s : State} (h : s.start.rstCmd = .none) : pendingReset s = s := by
  unfold pendingReset; rw [h]

theorem clockSwitch_od (s : State) : (clockSwitch s).od = s.od := by
  unfold clockSwitch; split <;> rfl

/-- Up to the waiting reset, cycle T leaves reset commands, waiting dictionary values and the time of the count as they are. -/
theorem framePeriod_snapScheduled_only (s : State) : Only [.fab, .qm] s (framePeriod (snapScheduled s)) :=
  (snapScheduled_only s).trans ((framePeriod_ports _).only.mono (by simp))

theorem tickT_of_no_reset {s : State} (h : s.start.rstCmd = .none) : (tickT s).clock = (tickCount s).clock ∧ (tickT s).od = s.od := by
  have hcycle := framePeriod_snapScheduled_only (tickCount s)
  have hstart : (framePeriod (snapScheduled (tickCount s))).start.rstCmd = .none := by rw [hcycle .start (by simp)]; exact h
  rw [tickT, pendingReset_of_none hstart]
  exact ⟨(clockSwitch_clock _).trans (clock_of_time (hcycle .time (by simp))), (clockSwitch_od _).trans (hcycle .od (by simp))⟩

theorem tickBoundary_idle {s : State} (h : s.start.stage ≠ .run) : tickBoundary s = s := if_pos h

theorem tickBoundary_clock {s : State} (hrun : s.start.stage = .run) (hrst : s.start.rstCmd = .none) (hod : s.od.pend = []) :
    (tickBoundary s).clock = (s.time.nextBoundary, s.time.nextBoundary + 125000, s.time.tick + 1) := by
  obtain ⟨hclock, hkept⟩ := tickT_of_no_reset hrst
  have hpend : (tickT s).od.pend = [] := by rw [hkept]; exact hod
  refine Eq.trans ?_ hclock
  simp only [tickBoundary, hrun, ne_eq, not_true_eq_false, if_false]
  split
  · rfl
  · calc (heldStart (staggerStart (tickUsb (tickFabric (tickAo (tickT2 (tickT1 (tickT s)))))))).clock
      _ = (tickFabric (tickAo (tickT2 (tickT1 (tickT s))))).clock := clock_of_time (by simp)
      _ = (tickAo (tickT2 (tickT1 (tickT s)))).clock := tickFabric_clock _
      _ = (tickT s).clock := clock_of_time (by simp [tickT1_time_of_pend_nil hpend])

/-! ## A step of TB (R14, R19) -/

/-- A forward step that is due as it is taken, before its record: TB moves by the step, and the next boundary and the last edge of
TIMEREF_IN move with it. -/
def stepTaken (s : State) : State :=
  let tb := s.time.tb + BitVec.ofNat 64 s.fab.step
  { s with
    time := { s.time with tb := tb, nextBoundary := boundaryAfterStep tb }
    fab := { s.fab with step := 0, trefLast := s.fab.trefLast.map fun t => t + BitVec.ofNat 64 s.fab.step } }

theorem stepTaken_only (s : State) : Only [.time, .fab] s (stepTaken s) := by
  intro p hp; cases p <;> simp_all [sameIn, eng, stepTaken]

theorem tbStep_none {s : State} (h : s.fab.step = 0) : tbStep s = s := if_pos (by simp [h])

theorem tbStep_taken {s : State} (hrun : s.start.stage = .run) (h : s.fab.step ≠ 0) :
    tbStep s = journalTime 2 srcDevice s.ao.calSec s.ao.calSec s.fab.step (stepTaken s) := if_neg (by simp [h, hrun])

theorem boundaryAfterStep_toNat {tb : DWord} (h : tb.toNat + 250000 < 2 ^ 64) :
    (boundaryAfterStep tb).toNat = (tb.toNat + 125000 + 124999) / 125000 * 125000 := by
  rw [boundaryAfterStep, BitVec.toNat_ofNat]
  exact Nat.mod_eq_of_lt (by omega)

theorem stepTaken_tb_toNat {s : State} (h : s.time.tb.toNat + s.fab.step < 2 ^ 64) :
    (stepTaken s).time.tb.toNat = s.time.tb.toNat + s.fab.step := by
  simp only [stepTaken, BitVec.toNat_add, BitVec.toNat_ofNat]
  omega

/-! ## Commands -/

theorem execTickBoundary_eq (s : State) : exec .tickBoundary s = .next (settle (tickBoundary s.fresh)) := rfl
theorem execTbStep_eq (s : State) : exec .tbStep s = .next (settle (tbStep s.fresh)) := rfl
theorem execTimerefOutPulse_eq (s : State) : exec .timerefOutPulse s = .next (settle (timerefOut s.fresh)) := rfl

theorem execTickBoundary_not_released {s : State} (h : s.start.stage ≠ .run) : exec .tickBoundary s = .next s.fresh := by
  rw [execTickBoundary_eq, tickBoundary_idle (s := s.fresh) h, settle_quiet rfl]

theorem execTickBoundary_released {s : State} (hrun : s.start.stage = .run) (hrst : s.start.rstCmd = .none) (hod : s.od.pend = []) :
    Completes .tickBoundary s fun t => t.time.tick = s.time.tick + 1 ∧ t.time.tb = s.time.nextBoundary ∧
      t.time.nextBoundary = s.time.nextBoundary + 125000 := by
  have hclock := (clock_of_time (settle_time _)).trans (tickBoundary_clock (s := s.fresh) hrun hrst hod)
  simp only [State.clock, Prod.mk.injEq] at hclock
  obtain ⟨htb, hnext, htick⟩ := hclock
  exact ⟨_, execTickBoundary_eq s, htick, htb, hnext⟩

theorem execTbStep_due {s : State} (hrun : s.start.stage = .run) (hstep : s.fab.step ≠ 0)
    (hroom : s.time.tb.toNat + s.fab.step + 250000 < 2 ^ 64) : Completes .tbStep s fun t =>
      t.time.tb.toNat = s.time.tb.toNat + s.fab.step ∧ t.time.nextBoundary.toNat % 125000 = 0 ∧
      t.time.tb.toNat + 125000 ≤ t.time.nextBoundary.toNat ∧ t.time.nextBoundary.toNat < t.time.tb.toNat + 250000 ∧
      t.time.tick = s.time.tick ∧ t.fab.step = 0 ∧ Only [.time, .fab, .qm] s t := by
  have hrec : InStore (stepTaken s.fresh) (tbStep s.fresh) := by
    rw [tbStep_taken (s := s.fresh) hrun hstep]; exact journalTime_inStore ..
  have htb : (stepTaken s.fresh).time.tb.toNat = s.time.tb.toNat + s.fab.step :=
    stepTaken_tb_toNat (s := s.fresh) (Nat.lt_of_le_of_lt (Nat.le_add_right _ 250000) hroom)
  have hnext : (stepTaken s.fresh).time.nextBoundary.toNat = _ :=
    boundaryAfterStep_toNat (tb := (stepTaken s.fresh).time.tb) (by omega)
  refine ⟨_, execTbStep_eq s, ?_⟩
  dsimp only
  rw [settle_time, settle_fab, hrec.time (by simp), hrec.fab (by simp), hnext, htb]
  exact ⟨rfl, by omega, by omega, by omega, rfl, rfl,
    done_frame (((stepTaken_only _).mono (by simp)).trans (hrec.only.mono (by simp)))⟩

theorem execTbStep_not_due {s : State} (h : s.fab.step = 0) : exec .tbStep s = .next s.fresh := by
  rw [execTbStep_eq, tbStep_none (s := s.fresh) h, settle_quiet rfl]

theorem execTimerefOutPulse_held {s : State} (hrun : s.start.stage = .run) (hpin : pinHeld s 2 = true) :
    exec .timerefOutPulse s = .next (s.fresh.emit [.timerefOut]) := by
  have hdriven : timerefOut s.fresh = s.fresh.emit [.timerefOut] :=
    if_pos (Bool.and_eq_true_iff.2 ⟨decide_eq_true hrun, hpin⟩)
  rw [execTimerefOutPulse_eq, hdriven, settle_quiet rfl]

end Sys2Proof.Machine

namespace Sys2Proof.Claims
open Sys2Proof Sys2Proof.Machine

/-- Settles O20: the boundary by the clock that all of a boundary after the count leaves alone, the step by the state as the step
is taken, of which its record changes the store alone. -/
theorem theTickAndTheStepsOfTime : Obligations.TheTickAndTheStepsOfTime :=
  ⟨fun _ => ⟨execTickBoundary_not_released, execTickBoundary_released⟩,
    fun _ hrun => ⟨execTbStep_due hrun, execTbStep_not_due, execTimerefOutPulse_held hrun⟩⟩

end Sys2Proof.Claims
